-- ==== Sys2Proof/Word.lean ====
section
/-! DEFINITION. The machine's plain words: bytes of frames and memories, and the 64-bit words of registers and tables (spec/00_scope.md R5). -/

namespace Sys2Proof

/-- One byte of a frame, a buffer or a memory. -/
abbrev Byte := BitVec 8

/-- One 64-bit register or table word. -/
abbrev Word64 := BitVec 64

end Sys2Proof
end

