-- ==== Sys2Proof/Syntax.lean ====
section
/-! DEFINITION. The commands that the block takes: one constructor per row of spec/opcode_table.json, in the table's order, with the row's operands. -/

namespace Sys2Proof

/-- A command: a host access, an event on a pin, or a step of the device's own. Operands name the object of the row (`sl` slice, `p` port, `h` half, `c` cluster, `e` engine, `n` context 64 c + t, `id` a transaction), the value `v` that a host write carries, and what the outside or the silicon contributes: bytes of a frame, a temperature, bit errors `ups` met in protected words (log entry 4). -/
inductive Instr where
  -- Host accesses (spec/15 R362 to R367)
  | hostRegisterWrite (a : Nat) (bs : List Byte)
  | hostBadAccess (rd : Bool) (a n : Nat) (full : Bool)
  | hostUnmappedAccess (rd : Bool) (bar a n : Nat)
  | bar2Write (o : Nat) (bs : List Byte)
  | hostReadTimeout (bar a : Nat) (n : Nat × Nat)
  | pcieReset
  -- Locks, fences and epochs (spec/02)
  | hostFenceWrite (token : Nat)
  | hostFenceComplete
  | lockWrite (v : Nat)
  | patchLockWrite (v : Nat)
  | partArm (n v : Nat)
  | epochAdvGo
  | epochStamp
  | epochRetire (n : Nat)
  | epochDrainWarn
  -- Lanes, ports and the MAC (spec/03)
  | octetModeWrite (sl k v : Nat)
  | laneMapWrite (sl k w v : Nat)
  | portCfgWrite (p v : Nat)
  | mgtCfgWrite (v : Nat)
  | pllLock (o : Nat)
  | signalDetect (p : Nat)
  | anComplete (p : Nat)
  | ltComplete (p : Nat)
  | rxAdaptDone (p : Nat) (coefs : List (List Int))
  | pcsAlignDone (p skew : Nat)
  | pcsLockLoss (p : Nat)
  | laneSignalLoss (l ns : Nat)
  | adaptUpdate (l : Nat) (moves : List Int) (ends : List Bool) (margin : Int)
  | rxFrame (p : Nat) (bs : List Byte) (cut : Nat) (ph : Nat) (fec : Nat × Nat × Nat)
  | rxPauseFrame (p : Nat) (f : List Byte × Nat × Nat × Nat)
  | txFrame (p ph und : Nat)
  | injectFrame (f : List Byte × Nat × Nat × Nat)
  -- Power, AVS, pace, temperature (spec/16)
  | wakeFrame (f : List Byte × Nat × Nat × Nat)
  -- Lanes, ports and the MAC (spec/03)
  | mgtPlainFrame (f : List Byte × Nat × Nat × Nat)
  | recircFrame (sl : Nat)
  -- Parser (spec/04)
  | parseFrame (p : Nat) (ups : List (Nat × Nat))
  | graphWalk (sl j : Nat) (ups : List (Nat × Nat))
  | profileWrite (sl p w v : Nat)
  -- Classifier (spec/05)
  | payloadScan (p : Nat) (ups : List (Nat × Nat))
  | classify (p : Nat) (ups fl : List (Nat × Nat))
  | clsScrub (sl ix : Nat) (ups fl : List (Nat × Nat))
  | clsEntryWrite (sl kind ix w v : Nat)
  | clsProbe (sl v : Nat)
  | clsProbeDone (sl : Nat) (ups fl : List (Nat × Nat))
  -- Forwarding (spec/06)
  | forwardLookup (p : Nat) (ups : List (Nat × Nat))
  | learnApply (sl j : Nat) (ups : List (Nat × Nat))
  | fwdAgeVisit (sl t k : Nat) (w : Bool × List (Nat × Nat))
  | fwdInsert (sl v : Nat)
  | fwdDelete (sl v : Nat)
  | fwdSetSets (sl v : Nat)
  | fwdLookup (sl v : Nat)
  | fwdCmdDone (sl : Nat)
  | tableWordWrite (sl o v : Nat)
  | ringRdWrite (r v : Nat)
  | ringBaseSizeWrite (r : Nat) (size : Bool) (v : Nat)
  -- The Quarry (spec/07)
  | faceLookup (p : Nat) (ups : List (Nat × Nat))
  | faceMissResume (sl : Nat)
  | flowUpdate (sl : Nat) (ups : List (Nat × Nat))
  | benchLookup (id : Nat) (ups : List (Nat × Nat))
  | lookupResponse (id : Nat)
  | benchWriteBack (id : Nat) (ups : List (Nat × Nat))
  | benchCommit (id : Nat) (ups : List (Nat × Nat))
  | commitResponse (id : Nat)
  | benchRelease (id : Nat) (ups : List (Nat × Nat))
  | benchLate (id : Nat) (ups : List (Nat × Nat))
  | pushReceive (k : Nat)
  | benchTimeout (id : Nat)
  | faceFlush (sl x : Nat)
  | faceIdleRelease (sl x : Nat)
  | faceFlushAll (sl v : Nat)
  | qryAgeVisit (h b j : Nat) (ups : List (Nat × Nat))
  | benchDelete (id : Nat) (ups : List (Nat × Nat))
  | deleteInvalidate (id sl : Nat)
  | deleteFinish (id : Nat)
  | qryLookup (v : Nat) (ups : List (Nat × Nat))
  | qryInsert (v : Nat) (ups : List (Nat × Nat))
  | qryDelete (v : Nat) (ups : List (Nat × Nat))
  | qryRead (v : Nat) (ups : List (Nat × Nat))
  | qryWrite (v : Nat) (ups : List (Nat × Nat))
  | qryCmdDone
  | qryGcfgWrite (v : Nat)
  | benchInitDone
  -- Threads, keepers and clusters (spec/08)
  | dispatch (c : Nat)
  | flowOrderRelease (c id : Nat)
  | forkChildReady (n : Nat)
  | faultDelivery (n : Nat)
  | keeperTimeout (n : Nat)
  | threadTimeout (n : Nat)
  | channelReclaim (c ix : Nat)
  | fogSignal (e : Nat)
  | clCtlWrite (c v : Nat)
  | shareCfgWrite (c v : Nat)
  | cregWrite (c ix v : Nat)
  -- Fetch and fences of a microword (spec/09)
  | microwordFetch (e t1 t2 up : Nat)
  -- Record, channel, packet and keeper operations (spec/07 to spec/10)
  | operationComplete (n : Nat)
  -- Fetch and fences of a microword (spec/09)
  | fenceLocal (n : Nat)
  | fenceFlow (n : Nat)
  | fenceAll (n : Nat)
  -- ALU operations (spec/09)
  | aluNop (n : Nat) (ups : List (Nat × Nat))
  | add (n : Nat) (ups : List (Nat × Nat))
  | sub (n : Nat) (ups : List (Nat × Nat))
  | and (n : Nat) (ups : List (Nat × Nat))
  | or (n : Nat) (ups : List (Nat × Nat))
  | xor (n : Nat) (ups : List (Nat × Nat))
  | andn (n : Nat) (ups : List (Nat × Nat))
  | mov (n : Nat) (ups : List (Nat × Nat))
  | shl (n : Nat) (ups : List (Nat × Nat))
  | shr (n : Nat) (ups : List (Nat × Nat))
  | sar (n : Nat) (ups : List (Nat × Nat))
  | srand (n : Nat) (ups : List (Nat × Nat))
  | shlor (n : Nat) (ups : List (Nat × Nat))
  | min (n : Nat) (ups : List (Nat × Nat))
  | max (n : Nat) (ups : List (Nat × Nat))
  | mullo (n : Nat) (ups : List (Nat × Nat))
  | mulhi (n : Nat) (ups : List (Nat × Nat))
  | csadd (n : Nat) (ups : List (Nat × Nat))
  | crc32c (n : Nat) (ups : List (Nat × Nat))
  | popcnt (n : Nat) (ups : List (Nat × Nat))
  | ffs (n : Nat) (ups : List (Nat × Nat))
  -- Memory operations (spec/09, spec/10)
  | memNop (n : Nat)
  | ldh (n : Nat)
  | sth (n : Nat)
  | ldk (n : Nat)
  | lds (n : Nat) (ups : List (Nat × Nat))
  | sts (n : Nat)
  | ldc (n : Nat) (ups : List (Nat × Nat))
  | stc (n : Nat)
  | atomAdd (n : Nat) (ups : List (Nat × Nat))
  | atomSwap (n : Nat) (ups : List (Nat × Nat))
  | atomCas (n : Nat) (ups : List (Nat × Nat))
  | ldm (n : Nat) (ups : List (Nat × Nat))
  | stm (n : Nat)
  | addm (n : Nat)
  | balloc (n : Nat)
  | bfree (n : Nat)
  | bref (n : Nat)
  | bld (n : Nat)
  | bst (n : Nat)
  | txgen (n : Nat)
  -- Record, channel, packet and keeper operations (spec/07 to spec/10)
  | qrd (n : Nat)
  | qwr (n : Nat)
  | qadd (n : Nat)
  | qrel (n : Nat)
  | qtake (n : Nat)
  | qins (n : Nat)
  | qdel (n : Nat)
  | copen (n : Nat)
  | cput (n : Nat)
  | ccommit (n : Nat)
  | cabort (n : Nat)
  | crecv (n : Nat) (ups : List (Nat × Nat))
  | pktSend (n : Nat)
  | pktDrop (n : Nat)
  | pktPunt (n : Nat)
  | pktRecirc (n : Nat)
  | hins (n : Nat)
  | hdel (n : Nat)
  | kopTake (n : Nat)
  | kopResume (n : Nat)
  | kopDrop (n : Nat)
  | kopPass (n : Nat)
  | kick (n : Nat)
  | rdp (n : Nat)
  | wrp (n : Nat)
  | rdh (n : Nat)
  | wrh (n : Nat)
  | kopStat (n : Nat)
  -- Sequencer operations (spec/09)
  | next (n : Nat)
  | jump (n : Nat)
  | branch (n : Nat)
  | mway (n : Nat)
  | call (n : Nat)
  | ret (n : Nat)
  | waitc (n : Nat) (ups : List (Nat × Nat))
  | fork (n : Nat)
  | join (n : Nat)
  | seqEnd (n : Nat)
  | kwait (n : Nat)
  -- Patch staging (spec/09)
  | patchWrite (c v : Nat)
  | patchCopy (c v : Nat)
  | patchRepair (c v : Nat)
  | patchDone (c : Nat) (ups : List (Nat × Nat)) (stuck : List Nat)
  -- Buffer pools (spec/11)
  | bpmEnable (h v : Nat)
  | bpmInitDone (h : Nat)
  | ringBatch (h k : Nat)
  | readMeta (h v : Nat)
  | releaseQ (h v : Nat)
  | findQ (h v : Nat)
  | bpmCmdDone (h : Nat)
  -- Switch core (spec/12)
  | admitFrame (k : Nat) (bw : Bool) (ups : List (Nat × Nat))
  | creditReturn (k : Nat)
  | d2dCross (k : Nat) (bw : Bool)
  | scheduleDequeue (p err : Nat)
  | overflowReadDone (p q : Nat)
  | residueRetry (h : Nat) (bw : Bool)
  | downHoldExpire (p : Nat)
  | residencyScan (p q : Nat)
  | pauseRefresh (p k : Nat)
  | pauseExpire (p k : Nat)
  -- Integrity and the persistent store (spec/17)
  | d2dFlitCrcError (g : Nat) (x : Nat × Nat)
  | d2dGroupFail (g cut : Nat)
  | hbmCmdRetry (k : Nat) (a : Nat × Nat)
  | hbmRetryFail (k kind x y : Nat) (old : List Byte)
  | rowRepairDone (l : Nat)
  | trackerWindowEnd (cls loc : Nat)
  | mapWrite (mv : Nat)
  | psDeferRetry (host : Bool) (mv : Nat)
  | psRead (v : Nat) (ups : List (Nat × Nat))
  | psWrite (v mv : Nat)
  | unretire (v mv : Nat)
  | psCmdDone
  -- Resets and power failure (spec/14, spec/17, spec/20)
  | pwrFailAssert (cut : Bool) (sent : Nat)
  | pwrFailDeassert
  -- Time unit (spec/13)
  | timeStepGo (v : Nat)
  | timeStep
  | adjWrite (v : Nat)
  | slewComplete
  | incrWrite (v : Nat)
  | todRead
  | refLoss
  | refLock
  | captureEdge (k ph : Nat)
  | ppsOutRise
  | ppsOutFall
  | txtsPop (p : Nat)
  | buoyRelease (p q : Nat)
  | buoyLaunch (p ph : Nat)
  -- Resets and power failure (spec/14, spec/17, spec/20)
  | coldReset (word : Bool) (sent : Nat)
  | softReset (key : Nat) (word : Bool) (sent : Nat)
  | resetRelease (straps : Nat)
  -- Boot sequence and reload (spec/14)
  | hbmInitDone (hbm : Bool) (flash dens sec page : Nat)
  | retirementMapApply (ups : List (Nat × Nat))
  | headerReadDone
  | imageReadDone
  | sigVerifyDone
  | ownCheckDone
  | imageApplyDone
  -- Boot controls and the flash controller (spec/14)
  | bootLoad (v : Nat)
  | bootOpen (v : Nat)
  | flReload (ix : Nat)
  -- Boot sequence and reload (spec/14)
  | reloadDone
  -- Boot controls and the flash controller (spec/14)
  | flWrite (slot mv : Nat)
  | flashOpDone (mv : Nat) (lost : List Nat)
  | flashDeferRetry (mv : Nat)
  -- GPIO, SMBus, TAP and fuses (spec/15)
  | gpioFnWrite (ix v : Nat)
  | ident (pec : Bool)
  | beacon (pec : Bool)
  | boot (pec : Bool)
  | tempMax (pec : Bool) (t0 t1 : Int)
  | tempH0 (pec : Bool) (t : Int)
  | tempH1 (pec : Bool) (t : Int)
  | vcoreReq (pec : Bool)
  | vcoreMeas (pec : Bool)
  | power (pec : Bool)
  | paceMin (pec : Bool)
  | health (pec : Bool)
  | smbusNak
  | smbusSclTimeout
  | extest (cells : Nat)
  | samplePreload (cells : Nat)
  | idcode
  | highz
  | clamp
  | extestPulse (cells : Nat)
  | extestTrain (cells : Nat)
  | bypass (code : Nat)
  -- Debug port (spec/15)
  | dbgAccess (wr : Bool) (o v : Nat)
  -- GPIO, SMBus, TAP and fuses (spec/15)
  | progHash (hash : Nat)
  | progSig
  | fuseRead
  | fuseCmdDone
  -- Debug port (spec/15)
  | dbgCtlWrite (c v : Nat)
  | halt (c t : Nat)
  | haltRelease (c t : Nat)
  | dbgResume (c t : Nat)
  | step (c t : Nat)
  | haltAll (c : Nat)
  | resumeAll (c : Nat)
  -- Power, AVS, pace, temperature (spec/16)
  | powerOn (v : Nat)
  | park (v : Nat)
  | powerOff (v : Nat)
  | parkDelayRetry
  | domainEntryDone
  | domainExitDone (kind ix : Nat)
  | engineDoze (e : Nat)
  | lineEnergyWake (o : Nat)
  | governorPeriod (paces : List Nat)
  | avsResponse (mv : Nat)
  | avsRetry
  | thermalWarn (h : Nat) (t : Int)
  | thermalLimit (h : Nat) (t : Int)
  | thermalTrip (h : Nat) (t : Int)
  | thermalTripClear (t0 t1 : Int)
  -- Resets and power failure (spec/14, spec/17, spec/20)
  | vcoreDip (mv : Nat) (word : Bool) (sent : Nat)
  | vcoreRecover (mv straps : Nat)
  -- Counters and bandwidth windows (spec/18)
  | ctrSweep (us : Nat) (ups : List (Nat × Nat))
  | ctrEnable (v : Nat)
  | ctrSync (token : Nat)
  | bwWindowEnd (sl j : Nat)
  | bwCfgWrite (sl j v : Nat)
  | bwPeakRead (sl j : Nat)
  -- GPIO, SMBus, TAP and fuses (spec/15)
  | tapReset
  -- Boot controls and the flash controller (spec/14)
  | flashBusyTimeout
  | flashReadTimeout
  -- Power, AVS, pace, temperature (spec/16)
  | thermalLimitClear (h : Nat) (t : Int)
deriving DecidableEq, Repr

end Sys2Proof
end

