-- ==== Sys2Proof/Config.lean ====
section
/-! DEFINITION. What one device fixes and the manual does not, and the free values: constants with no body, which no proof can see into. -/

namespace Sys2Proof

/-- The source of every value and every choice the manual leaves open: applied to the counter `freeCtr` of the state (log entry 2). -/
opaque Config.freeNat : Nat → Nat

/-- Whether this part is a DW5120ES (spec/00 R3). -/
opaque Config.isES : Bool

/-- The row of an HBM byte, as LOCATION bits [29:0] of class 7 give it: the manual does not say how the controllers place addresses (spec/17 Table 17.2, log entry 5). -/
opaque Config.hbmRow : Nat → BitVec 30

/-- The byte address in its stack of an HBM byte, as HBC.ERR_LOG reports it (spec/17, log entry 5). -/
opaque Config.hbmByte : Nat → BitVec 48

/-- A byte of the HBM row at a LOCATION, as an offset in its half (spec/17, log entry 5). -/
opaque Config.rowAddr : Nat → Nat

/-- Spare rows of an HBM bank (spec/17 R403): the manual gives no number (log entry 5). -/
opaque Config.spareRows : Nat → Nat

/-- The voltage of VDD_CORE at power-on, mV over 800: the regulator's, 0.80 to 0.85 V (spec/16 R391, log entry 6). -/
opaque Config.vBoot : Fin 51

/-- The levels that the board drives on the GPIO balls at a tick (spec/15 R373, log entry 95). -/
opaque Config.gpioBoard : Nat → Nat

/-- The level that the boundary cells, when they hold `cells`, drive on GPIO `i`: the manual does not give the order of the chain (spec/15 R376, log entry 96). -/
opaque Config.cellLevel : Nat → Nat → Bool

/-- The addresses that the host assigns to BAR0 and BAR2 (spec/15 R361, log entry 97). -/
opaque Config.hostBar : Nat → Nat

/-- Link Status of the endpoint: the rate and width to which its link has trained (spec/15 R361, log entry 97). -/
opaque Config.linkStatus : BitVec 16

/-- The configuration write, offset and 32-bit value, that the host makes at a tick (spec/15 R361, R367, log entry 97). -/
opaque Config.hostCfg : Nat → Option (Nat × Nat)

/-- The unique number fixed at manufacture (spec/15 R370). -/
opaque Config.uid : BitVec 64

end Sys2Proof
end

