-- ==== Sys2Proof/Machine/Sparse.lean ====
section
/-! DEFINITION. Sparse data in one canonical form: a list of (key, value) pairs, keys strictly rising, no value equal to what an unlisted key reads as. -/

namespace Sys2Proof.Machine

/-- Sparse data by key. -/
abbrev Sparse (α : Type) := List (Nat × α)

/-- The value at key `k`; an unlisted key reads as `dflt`. -/
def sget {α : Type} : Sparse α → Nat → α → α
  | [], _, dflt => dflt
  | (j, v) :: m, k, dflt => if j = k then v else sget m k dflt

/-- Takes key `k` out. -/
def sdel {α : Type} (m : Sparse α) (k : Nat) : Sparse α := m.filter (fun e => decide (e.1 ≠ k))

/-- Puts `v` at key `k`, in order. -/
def sput {α : Type} : Sparse α → Nat → α → Sparse α
  | [], k, v => [(k, v)]
  | (j, w) :: m, k, v =>
    if j = k then (k, v) :: m
    else if k < j then (k, v) :: (j, w) :: m
    else (j, w) :: sput m k v

/-- Writes `v` at key `k`, keeping the canonical form: the default value is not listed. -/
def sset {α : Type} [DecidableEq α] (m : Sparse α) (k : Nat) (v dflt : α) : Sparse α :=
  if v = dflt then sdel m k else sput m k v

/-- Every key is greater than `k`. -/
def sabove {α : Type} (k : Nat) : Sparse α → Bool
  | [] => true
  | (j, _) :: m => Nat.blt k j && sabove k m

/-- Keys strictly rising. -/
def ssorted {α : Type} : Sparse α → Bool
  | [] => true
  | (j, _) :: m => sabove j m && ssorted m

/-- The first element of a list that meets `p`, taken out, with the rest in order. -/
def takeFirst {α : Type} (p : α → Bool) : List α → Option (α × List α)
  | [] => none
  | a :: as =>
    if p a then some (a, as)
    else match takeFirst p as with
      | some (b, bs) => some (b, a :: bs)
      | none => none

/-- Replaces the first element that meets `p` by `f` of it. -/
def mapFirst {α : Type} (p : α → Bool) (f : α → α) : List α → List α
  | [] => []
  | a :: as => if p a then f a :: as else a :: mapFirst p f as

/-- Element `i` of a list, or `dflt`. -/
def nthD {α : Type} : List α → Nat → α → α
  | [], _, dflt => dflt
  | a :: _, 0, _ => a
  | _ :: as, i + 1, dflt => nthD as i dflt

/-- The list with element `i` replaced, if there is one. -/
def setNth {α : Type} : List α → Nat → α → List α
  | [], _, _ => []
  | _ :: as, 0, v => v :: as
  | a :: as, i + 1, v => a :: setNth as i v

/-- Folds over the indices 0 to n − 1 in rising order. -/
def forN {β : Type} (n : Nat) (b : β) (f : Nat → β → β) : β :=
  match n with
  | 0 => b
  | k + 1 => f k (forN k b f)

end Sys2Proof.Machine
end

