-- ==== Sys2Proof/Machine/Bits.lean ====
section
/-! DEFINITION. Bit fields, byte orders, sums and checks over bytes that several chapters use. -/

namespace Sys2Proof.Machine

/-- Bits [hi:lo] of `v`. -/
def bits (v hi lo : Nat) : Nat := v / 2 ^ lo % 2 ^ (hi - lo + 1)

/-- Bit `i` of `v`. -/
def bit (v i : Nat) : Bool := v / 2 ^ i % 2 == 1

/-- 1 for true. -/
def b2n (b : Bool) : Nat := if b then 1 else 0

/-- `v` with bits [hi:lo] replaced by `x`. -/
def setBits (v hi lo x : Nat) : Nat :=
  v - bits v hi lo * 2 ^ lo + x % 2 ^ (hi - lo + 1) * 2 ^ lo

/-- `v` with bit `i` set. -/
def setBit (v i : Nat) : Nat := Nat.lor v (2 ^ i)

/-- `v` with bit `i` clear. -/
def clrBit (v i : Nat) : Nat := if bit v i then Nat.xor v (2 ^ i) else v

/-- Subtraction modulo 2^n. -/
def subMod (n a b : Nat) : Nat := (a % 2 ^ n + 2 ^ n - b % 2 ^ n) % 2 ^ n

/-- The two's-complement value of an n-bit word. -/
def sgn (n v : Nat) : Int := if v % 2 ^ n < 2 ^ (n - 1) then (v % 2 ^ n : Nat) else (v % 2 ^ n : Nat) - (2 ^ n : Nat)

/-- The n-bit two's-complement word of an integer. -/
def toWord (n : Nat) (x : Int) : Nat := (x % (2 ^ n : Nat)).toNat

/-- The little-endian value of bytes. -/
def leNat : List Byte → Nat
  | [] => 0
  | b :: bs => b.toNat + 256 * leNat bs

/-- The big-endian (network order) value of bytes, from `acc`. -/
def beNatFrom (acc : Nat) : List Byte → Nat
  | [] => acc
  | b :: bs => beNatFrom (256 * acc + b.toNat) bs

/-- The network-order value of bytes. -/
def beNat (bs : List Byte) : Nat := beNatFrom 0 bs

/-- The low `n` bytes of `v`, least significant first. -/
def natLE : Nat → Nat → List Byte
  | 0, _ => []
  | n + 1, v => BitVec.ofNat 8 v :: natLE n (v / 256)

/-- The low `n` bytes of `v`, most significant first. -/
def natBE (n v : Nat) : List Byte := (natLE n v).reverse

/-- Bytes [off, off + len) of a list, filled with zero bytes past its end. -/
def sliceB (bs : List Byte) (off len : Nat) : List Byte :=
  let t := (bs.drop off).take len
  t ++ List.replicate (len - t.length) 0

/-- The list with `new` written over it from `off`; it does not grow. -/
def writeB (bs : List Byte) (off : Nat) (new : List Byte) : List Byte :=
  (bs.take off ++ new.take (bs.length - off)) ++ bs.drop (off + new.length)

/-- The network-order value of `len` bytes at `off`. -/
def beAt (bs : List Byte) (off len : Nat) : Nat := beNat (sliceB bs off len)

/-- Byte `i`, 0 past the end. -/
def byteAt (bs : List Byte) (i : Nat) : Nat := (nthD bs i 0).toNat

/-- One bit step of a reflected CRC. -/
def crcStep (poly c : Nat) : Nat := if c % 2 = 1 then Nat.xor (c / 2) poly else c / 2

/-- One byte of a reflected CRC. -/
def crcByte (poly c : Nat) (b : Byte) : Nat :=
  let s := crcStep poly
  s (s (s (s (s (s (s (s (Nat.xor c b.toNat))))))))

/-- A reflected CRC register run over bytes from `c`. -/
def crcRun (poly : Nat) : Nat → List Byte → Nat
  | c, [] => c
  | c, b :: bs => crcRun poly (crcByte poly c b) bs

/-- `crc_raw` of chapter 03: zero start, no final inversion. -/
def crcRaw (bs : List Byte) : Nat := crcRun 0xEDB88320 0 bs

/-- The 802.3 FCS of a frame without its FCS (spec/03 "FCS check, stomp and carry-through"). -/
def fcsOf (bs : List Byte) : Nat := Nat.xor (crcRun 0xEDB88320 0xFFFFFFFF bs) 0xFFFFFFFF

/-- CRC-32C with start and final complement of all ones. -/
def crc32c (bs : List Byte) : Nat := Nat.xor (crcRun 0x82F63B78 0xFFFFFFFF bs) 0xFFFFFFFF

/-- One's-complement 16-bit sum with end-around carry. -/
def csAdd (a b : Nat) : Nat :=
  let t := a + b
  let u := t % 65536 + t / 65536
  u % 65536 + u / 65536

/-- The number of one bits among the low `n` bits. -/
def popN : Nat → Nat → Nat
  | 0, _ => 0
  | n + 1, v => v % 2 + popN n (v / 2)

/-- The index of the lowest one bit among the low `n` bits; `n` if there is none. -/
def lowestBit : Nat → Nat → Nat
  | 0, _ => 0
  | n + 1, v => if v % 2 = 1 then 0 else 1 + lowestBit n (v / 2)

/-- The largest power of two index: floor of log2, 0 for 0. -/
def log2 (v : Nat) : Nat := Nat.log2 v

/-- Whether `v` is a power of two. -/
def isPow2 (v : Nat) : Bool := v != 0 && v == 2 ^ Nat.log2 v

/-- Byte-wise XOR of two byte lists of equal length. -/
def xorBytes : List Byte → List Byte → List Byte
  | a :: as, b :: bs => (a ^^^ b) :: xorBytes as bs
  | _, _ => []

end Sys2Proof.Machine
end

