-- ==== Sys2Proof/Machine/Events.lean ====
section
/-! DEFINITION. The numbers of the event sources (spec/19 R436, R437, Tables 19.11 and 19.12). -/

namespace Sys2Proof.Machine

def EV_BOOT_DONE : Nat := 0
def EV_BOOT_FAILED : Nat := 1
def EV_BOOT_FALLBACK : Nat := 2
def EV_HOST_ACCESS_ERR : Nat := 3
def EV_OWN_REFUSED : Nat := 4
def EV_PART_WRITE_REFUSED : Nat := 5
def EV_EPOCH_ADV_REFUSED : Nat := 6
def EV_EPOCH_DRAIN_SLOW : Nat := 7
def EV_MGT_LINK_CHANGE : Nat := 8
def EV_TMU_STEP : Nat := 16
def EV_TMU_REF_LOSS : Nat := 17
def EV_TMU_REF_LOCK : Nat := 18
def EV_TMU_PPS_IN : Nat := 19
def EV_TMU_CAPTURE : Nat := 20
def EV_TMU_TXTS_FULL : Nat := 21
def EV_TMU_BUOY_FAR : Nat := 22
def EV_TMU_BUOY_LATE : Nat := 23
def EV_PWR_REFUSED : Nat := 32
def EV_PWR_WAKE : Nat := 33
def EV_AVS_NO_REPLY : Nat := 34
def EV_PACE_LOW : Nat := 35
def EV_THERMAL_WARN : Nat := 36
def EV_THERMAL_LIMIT : Nat := 37
def EV_THERMAL_TRIP : Nat := 38
def EV_NVS_FLASH_DONE : Nat := 48
def EV_NVS_FLASH_DEFER : Nat := 49
def EV_NVS_PS_DEFER : Nat := 50
def EV_NVS_PWR_FAIL : Nat := 51
def EV_NVS_ECC : Nat := 52
def EV_FLT_LASTING : Nat := 53
def EV_FLT_TRACK_FULL : Nat := 54
def EV_FLT_MAP_LOST : Nat := 55
def EV_CTR_CFG_ERR : Nat := 56
def EV_CTR_SWEEP_LATE : Nat := 57
def EV_CTR_ACC_ECC : Nat := 58
def EV_D2D_GROUP_FAIL : Nat := 59
def EV_D2D_DOWN : Nat := 60

def EV_BPM_CFG_ERR (h : Nat) : Nat := 16 * (4 + h) + 0
def EV_BPM_POOL_EMPTY (h : Nat) : Nat := 16 * (4 + h) + 1
def EV_BUF_DOUBLE_FREE (h : Nat) : Nat := 16 * (4 + h) + 2
def EV_BUF_NONOWNER_FREE (h : Nat) : Nat := 16 * (4 + h) + 3
def EV_BUF_BAD_HANDLE (h : Nat) : Nat := 16 * (4 + h) + 4
def EV_BPM_QUAR_FULL (h : Nat) : Nat := 16 * (4 + h) + 5
def EV_BPM_PARITY (h : Nat) : Nat := 16 * (4 + h) + 6
def EV_HBC_RETRY_FAIL (h : Nat) : Nat := 16 * (4 + h) + 7
def EV_HBC_ROW_RETIRED (h : Nat) : Nat := 16 * (4 + h) + 8
def EV_HBC_ROW_UNREPAIRED (h : Nat) : Nat := 16 * (4 + h) + 9
def EV_QRY_ENDLOG_FULL (h : Nat) : Nat := 16 * (4 + h) + 10
def EV_QRY_INS_RATE (h : Nat) : Nat := 16 * (4 + h) + 11
def EV_QRY_TABLE_FULL (h : Nat) : Nat := 16 * (4 + h) + 12
def EV_SWC_RESIDUE_FULL (h : Nat) : Nat := 16 * (4 + h) + 13
def EV_QRY_ECC_CORR (h : Nat) : Nat := 16 * (4 + h) + 14
def EV_QRY_ECC_UNCORR (h : Nat) : Nat := 16 * (4 + h) + 15

def EV_LINK_CHANGE (s : Nat) : Nat := 16 * (8 + s) + 0
def EV_LANE_ADAPT_LIMIT (s : Nat) : Nat := 16 * (8 + s) + 1
def EV_LANE_MARGIN_LOW (s : Nat) : Nat := 16 * (8 + s) + 2
def EV_LANE_MAP_REFUSED (s : Nat) : Nat := 16 * (8 + s) + 3
def EV_PRS_GRAPH_OVERRUN (s : Nat) : Nat := 16 * (8 + s) + 4
def EV_PRS_NOCLAIM (s : Nat) : Nat := 16 * (8 + s) + 5
def EV_PRS_PROFILE_BUSY (s : Nat) : Nat := 16 * (8 + s) + 6
def EV_PRS_PARITY (s : Nat) : Nat := 16 * (8 + s) + 7
def EV_CLS_FALSE_HIT (s : Nat) : Nat := 16 * (8 + s) + 8
def EV_CLS_PARITY (s : Nat) : Nat := 16 * (8 + s) + 9
def EV_CLS_SCRUB_FIX (s : Nat) : Nat := 16 * (8 + s) + 10
def EV_FWD_LEARN_FULL (s : Nat) : Nat := 16 * (8 + s) + 11
def EV_FWD_LOG_FULL (s : Nat) : Nat := 16 * (8 + s) + 12
def EV_FWD_PARITY (s : Nat) : Nat := 16 * (8 + s) + 13
def EV_SCT_BW_HIGH (s : Nat) : Nat := 16 * (8 + s) + 14
def EV_QRY_BENCH_TIMEOUT (s : Nat) : Nat := 16 * (16 + s) + 0
def EV_QRY_STATE_CONFLICT (s : Nat) : Nat := 16 * (16 + s) + 1
def EV_SWC_XOFF (s : Nat) : Nat := 16 * (16 + s) + 2
def EV_SWC_SPILL_FULL (s : Nat) : Nat := 16 * (16 + s) + 3
def EV_SWC_CT_UNDERRUN (s : Nat) : Nat := 16 * (16 + s) + 4
def EV_SWC_RESIDENCY_DROP (s : Nat) : Nat := 16 * (16 + s) + 5
def EV_SWC_XH_EMPTY (s : Nat) : Nat := 16 * (16 + s) + 6
def EV_ENG_DISPATCH_OVERRUN (s : Nat) : Nat := 16 * (24 + s) + 0
def EV_ENG_FAULT (s : Nat) : Nat := 16 * (24 + s) + 1
def EV_ENG_KEEPER_FAULT (s : Nat) : Nat := 16 * (24 + s) + 2
def EV_ENG_KEEPER_SLOW (s : Nat) : Nat := 16 * (24 + s) + 3
def EV_FOG_SIGNAL (s : Nat) : Nat := 16 * (24 + s) + 4
def EV_ENG_CHANNEL_RECLAIM (s : Nat) : Nat := 16 * (24 + s) + 5
def EV_ENG_MCHECK (s : Nat) : Nat := 16 * (24 + s) + 6
def EV_ENG_MCHECK_LASTING (s : Nat) : Nat := 16 * (24 + s) + 7
def EV_ENG_RETIRED (s : Nat) : Nat := 16 * (24 + s) + 8
def EV_DBG_HALT (s : Nat) : Nat := 16 * (24 + s) + 9

end Sys2Proof.Machine
end

