-- ==== Sys2Proof/Machine/Reg.lean ====
section
/-! DEFINITION. What a register field and a register layout are: place, width, access type (spec/00_scope.md R7, Table 0.4) and reset value. -/

namespace Sys2Proof.Machine

/-- One register field. `key` is the BAR0 bit address of its lowest bit (8 times the register's byte offset plus the bit number), `w` its width, `rst` its reset value (R6). -/
structure Fld where
  key : Nat
  w : Nat
  rst : Nat
deriving DecidableEq, Repr

/-- The access types of Table 0.4. -/
inductive Acc where
  | rw | ro | wo | w1c | w1s | rc | rwl
deriving DecidableEq, Repr

/-- Which written values a field accepts; the tables write "other values ignored". -/
inductive Rule where
  | any
  /-- every value but 0 -/
  | nz
  /-- at most `n` -/
  | le (n : Nat)
  /-- from `a` to `b` -/
  | inR (a b : Nat)
  /-- a multiple of `n` -/
  | al (n : Nat)
  /-- 0, or a power of two from `a` to `b` -/
  | p2 (a b : Nat)
deriving DecidableEq, Repr

/-- Whether a rule accepts a value. -/
def Rule.ok : Rule → Nat → Bool
  | .any, _ => true
  | .nz, v => v != 0
  | .le n, v => Nat.ble v n
  | .inR a b, v => Nat.ble a v && Nat.ble v b
  | .al n, v => v % n == 0
  | .p2 a b, v => v == 0 || (Nat.ble a v && Nat.ble v b && v == 2 ^ Nat.log2 v)

/-- One field of a layout, placed by its lowest bit within the register. -/
structure FldL where
  lo : Nat
  w : Nat
  acc : Acc
  rst : Nat
  rule : Rule
deriving DecidableEq, Repr

/-- One family of like registers: the offset of the first, the (count, stride) of each index, the size in bytes, the fields. -/
structure RegFam where
  base : Nat
  dims : List (Nat × Nat)
  bytes : Nat
  flds : List FldL
deriving DecidableEq, Repr

/-- The slice of a port of the MAC numbering: front ports by R12, port 256 in slice 0, recirculation port 257 + s in slice s (R60). -/
def portSlice (p : Nat) : Nat :=
  if p < 256 then p / 32 else if p = 256 then 0 else p - 257

/-- The port index within its slice: 32 for port 256, 33 for a recirculation port (R60). -/
def portIdx (p : Nat) : Nat :=
  if p < 256 then p % 32 else if p = 256 then 32 else 33

/-- Whether offset `off` from a family's base is the start of one of its registers. -/
def RegFam.atIndex : List (Nat × Nat) → Nat → Bool
  | [], off => off == 0
  | (n, st) :: ds, off => Nat.blt (off / st) n && RegFam.atIndex ds (off % st)

/-- Whether offset `off` of a family with one register per port index of a slice is that of index 32, port 256's. -/
def RegFam.atPort256 : List (Nat × Nat) → Nat → Bool
  | [], _ => false
  | (n, st) :: ds, off => (n == 34 && off / st == 32) || RegFam.atPort256 ds (off % st)

/-- The start offset of the family's register that holds byte `addr`, if any. Port 256 lies in slice 0 alone: index 32 of slices 1 to 7 is reserved (spec/03 R60, spec/19 R430). -/
def RegFam.regAt (f : RegFam) (addr : Nat) : Option Nat :=
  let a := addr / f.bytes * f.bytes
  if Nat.ble f.base a && RegFam.atIndex f.dims (a - f.base) && !(Nat.ble (f.base + 0x400000) a && RegFam.atPort256 f.dims (a - f.base)) then some a
  else none

/-- The register that holds byte `addr`: its start and its family. -/
def findReg : List RegFam → Nat → Option (Nat × RegFam)
  | [], _ => none
  | f :: fs, addr =>
    match f.regAt addr with
    | some a => some (a, f)
    | none => findReg fs addr

end Sys2Proof.Machine
end

