-- ==== Sys2Proof/Machine/RegsDev.lean ====
section
/-! DEFINITION. RegsDev: the device-level and half-level registers, one definition per field, and their layout. Each register's comment names the table or rule of spec/ that lays it out. -/

namespace Sys2Proof.Machine

-- GLB.DIE_ID: 15 Table 15.5 R370.
def GLB.DIE_ID.FAMILY : Fld := ⟨8 * (0x0) + 24, 8, 0x1⟩
def GLB.DIE_ID.PART : Fld := ⟨8 * (0x0) + 8, 16, 0x5120⟩
def GLB.DIE_ID.STEPPING : Fld := ⟨8 * (0x0) + 4, 4, 0x0⟩
def GLB.DIE_ID.GRADE : Fld := ⟨8 * (0x0) + 0, 4, 0x1⟩
-- GLB.DIE_UID_LO: 15 Table 15.5 R370.
def GLB.DIE_UID_LO.UID_LO : Fld := ⟨8 * (0x8) + 0, 32, 0x0⟩
-- GLB.DIE_UID_HI: 15 Table 15.5 R370.
def GLB.DIE_UID_HI.UID_HI : Fld := ⟨8 * (0xC) + 0, 32, 0x0⟩
-- GLB.WIN_BASE_LO: 15 R368.
def GLB.WIN_BASE_LO.LO : Fld := ⟨8 * (0x10) + 30, 2, 0x0⟩
-- GLB.WIN_BASE_HI: 15 R368.
def GLB.WIN_BASE_HI.HI : Fld := ⟨8 * (0x14) + 0, 16, 0x0⟩
-- GLB.HOST_ERR: 15 Table 15.4 R362-R366.
def GLB.HOST_ERR.BOOT_DROP : Fld := ⟨8 * (0x20) + 4, 1, 0x0⟩
def GLB.HOST_ERR.PARKED : Fld := ⟨8 * (0x20) + 3, 1, 0x0⟩
def GLB.HOST_ERR.UNMAPPED : Fld := ⟨8 * (0x20) + 2, 1, 0x0⟩
def GLB.HOST_ERR.RD_TMO : Fld := ⟨8 * (0x20) + 1, 1, 0x0⟩
def GLB.HOST_ERR.BAD_SIZE : Fld := ⟨8 * (0x20) + 0, 1, 0x0⟩
-- GLB.HOST_ERR_ADDR: 15 Table 15.4 R364.
def GLB.HOST_ERR_ADDR.BAR : Fld := ⟨8 * (0x28) + 63, 1, 0x0⟩
def GLB.HOST_ERR_ADDR.ADDR : Fld := ⟨8 * (0x28) + 0, 48, 0x0⟩
-- GLB.LOCK: 19 Table 19.3 R431 R8.
def GLB.LOCK.LOCK : Fld := ⟨8 * (0x40) + 0, 1, 0x0⟩
-- GLB.BOOT_STAT: 14 Table 14.10 R355.
def GLB.BOOT_STAT.ERR_LAST : Fld := ⟨8 * (0x100) + 24, 8, 0x0⟩
def GLB.BOOT_STAT.ERR_FIRST : Fld := ⟨8 * (0x100) + 16, 8, 0x0⟩
def GLB.BOOT_STAT.FALLBACK : Fld := ⟨8 * (0x100) + 10, 1, 0x0⟩
def GLB.BOOT_STAT.LOADED : Fld := ⟨8 * (0x100) + 8, 2, 0x0⟩
def GLB.BOOT_STAT.SIG_FUSE : Fld := ⟨8 * (0x100) + 7, 1, 0x0⟩
def GLB.BOOT_STAT.XSPI_SPEED : Fld := ⟨8 * (0x100) + 6, 1, 0x0⟩
def GLB.BOOT_STAT.BOOT : Fld := ⟨8 * (0x100) + 4, 2, 0x0⟩
def GLB.BOOT_STAT.STATE : Fld := ⟨8 * (0x100) + 0, 4, 0x0⟩
-- GLB.BOOT_SEQ: 14 Table 14.10.
def GLB.BOOT_SEQ.SEQ : Fld := ⟨8 * (0x104) + 0, 32, 0x0⟩
-- GLB.BOOT_DETAIL: 14 Table 14.10 R345.
def GLB.BOOT_DETAIL.RECORD : Fld := ⟨8 * (0x108) + 10, 22, 0x0⟩
def GLB.BOOT_DETAIL.SECTION : Fld := ⟨8 * (0x108) + 0, 10, 0x0⟩
-- GLB.BOOT_CTL: 14 Table 14.10 R347.
def GLB.BOOT_CTL.NEXT : Fld := ⟨8 * (0x10C) + 2, 2, 0x0⟩
def GLB.BOOT_CTL.OPEN : Fld := ⟨8 * (0x10C) + 1, 1, 0x0⟩
def GLB.BOOT_CTL.LOAD : Fld := ⟨8 * (0x10C) + 0, 1, 0x0⟩
-- GLB.RESET: 14 Table 14.10 R340.
def GLB.RESET.KEY : Fld := ⟨8 * (0x120) + 16, 16, 0x0⟩
def GLB.RESET.GO : Fld := ⟨8 * (0x120) + 0, 1, 0x0⟩
-- GLB.OWN_ERR: 14 Table 14.10 R354.
def GLB.OWN_ERR.VALID : Fld := ⟨8 * (0x130) + 31, 1, 0x0⟩
def GLB.OWN_ERR.DETAIL : Fld := ⟨8 * (0x130) + 15, 9, 0x0⟩
def GLB.OWN_ERR.PARTITION : Fld := ⟨8 * (0x130) + 8, 7, 0x0⟩
def GLB.OWN_ERR.CODE : Fld := ⟨8 * (0x130) + 0, 8, 0x0⟩
-- GLB.HOST_FENCE: 02 Table 2.2 R31.
def GLB.HOST_FENCE.TOKEN : Fld := ⟨8 * (0x200) + 0, 16, 0x0⟩
-- GLB.FENCE_DONE: 02 Table 2.3 R31.
def GLB.FENCE_DONE.PEND : Fld := ⟨8 * (0x204) + 16, 1, 0x0⟩
def GLB.FENCE_DONE.TOKEN : Fld := ⟨8 * (0x204) + 0, 16, 0x0⟩
-- GLB.EPOCH_CUR: 02 Table 2.8 R38.
def GLB.EPOCH_CUR.CUR : Fld := ⟨8 * (0x210) + 0, 3, 0x0⟩
-- GLB.EPOCH_ADV: 02 Table 2.9 R43.
def GLB.EPOCH_ADV.GO : Fld := ⟨8 * (0x214) + 0, 1, 0x0⟩
-- GLB.EPOCH_STAT: 02 Table 2.10 R43 R44.
def GLB.EPOCH_STAT.OLDEST_AGE : Fld := ⟨8 * (0x218) + 16, 16, 0x0⟩
def GLB.EPOCH_STAT.ADV_REFUSED : Fld := ⟨8 * (0x218) + 13, 1, 0x0⟩
def GLB.EPOCH_STAT.ADV_BUSY : Fld := ⟨8 * (0x218) + 12, 1, 0x0⟩
def GLB.EPOCH_STAT.OLDEST : Fld := ⟨8 * (0x218) + 8, 3, 0x0⟩
def GLB.EPOCH_STAT.LIVE : Fld := ⟨8 * (0x218) + 0, 8, 0x1⟩
-- GLB.EPOCH_CFG: 02 Table 2.11 R44.
def GLB.EPOCH_CFG.DRAIN_WARN : Fld := ⟨8 * (0x21C) + 0, 16, 0x3E8⟩
-- GLB.PATCH_LOCK: 09 Table 9.7 R235.
def GLB.PATCH_LOCK.LOCK : Fld := ⟨8 * (0x240) + 0, 1, 0x0⟩
-- GLB.MGT_CFG: 03 Table 3.10 R72.
def GLB.MGT_CFG.LINK_CHG : Fld := ⟨8 * (0x300) + 4, 1, 0x0⟩
def GLB.MGT_CFG.LINK : Fld := ⟨8 * (0x300) + 3, 1, 0x0⟩
def GLB.MGT_CFG.WAKE_EN : Fld := ⟨8 * (0x300) + 2, 1, 0x0⟩
def GLB.MGT_CFG.MODE : Fld := ⟨8 * (0x300) + 0, 2, 0x0⟩
-- GLB.MGT_WAKE_KEY: 03 R72.
def GLB.MGT_WAKE_KEY.KEY : Fld := ⟨8 * (0x304) + 0, 32, 0x0⟩
-- GLB.MGT_DEV_MAC_LO: 03 R72.
def GLB.MGT_DEV_MAC_LO.MAC : Fld := ⟨8 * (0x308) + 0, 32, 0x0⟩
-- GLB.MGT_DEV_MAC_HI: 03 R72.
def GLB.MGT_DEV_MAC_HI.MAC : Fld := ⟨8 * (0x30C) + 0, 16, 0x0⟩
-- GLB.MGT_HOST_MAC_LO: 03 R72.
def GLB.MGT_HOST_MAC_LO.MAC : Fld := ⟨8 * (0x310) + 0, 32, 0x0⟩
-- GLB.MGT_HOST_MAC_HI: 03 R72.
def GLB.MGT_HOST_MAC_HI.MAC : Fld := ⟨8 * (0x314) + 0, 16, 0x0⟩
-- GLB.EVT_STAT: 15 Table 15.6 R371.
def GLB.EVT_STAT.STAT (g : Nat) : Fld := ⟨8 * (0x400 + 4 * g) + 0, 16, 0x0⟩
-- GLB.EVT_MASK: 15 Table 15.6 R372.
def GLB.EVT_MASK.MASK (g : Nat) : Fld := ⟨8 * (0x480 + 4 * g) + 0, 16, 0x0⟩
-- GLB.BEACON: 15 Table 15.6 R372.
def GLB.BEACON.GROUPS : Fld := ⟨8 * (0x500) + 0, 32, 0x0⟩
-- GLB.GPIO_IN: 15 Table 15.7 R373.
def GLB.GPIO_IN.IN : Fld := ⟨8 * (0x600) + 0, 16, 0x0⟩
-- GLB.GPIO_OUT: 15 Table 15.7 R373.
def GLB.GPIO_OUT.OUT : Fld := ⟨8 * (0x604) + 0, 16, 0x0⟩
-- GLB.GPIO_OE: 15 Table 15.7 R373.
def GLB.GPIO_OE.OE : Fld := ⟨8 * (0x608) + 0, 16, 0x0⟩
-- GLB.GPIO_FN: 15 Table 15.7 R373.
def GLB.GPIO_FN.FN (i : Nat) : Fld := ⟨8 * (0x640 + 4 * i) + 0, 3, 0x0⟩
-- GLB.HU_CFG: 17 Table 17.7 R414.
def GLB.HU_CFG.MODE : Fld := ⟨8 * (0x700) + 62, 2, 0x0⟩
def GLB.HU_CFG.MARGIN : Fld := ⟨8 * (0x700) + 40, 8, 0x10⟩
def GLB.HU_CFG.VMIN_MV : Fld := ⟨8 * (0x700) + 24, 16, 0x0⟩
def GLB.HU_CFG.DIV : Fld := ⟨8 * (0x700) + 16, 8, 0x8⟩
def GLB.HU_CFG.CAP_UF : Fld := ⟨8 * (0x700) + 0, 16, 0x0⟩
-- GLB.HU_COST: 17 Table 17.7 R414.
def GLB.HU_COST.E_ERASE_UJ : Fld := ⟨8 * (0x708) + 32, 32, 0xEA60⟩
def GLB.HU_COST.E_PAGE_UJ : Fld := ⟨8 * (0x708) + 16, 16, 0x1F4⟩
def GLB.HU_COST.E_MRAM_UJ : Fld := ⟨8 * (0x708) + 0, 16, 0x14⟩
-- GLB.FLT_CFG: 17 Table 17.7 R399.
def GLB.FLT_CFG.RETIRE_EN (k : Nat) : Fld := ⟨8 * (0x780 + 8 * k) + 24, 1, 0x1⟩
def GLB.FLT_CFG.WINDOW_MS (k : Nat) : Fld := ⟨8 * (0x780 + 8 * k) + 8, 16, 0x3E8⟩
def GLB.FLT_CFG.THRESH (k : Nat) : Fld := ⟨8 * (0x780 + 8 * k) + 0, 8, 0xA⟩
-- GLB.PART_CTL: 02 Table 2.7 R40-R43.
def GLB.PART_CTL.WRITE_REFUSED (n : Nat) : Fld := ⟨8 * (0x1000 + 4 * n) + 9, 1, 0x0⟩
def GLB.PART_CTL.ARM_REFUSED (n : Nat) : Fld := ⟨8 * (0x1000 + 4 * n) + 8, 1, 0x0⟩
def GLB.PART_CTL.SWITCH_EPOCH (n : Nat) : Fld := ⟨8 * (0x1000 + 4 * n) + 4, 3, 0x0⟩
def GLB.PART_CTL.RETIRING (n : Nat) : Fld := ⟨8 * (0x1000 + 4 * n) + 2, 1, 0x0⟩
def GLB.PART_CTL.ARM (n : Nat) : Fld := ⟨8 * (0x1000 + 4 * n) + 1, 1, 0x0⟩
def GLB.PART_CTL.ACTIVE (n : Nat) : Fld := ⟨8 * (0x1000 + 4 * n) + 0, 1, 0x0⟩
-- TMU.CTL: 13 Table 13.6.
def TMU.CTL.CAP_EN : Fld := ⟨8 * (0x100000) + 4, 2, 0x0⟩
def TMU.CTL.PPS_IN_EN : Fld := ⟨8 * (0x100000) + 3, 1, 0x0⟩
def TMU.CTL.STEP_MODE : Fld := ⟨8 * (0x100000) + 2, 1, 0x0⟩
def TMU.CTL.PPS_OUT_EN : Fld := ⟨8 * (0x100000) + 1, 1, 0x0⟩
def TMU.CTL.RUN : Fld := ⟨8 * (0x100000) + 0, 1, 0x0⟩
-- TMU.REF_CFG: 13 Table 13.5 R320.
def TMU.REF_CFG.FREQ : Fld := ⟨8 * (0x100008) + 1, 1, 0x0⟩
def TMU.REF_CFG.SRC : Fld := ⟨8 * (0x100008) + 0, 1, 0x0⟩
-- TMU.STAT: 13 Table 13.6.
def TMU.STAT.STEPS : Fld := ⟨8 * (0x100010) + 8, 8, 0x0⟩
def TMU.STAT.ADJ_CANCELLED : Fld := ⟨8 * (0x100010) + 4, 1, 0x0⟩
def TMU.STAT.STEP_BUSY : Fld := ⟨8 * (0x100010) + 3, 1, 0x0⟩
def TMU.STAT.ADJ_BUSY : Fld := ⟨8 * (0x100010) + 2, 1, 0x0⟩
def TMU.STAT.HOLDOVER : Fld := ⟨8 * (0x100010) + 1, 1, 0x0⟩
def TMU.STAT.LOCKED : Fld := ⟨8 * (0x100010) + 0, 1, 0x0⟩
-- TMU.TOD_NS: 13 Table 13.5 R319.
def TMU.TOD_NS.NS : Fld := ⟨8 * (0x100020) + 0, 32, 0x0⟩
-- TMU.TOD_FRAC: 13 Table 13.5 R319.
def TMU.TOD_FRAC.FRAC : Fld := ⟨8 * (0x100024) + 0, 32, 0x0⟩
-- TMU.TOD_SEC_LO: 13 Table 13.5 R319.
def TMU.TOD_SEC_LO.SEC : Fld := ⟨8 * (0x100028) + 0, 32, 0x0⟩
-- TMU.TOD_SEC_HI: 13 Table 13.5 R319.
def TMU.TOD_SEC_HI.SEC : Fld := ⟨8 * (0x10002C) + 0, 16, 0x0⟩
-- TMU.INCR: 13 Table 13.5 R316.
def TMU.INCR.INCR : Fld := ⟨8 * (0x100030) + 0, 40, 0x100000000⟩
-- TMU.ADJ: 13 Table 13.5 R317.
def TMU.ADJ.ADJ : Fld := ⟨8 * (0x100038) + 0, 40, 0x0⟩
-- TMU.STEP_CTL: 13 Table 13.6 R318.
def TMU.STEP_CTL.GO : Fld := ⟨8 * (0x100040) + 2, 1, 0x0⟩
def TMU.STEP_CTL.OP : Fld := ⟨8 * (0x100040) + 0, 2, 0x0⟩
-- TMU.STEP_SEC: 13 Table 13.5 R318.
def TMU.STEP_SEC.SEC : Fld := ⟨8 * (0x100048) + 0, 48, 0x0⟩
-- TMU.STEP_NS: 13 Table 13.5 R318.
def TMU.STEP_NS.FRAC : Fld := ⟨8 * (0x100050) + 32, 32, 0x0⟩
def TMU.STEP_NS.NS : Fld := ⟨8 * (0x100050) + 0, 30, 0x0⟩
-- TMU.STEP_SUM: 13 Table 13.5 R318.
def TMU.STEP_SUM.SUM : Fld := ⟨8 * (0x100058) + 0, 64, 0x0⟩
-- TMU.PPS_CFG: 13 Table 13.7 R323.
def TMU.PPS_CFG.ADJ : Fld := ⟨8 * (0x100060) + 48, 16, 0x0⟩
def TMU.PPS_CFG.WIDTH : Fld := ⟨8 * (0x100060) + 32, 16, 0x3E8⟩
def TMU.PPS_CFG.OFS : Fld := ⟨8 * (0x100060) + 0, 30, 0x0⟩
-- TMU.CAP_SEC: 13 Table 13.7 R322.
def TMU.CAP_SEC.VALID (k : Nat) : Fld := ⟨8 * (0x100080 + 0x20 * k) + 63, 1, 0x0⟩
def TMU.CAP_SEC.OVERRUN (k : Nat) : Fld := ⟨8 * (0x100080 + 0x20 * k) + 62, 1, 0x0⟩
def TMU.CAP_SEC.SEC (k : Nat) : Fld := ⟨8 * (0x100080 + 0x20 * k) + 0, 48, 0x0⟩
-- TMU.CAP_NS: 13 Table 13.7 R322.
def TMU.CAP_NS.NS (k : Nat) : Fld := ⟨8 * (0x100088 + 0x20 * k) + 32, 32, 0x0⟩
def TMU.CAP_NS.FRAC (k : Nat) : Fld := ⟨8 * (0x100088 + 0x20 * k) + 0, 32, 0x0⟩
-- TMU.CAP_ADJ: 13 Table 13.7 R322.
def TMU.CAP_ADJ.ADJ (k : Nat) : Fld := ⟨8 * (0x100090 + 0x20 * k) + 0, 16, 0x0⟩
-- TMU.LAUNCH_CFG: 13 Table 13.7 R329.
def TMU.LAUNCH_CFG.EN : Fld := ⟨8 * (0x100100) + 16, 1, 0x0⟩
def TMU.LAUNCH_CFG.HORIZON_MS : Fld := ⟨8 * (0x100100) + 0, 16, 0x3E8⟩
-- TMU.LAST_LATE: 13 Table 13.5 R333.
def TMU.LAST_LATE.W (w : Nat) : Fld := ⟨8 * (0x100110 + 8 * w) + 0, 64, 0x0⟩
-- TMU.CNT: 13 R337.
def TMU.CNT.V (i : Nat) : Fld := ⟨8 * (0x100200 + 8 * i) + 0, 40, 0x0⟩
-- TMU.PTP: 13 Table 13.7 R324.
def TMU.PTP.UDP6 (x p : Nat) : Fld := ⟨8 * (0x102000 + 0x1000 * x + 8 * p) + 6, 1, 0x0⟩
def TMU.PTP.UDP4 (x p : Nat) : Fld := ⟨8 * (0x102000 + 0x1000 * x + 8 * p) + 5, 1, 0x0⟩
def TMU.PTP.L2 (x p : Nat) : Fld := ⟨8 * (0x102000 + 0x1000 * x + 8 * p) + 4, 1, 0x0⟩
def TMU.PTP.TC (x p : Nat) : Fld := ⟨8 * (0x102000 + 0x1000 * x + 8 * p) + 3, 1, 0x0⟩
def TMU.PTP.TWO_STEP (x p : Nat) : Fld := ⟨8 * (0x102000 + 0x1000 * x + 8 * p) + 2, 1, 0x0⟩
def TMU.PTP.ONE_STEP (x p : Nat) : Fld := ⟨8 * (0x102000 + 0x1000 * x + 8 * p) + 1, 1, 0x0⟩
def TMU.PTP.RECOG (x p : Nat) : Fld := ⟨8 * (0x102000 + 0x1000 * x + 8 * p) + 0, 1, 0x0⟩
-- TMU.QLAUNCH: 13 Table 13.5 R328 R333.
def TMU.QLAUNCH.W (x p : Nat) : Fld := ⟨8 * (0x104000 + 0x1000 * x + 8 * p) + 0, 64, 0x0⟩
-- TMU.FIXED_DELAY: 13 Table 13.5 R328.
def TMU.FIXED_DELAY.NS (x p : Nat) : Fld := ⟨8 * (0x106000 + 0x1000 * x + 8 * p) + 0, 32, 0x0⟩
-- TMU.TXTS: 13 Table 13.8 R327.
def TMU.TXTS.W (p w : Nat) : Fld := ⟨8 * (0x108000 + 0x20 * p + 8 * w) + 0, 64, 0x0⟩
-- PWR.REQ: 16 Table 16.7 R386.
def PWR.REQ.GO : Fld := ⟨8 * (0x200000) + 16, 1, 0x0⟩
def PWR.REQ.TARGET : Fld := ⟨8 * (0x200000) + 12, 2, 0x0⟩
def PWR.REQ.INDEX : Fld := ⟨8 * (0x200000) + 4, 7, 0x0⟩
def PWR.REQ.KIND : Fld := ⟨8 * (0x200000) + 0, 3, 0x0⟩
-- PWR.REQ_STAT: 16 Table 16.7 R386.
def PWR.REQ_STAT.BLOCK : Fld := ⟨8 * (0x200008) + 16, 8, 0x0⟩
def PWR.REQ_STAT.REASON : Fld := ⟨8 * (0x200008) + 8, 8, 0x0⟩
def PWR.REQ_STAT.DONE : Fld := ⟨8 * (0x200008) + 4, 1, 0x1⟩
def PWR.REQ_STAT.RESULT : Fld := ⟨8 * (0x200008) + 0, 4, 0x0⟩
-- PWR.CFG: 16 Table 16.6 R386.
def PWR.CFG.DELAY_LIMIT : Fld := ⟨8 * (0x200010) + 0, 16, 0x64⟩
-- PWR.THERM_CFG: 16 Table 16.6 R395.
def PWR.THERM_CFG.LIMIT : Fld := ⟨8 * (0x200018) + 8, 8, 0x69⟩
def PWR.THERM_CFG.WARN : Fld := ⟨8 * (0x200018) + 0, 8, 0x64⟩
-- PWR.WAKE_CFG: 16 Table 16.6 R390.
def PWR.WAKE_CFG.EN : Fld := ⟨8 * (0x200020) + 0, 32, 0x0⟩
-- PWR.WAKE_STAT: 16 Table 16.6 R390.
def PWR.WAKE_STAT.VALID : Fld := ⟨8 * (0x200028) + 31, 1, 0x0⟩
def PWR.WAKE_STAT.OCTET : Fld := ⟨8 * (0x200028) + 8, 5, 0x0⟩
def PWR.WAKE_STAT.SOURCE : Fld := ⟨8 * (0x200028) + 0, 3, 0x0⟩
-- PWR.AVS_CFG: 16 Table 16.8 R391.
def PWR.AVS_CFG.VMAX_MV : Fld := ⟨8 * (0x200040) + 48, 16, 0x352⟩
def PWR.AVS_CFG.VMIN_MV : Fld := ⟨8 * (0x200040) + 32, 16, 0x28A⟩
def PWR.AVS_CFG.REQ_MIN_MS : Fld := ⟨8 * (0x200040) + 24, 8, 0x1⟩
def PWR.AVS_CFG.STEP_DN_MV : Fld := ⟨8 * (0x200040) + 16, 8, 0x5⟩
def PWR.AVS_CFG.STEP_UP_MV : Fld := ⟨8 * (0x200040) + 8, 8, 0xA⟩
def PWR.AVS_CFG.EN : Fld := ⟨8 * (0x200040) + 0, 1, 0x0⟩
-- PWR.AVS_STAT: 16 Table 16.8 R392.
def PWR.AVS_STAT.AT_MAX : Fld := ⟨8 * (0x200048) + 33, 1, 0x0⟩
def PWR.AVS_STAT.NO_REPLY : Fld := ⟨8 * (0x200048) + 32, 1, 0x0⟩
def PWR.AVS_STAT.V_ACK : Fld := ⟨8 * (0x200048) + 16, 16, 0x0⟩
def PWR.AVS_STAT.V_REQ : Fld := ⟨8 * (0x200048) + 0, 16, 0x0⟩
-- PWR.PACE_CFG: 16 Table 16.9 R393.
def PWR.PACE_CFG.PERIOD_US : Fld := ⟨8 * (0x200050) + 32, 16, 0x3E8⟩
def PWR.PACE_CFG.RESP : Fld := ⟨8 * (0x200050) + 28, 2, 0x0⟩
def PWR.PACE_CFG.END_COUNT : Fld := ⟨8 * (0x200050) + 24, 4, 0x4⟩
def PWR.PACE_CFG.DOWN_COUNT : Fld := ⟨8 * (0x200050) + 20, 4, 0x8⟩
def PWR.PACE_CFG.HIGH : Fld := ⟨8 * (0x200050) + 10, 10, 0xB9⟩
def PWR.PACE_CFG.TARGET : Fld := ⟨8 * (0x200050) + 0, 10, 0xAA⟩
-- PWR.PACE_STAT: 16 Table 16.9 R394.
def PWR.PACE_STAT.PARKED (s : Nat) : Fld := ⟨8 * (0x200080 + 8 * s) + 25, 1, 0x0⟩
def PWR.PACE_STAT.LOW_ACTIVE (s : Nat) : Fld := ⟨8 * (0x200080 + 8 * s) + 24, 1, 0x0⟩
def PWR.PACE_STAT.WANT_MV (s : Nat) : Fld := ⟨8 * (0x200080 + 8 * s) + 10, 14, 0x0⟩
def PWR.PACE_STAT.PACE (s : Nat) : Fld := ⟨8 * (0x200080 + 8 * s) + 0, 10, 0x0⟩
-- PWR.CL_STATE: 16 Table 16.6.
def PWR.CL_STATE.PARKED : Fld := ⟨8 * (0x200100) + 0, 64, 0x0⟩
-- PWR.SL_STATE: 16 Table 16.6.
def PWR.SL_STATE.TRIPPED : Fld := ⟨8 * (0x200108) + 11, 1, 0x0⟩
def PWR.SL_STATE.STANDBY : Fld := ⟨8 * (0x200108) + 10, 1, 0x0⟩
def PWR.SL_STATE.HALF : Fld := ⟨8 * (0x200108) + 8, 2, 0x0⟩
def PWR.SL_STATE.SLICE : Fld := ⟨8 * (0x200108) + 0, 8, 0x0⟩
-- PWR.OCT_STATE: 16 Table 16.6.
def PWR.OCT_STATE.ST : Fld := ⟨8 * (0x200110) + 0, 64, 0x0⟩
-- PWR.CNT: 16 R396.
def PWR.CNT.V (i : Nat) : Fld := ⟨8 * (0x200200 + 8 * i) + 0, 40, 0x0⟩
-- NVS.PS_CTL: 17 Table 17.8 R413.
def NVS.PS_CTL.STATUS : Fld := ⟨8 * (0x300000) + 4, 4, 0x0⟩
def NVS.PS_CTL.DONE : Fld := ⟨8 * (0x300000) + 3, 1, 0x1⟩
def NVS.PS_CTL.OP : Fld := ⟨8 * (0x300000) + 1, 2, 0x0⟩
def NVS.PS_CTL.GO : Fld := ⟨8 * (0x300000) + 0, 1, 0x0⟩
-- NVS.PS_ADDR: 17 Table 17.8 R413.
def NVS.PS_ADDR.WORD : Fld := ⟨8 * (0x300008) + 0, 24, 0x0⟩
-- NVS.PS_DATA: 17 Table 17.8 R413.
def NVS.PS_DATA.DATA : Fld := ⟨8 * (0x300010) + 0, 64, 0x0⟩
-- NVS.HU_STAT: 17 Table 17.8 R414.
def NVS.HU_STAT.PF : Fld := ⟨8 * (0x300110) + 49, 1, 0x0⟩
def NVS.HU_STAT.DEFERRING : Fld := ⟨8 * (0x300110) + 48, 1, 0x0⟩
def NVS.HU_STAT.AVAIL_UJ : Fld := ⟨8 * (0x300110) + 16, 32, 0x0⟩
def NVS.HU_STAT.SENSE_MV : Fld := ⟨8 * (0x300110) + 0, 16, 0x0⟩
-- NVS.FLT_STAT: 17 Table 17.8 R399.
def NVS.FLT_STAT.MAP_VALID : Fld := ⟨8 * (0x300300) + 12, 17, 0x0⟩
def NVS.FLT_STAT.TRACKED : Fld := ⟨8 * (0x300300) + 0, 11, 0x0⟩
-- NVS.CNT: 17 R416.
def NVS.CNT.V (i : Nat) : Fld := ⟨8 * (0x300400 + 8 * i) + 0, 40, 0x0⟩
-- NVS.FL_CTL: 14 Table 14.13 R357.
def NVS.FL_CTL.SECTION : Fld := ⟨8 * (0x301000) + 16, 10, 0x0⟩
def NVS.FL_CTL.STATUS : Fld := ⟨8 * (0x301000) + 8, 8, 0x0⟩
def NVS.FL_CTL.SLOT : Fld := ⟨8 * (0x301000) + 4, 1, 0x0⟩
def NVS.FL_CTL.DONE : Fld := ⟨8 * (0x301000) + 3, 1, 0x1⟩
def NVS.FL_CTL.OP : Fld := ⟨8 * (0x301000) + 1, 2, 0x0⟩
def NVS.FL_CTL.GO : Fld := ⟨8 * (0x301000) + 0, 1, 0x0⟩
-- NVS.FL_PROG: 14 Table 14.13 R358.
def NVS.FL_PROG.SKIPPED : Fld := ⟨8 * (0x301008) + 48, 16, 0x0⟩
def NVS.FL_PROG.DEFERRALS : Fld := ⟨8 * (0x301008) + 32, 16, 0x0⟩
def NVS.FL_PROG.BYTES : Fld := ⟨8 * (0x301008) + 0, 32, 0x0⟩
-- NVS.FL_INFO: 14 Table 14.13 R341.
def NVS.FL_INFO.PRESENT : Fld := ⟨8 * (0x301010) + 8, 1, 0x0⟩
def NVS.FL_INFO.DENSITY_LOG2 : Fld := ⟨8 * (0x301010) + 0, 8, 0x0⟩
-- CTR.CTL: 18 Table 18.2 R418.
def CTR.CTL.SWEEP_US : Fld := ⟨8 * (0x400000) + 8, 7, 0x64⟩
def CTR.CTL.INIT_DONE : Fld := ⟨8 * (0x400000) + 2, 1, 0x0⟩
def CTR.CTL.CFG_ERR : Fld := ⟨8 * (0x400000) + 1, 1, 0x0⟩
def CTR.CTL.EN : Fld := ⟨8 * (0x400000) + 0, 1, 0x0⟩
-- CTR.ACC_BASE: 18 Table 18.2 R419.
def CTR.ACC_BASE.OFFSET (h : Nat) : Fld := ⟨8 * (0x400010 + 8 * h) + 0, 36, 0x0⟩
-- CTR.SYNC: 18 Table 18.2 R421.
def CTR.SYNC.TOKEN : Fld := ⟨8 * (0x400020) + 0, 16, 0x0⟩
-- CTR.SYNC_DONE: 18 Table 18.2 R421.
def CTR.SYNC_DONE.PEND : Fld := ⟨8 * (0x400024) + 16, 1, 0x0⟩
def CTR.SYNC_DONE.TOKEN : Fld := ⟨8 * (0x400024) + 0, 16, 0x0⟩
-- CTR.STAT: 18 Table 18.2 R420.
def CTR.STAT.ACC_LOST : Fld := ⟨8 * (0x400030) + 32, 16, 0x0⟩
def CTR.STAT.LATE : Fld := ⟨8 * (0x400030) + 16, 16, 0x0⟩
def CTR.STAT.LAST_US : Fld := ⟨8 * (0x400030) + 0, 16, 0x0⟩
-- CTR.CHAIN: 18 Table 18.2 R426.
def CTR.CHAIN.CHAIN (g : Nat) : Fld := ⟨8 * (0x400100 + 8 * g) + 0, 32, 0x0⟩
-- BPM.CTL: 11 Table 11.6 R274.
def BPM.CTL.READY (h : Nat) : Fld := ⟨8 * (0x500000 + 0x80000 * h) + 2, 1, 0x0⟩
def BPM.CTL.CFG_ERR (h : Nat) : Fld := ⟨8 * (0x500000 + 0x80000 * h) + 1, 1, 0x0⟩
def BPM.CTL.EN (h : Nat) : Fld := ⟨8 * (0x500000 + 0x80000 * h) + 0, 1, 0x0⟩
-- BPM.POOL_CFG: 11 Table 11.7 R270.
def BPM.POOL_CFG.EN (h k : Nat) : Fld := ⟨8 * (0x500100 + 0x80000 * h + 8 * k) + 63, 1, 0x0⟩
def BPM.POOL_CFG.COUNT (h k : Nat) : Fld := ⟨8 * (0x500100 + 0x80000 * h + 8 * k) + 32, 23, 0x0⟩
def BPM.POOL_CFG.BASE (h k : Nat) : Fld := ⟨8 * (0x500100 + 0x80000 * h + 8 * k) + 0, 23, 0x0⟩
-- BPM.RING_BASE: 11 Table 11.5.
def BPM.RING_BASE.OFFSET (h k : Nat) : Fld := ⟨8 * (0x500200 + 0x80000 * h + 8 * k) + 0, 36, 0x0⟩
-- BPM.POOL_STAT: 11 Table 11.5.
def BPM.POOL_STAT.PARKED_CNT (h k : Nat) : Fld := ⟨8 * (0x500300 + 0x80000 * h + 8 * k) + 36, 20, 0x0⟩
def BPM.POOL_STAT.CACHED (h k : Nat) : Fld := ⟨8 * (0x500300 + 0x80000 * h + 8 * k) + 24, 11, 0x0⟩
def BPM.POOL_STAT.FREE (h k : Nat) : Fld := ⟨8 * (0x500300 + 0x80000 * h + 8 * k) + 0, 23, 0x0⟩
-- BPM.QUAR_BASE: 11 Table 11.5 R281.
def BPM.QUAR_BASE.OFFSET (h : Nat) : Fld := ⟨8 * (0x500400 + 0x80000 * h) + 0, 36, 0x0⟩
-- BPM.QUAR_SIZE: 11 Table 11.5 R281.
def BPM.QUAR_SIZE.SIZE (h : Nat) : Fld := ⟨8 * (0x500408 + 0x80000 * h) + 0, 32, 0x0⟩
-- BPM.QUAR_WR: 11 Table 11.5 R281.
def BPM.QUAR_WR.WR (h : Nat) : Fld := ⟨8 * (0x500410 + 0x80000 * h) + 0, 32, 0x0⟩
-- BPM.QUAR_RD: 11 Table 11.5 R281.
def BPM.QUAR_RD.RD (h : Nat) : Fld := ⟨8 * (0x500418 + 0x80000 * h) + 0, 32, 0x0⟩
-- BPM.CMD_CTL: 11 Table 11.8.
def BPM.CMD_CTL.STATUS (h : Nat) : Fld := ⟨8 * (0x500500 + 0x80000 * h) + 8, 4, 0x0⟩
def BPM.CMD_CTL.DONE (h : Nat) : Fld := ⟨8 * (0x500500 + 0x80000 * h) + 7, 1, 0x1⟩
def BPM.CMD_CTL.OP (h : Nat) : Fld := ⟨8 * (0x500500 + 0x80000 * h) + 1, 2, 0x0⟩
def BPM.CMD_CTL.GO (h : Nat) : Fld := ⟨8 * (0x500500 + 0x80000 * h) + 0, 1, 0x0⟩
-- BPM.CMD_HANDLE: 11 Table 11.5.
def BPM.CMD_HANDLE.HANDLE (h : Nat) : Fld := ⟨8 * (0x500508 + 0x80000 * h) + 0, 32, 0x0⟩
-- BPM.CMD_DATA: 11 Table 11.5.
def BPM.CMD_DATA.DATA (h : Nat) : Fld := ⟨8 * (0x500510 + 0x80000 * h) + 0, 32, 0x0⟩
-- BPM.CNT: 11 R285.
def BPM.CNT.V (h i : Nat) : Fld := ⟨8 * (0x501000 + 0x80000 * h + 8 * i) + 0, 40, 0x0⟩
-- HBC.REGION: 19 Table 19.5 R434.
def HBC.REGION.FLOW_GIB (h : Nat) : Fld := ⟨8 * (0x600000 + 0x80000 * h) + 0, 5, 0x10⟩
-- HBC.ERR_LOG: 17 R415-R416.
def HBC.ERR_LOG.VALID (k : Nat) : Fld := ⟨8 * (0x600100 + 0x40000 * k) + 63, 1, 0x0⟩
def HBC.ERR_LOG.ADDR (k : Nat) : Fld := ⟨8 * (0x600100 + 0x40000 * k) + 0, 48, 0x0⟩
-- HBC.CNT: 17 R416.
def HBC.CNT.V (k i : Nat) : Fld := ⟨8 * (0x601000 + 0x40000 * k + 8 * i) + 0, 40, 0x0⟩
-- D2D.CNT: 17 R416.
def D2D.CNT.V (i : Nat) : Fld := ⟨8 * (0x701000 + 8 * i) + 0, 40, 0x0⟩

/-- Register layouts (RegsDev), part 1. -/
def layoutDev0 : List RegFam := [
  ⟨0x0, [], 4, [⟨24, 8, .ro, 0x1, .any⟩, ⟨8, 16, .ro, 0x5120, .any⟩, ⟨4, 4, .ro, 0x0, .any⟩, ⟨0, 4, .ro, 0x1, .any⟩]⟩,
  ⟨0x8, [], 4, [⟨0, 32, .ro, 0x0, .any⟩]⟩,
  ⟨0xC, [], 4, [⟨0, 32, .ro, 0x0, .any⟩]⟩,
  ⟨0x10, [], 4, [⟨30, 2, .rw, 0x0, .any⟩]⟩,
  ⟨0x14, [], 4, [⟨0, 16, .rw, 0x0, .any⟩]⟩,
  ⟨0x20, [], 4, [⟨4, 1, .w1c, 0x0, .any⟩, ⟨3, 1, .w1c, 0x0, .any⟩, ⟨2, 1, .w1c, 0x0, .any⟩, ⟨1, 1, .w1c, 0x0, .any⟩, ⟨0, 1, .w1c, 0x0, .any⟩]⟩,
  ⟨0x28, [], 8, [⟨63, 1, .ro, 0x0, .any⟩, ⟨0, 48, .ro, 0x0, .any⟩]⟩,
  ⟨0x40, [], 4, [⟨0, 1, .w1s, 0x0, .any⟩]⟩,
  ⟨0x100, [], 4, [⟨24, 8, .ro, 0x0, .any⟩, ⟨16, 8, .ro, 0x0, .any⟩, ⟨10, 1, .ro, 0x0, .any⟩, ⟨8, 2, .ro, 0x0, .any⟩, ⟨7, 1, .ro, 0x0, .any⟩, ⟨6, 1, .ro, 0x0, .any⟩, ⟨4, 2, .ro, 0x0, .any⟩, ⟨0, 4, .ro, 0x0, .any⟩]⟩,
  ⟨0x104, [], 4, [⟨0, 32, .ro, 0x0, .any⟩]⟩,
  ⟨0x108, [], 4, [⟨10, 22, .ro, 0x0, .any⟩, ⟨0, 10, .ro, 0x0, .any⟩]⟩,
  ⟨0x10C, [], 4, [⟨2, 2, .rw, 0x0, .any⟩, ⟨1, 1, .wo, 0x0, .any⟩, ⟨0, 1, .wo, 0x0, .any⟩]⟩,
  ⟨0x120, [], 4, [⟨16, 16, .wo, 0x0, .any⟩, ⟨0, 1, .wo, 0x0, .any⟩]⟩,
  ⟨0x130, [], 4, [⟨31, 1, .w1c, 0x0, .any⟩, ⟨15, 9, .ro, 0x0, .any⟩, ⟨8, 7, .ro, 0x0, .any⟩, ⟨0, 8, .ro, 0x0, .any⟩]⟩,
  ⟨0x200, [], 4, [⟨0, 16, .wo, 0x0, .any⟩]⟩,
  ⟨0x204, [], 4, [⟨16, 1, .ro, 0x0, .any⟩, ⟨0, 16, .ro, 0x0, .any⟩]⟩,
  ⟨0x210, [], 4, [⟨0, 3, .ro, 0x0, .any⟩]⟩,
  ⟨0x214, [], 4, [⟨0, 1, .wo, 0x0, .any⟩]⟩,
  ⟨0x218, [], 4, [⟨16, 16, .ro, 0x0, .any⟩, ⟨13, 1, .w1c, 0x0, .any⟩, ⟨12, 1, .ro, 0x0, .any⟩, ⟨8, 3, .ro, 0x0, .any⟩, ⟨0, 8, .ro, 0x1, .any⟩]⟩,
  ⟨0x21C, [], 4, [⟨0, 16, .rw, 0x3E8, .any⟩]⟩]

/-- Register layouts (RegsDev), part 2. -/
def layoutDev1 : List RegFam := [
  ⟨0x240, [], 4, [⟨0, 1, .w1s, 0x0, .any⟩]⟩,
  ⟨0x300, [], 4, [⟨4, 1, .w1c, 0x0, .any⟩, ⟨3, 1, .ro, 0x0, .any⟩, ⟨2, 1, .rw, 0x0, .any⟩, ⟨0, 2, .rw, 0x0, (.le 2)⟩]⟩,
  ⟨0x304, [], 4, [⟨0, 32, .rw, 0x0, .any⟩]⟩,
  ⟨0x308, [], 4, [⟨0, 32, .rw, 0x0, .any⟩]⟩,
  ⟨0x30C, [], 4, [⟨0, 16, .rw, 0x0, .any⟩]⟩,
  ⟨0x310, [], 4, [⟨0, 32, .rw, 0x0, .any⟩]⟩,
  ⟨0x314, [], 4, [⟨0, 16, .rw, 0x0, .any⟩]⟩,
  ⟨0x400, [(32, 0x4)], 4, [⟨0, 16, .w1c, 0x0, .any⟩]⟩,
  ⟨0x480, [(32, 0x4)], 4, [⟨0, 16, .rw, 0x0, .any⟩]⟩,
  ⟨0x500, [], 4, [⟨0, 32, .ro, 0x0, .any⟩]⟩,
  ⟨0x600, [], 4, [⟨0, 16, .ro, 0x0, .any⟩]⟩,
  ⟨0x604, [], 4, [⟨0, 16, .rw, 0x0, .any⟩]⟩,
  ⟨0x608, [], 4, [⟨0, 16, .rw, 0x0, .any⟩]⟩,
  ⟨0x640, [(16, 0x4)], 4, [⟨0, 3, .rw, 0x0, .any⟩]⟩,
  ⟨0x700, [], 8, [⟨62, 2, .rw, 0x0, .any⟩, ⟨40, 8, .rw, 0x10, .any⟩, ⟨24, 16, .rw, 0x0, .any⟩, ⟨16, 8, .rw, 0x8, .nz⟩, ⟨0, 16, .rw, 0x0, .any⟩]⟩,
  ⟨0x708, [], 8, [⟨32, 32, .rw, 0xEA60, .any⟩, ⟨16, 16, .rw, 0x1F4, .any⟩, ⟨0, 16, .rw, 0x14, .any⟩]⟩,
  ⟨0x780, [(9, 0x8)], 8, [⟨24, 1, .rw, 0x1, .any⟩, ⟨8, 16, .rw, 0x3E8, .nz⟩, ⟨0, 8, .rw, 0xA, .nz⟩]⟩,
  ⟨0x1000, [(105, 0x4)], 4, [⟨9, 1, .w1c, 0x0, .any⟩, ⟨8, 1, .w1c, 0x0, .any⟩, ⟨4, 3, .ro, 0x0, .any⟩, ⟨2, 1, .ro, 0x0, .any⟩, ⟨1, 1, .rw, 0x0, .any⟩, ⟨0, 1, .ro, 0x0, .any⟩]⟩,
  ⟨0x100000, [], 4, [⟨4, 2, .rw, 0x0, .any⟩, ⟨3, 1, .rw, 0x0, .any⟩, ⟨2, 1, .rw, 0x0, .any⟩, ⟨1, 1, .rw, 0x0, .any⟩, ⟨0, 1, .rw, 0x0, .any⟩]⟩,
  ⟨0x100008, [], 4, [⟨1, 1, .rw, 0x0, .any⟩, ⟨0, 1, .rw, 0x0, .any⟩]⟩]

/-- Register layouts (RegsDev), part 3. -/
def layoutDev2 : List RegFam := [
  ⟨0x100010, [], 4, [⟨8, 8, .ro, 0x0, .any⟩, ⟨4, 1, .w1c, 0x0, .any⟩, ⟨3, 1, .ro, 0x0, .any⟩, ⟨2, 1, .ro, 0x0, .any⟩, ⟨1, 1, .ro, 0x0, .any⟩, ⟨0, 1, .ro, 0x0, .any⟩]⟩,
  ⟨0x100020, [], 4, [⟨0, 32, .ro, 0x0, .any⟩]⟩,
  ⟨0x100024, [], 4, [⟨0, 32, .ro, 0x0, .any⟩]⟩,
  ⟨0x100028, [], 4, [⟨0, 32, .ro, 0x0, .any⟩]⟩,
  ⟨0x10002C, [], 4, [⟨0, 16, .ro, 0x0, .any⟩]⟩,
  ⟨0x100030, [], 8, [⟨0, 40, .rw, 0x100000000, (.inR 4026531840 4563402752)⟩]⟩,
  ⟨0x100038, [], 8, [⟨0, 40, .rw, 0x0, .any⟩]⟩,
  ⟨0x100040, [], 4, [⟨2, 1, .wo, 0x0, .any⟩, ⟨0, 2, .rw, 0x0, .any⟩]⟩,
  ⟨0x100048, [], 8, [⟨0, 48, .rw, 0x0, .any⟩]⟩,
  ⟨0x100050, [], 8, [⟨32, 32, .rw, 0x0, .any⟩, ⟨0, 30, .rw, 0x0, .any⟩]⟩,
  ⟨0x100058, [], 8, [⟨0, 64, .ro, 0x0, .any⟩]⟩,
  ⟨0x100060, [], 8, [⟨48, 16, .rw, 0x0, .any⟩, ⟨32, 16, .rw, 0x3E8, .nz⟩, ⟨0, 30, .rw, 0x0, (.le 999999999)⟩]⟩,
  ⟨0x100080, [(3, 0x20)], 8, [⟨63, 1, .w1c, 0x0, .any⟩, ⟨62, 1, .w1c, 0x0, .any⟩, ⟨0, 48, .ro, 0x0, .any⟩]⟩,
  ⟨0x100088, [(3, 0x20)], 8, [⟨32, 32, .ro, 0x0, .any⟩, ⟨0, 32, .ro, 0x0, .any⟩]⟩,
  ⟨0x100090, [(3, 0x20)], 4, [⟨0, 16, .rw, 0x0, .any⟩]⟩,
  ⟨0x100100, [], 4, [⟨16, 1, .rw, 0x0, .any⟩, ⟨0, 16, .rw, 0x3E8, .nz⟩]⟩,
  ⟨0x100110, [(3, 0x8)], 8, [⟨0, 64, .ro, 0x0, .any⟩]⟩,
  ⟨0x100200, [(11, 0x8)], 8, [⟨0, 40, .ro, 0x0, .any⟩]⟩,
  ⟨0x102000, [(2, 0x1000), (265, 0x8)], 8, [⟨6, 1, .rw, 0x0, .any⟩, ⟨5, 1, .rw, 0x0, .any⟩, ⟨4, 1, .rw, 0x0, .any⟩, ⟨3, 1, .rw, 0x0, .any⟩, ⟨2, 1, .rw, 0x0, .any⟩, ⟨1, 1, .rw, 0x0, .any⟩, ⟨0, 1, .rw, 0x0, .any⟩]⟩,
  ⟨0x104000, [(2, 0x1000), (265, 0x8)], 8, [⟨0, 64, .rw, 0x0, .any⟩]⟩]

/-- Register layouts (RegsDev), part 4. -/
def layoutDev3 : List RegFam := [
  ⟨0x106000, [(2, 0x1000), (265, 0x8)], 8, [⟨0, 32, .rw, 0x0, .any⟩]⟩,
  ⟨0x108000, [(257, 0x20), (3, 0x8)], 8, [⟨0, 64, .ro, 0x0, .any⟩]⟩,
  ⟨0x200000, [], 4, [⟨16, 1, .wo, 0x0, .any⟩, ⟨12, 2, .rw, 0x0, .any⟩, ⟨4, 7, .rw, 0x0, .any⟩, ⟨0, 3, .rw, 0x0, .any⟩]⟩,
  ⟨0x200008, [], 4, [⟨16, 8, .ro, 0x0, .any⟩, ⟨8, 8, .ro, 0x0, .any⟩, ⟨4, 1, .ro, 0x1, .any⟩, ⟨0, 4, .ro, 0x0, .any⟩]⟩,
  ⟨0x200010, [], 4, [⟨0, 16, .rw, 0x64, .nz⟩]⟩,
  ⟨0x200018, [], 4, [⟨8, 8, .rw, 0x69, (.inR 80 105)⟩, ⟨0, 8, .rw, 0x64, .any⟩]⟩,
  ⟨0x200020, [], 4, [⟨0, 32, .rw, 0x0, .any⟩]⟩,
  ⟨0x200028, [], 4, [⟨31, 1, .w1c, 0x0, .any⟩, ⟨8, 5, .ro, 0x0, .any⟩, ⟨0, 3, .ro, 0x0, .any⟩]⟩,
  ⟨0x200040, [], 8, [⟨48, 16, .rw, 0x352, (.inR 650 850)⟩, ⟨32, 16, .rw, 0x28A, (.inR 650 850)⟩, ⟨24, 8, .rw, 0x1, .nz⟩, ⟨16, 8, .rw, 0x5, (.inR 1 25)⟩, ⟨8, 8, .rw, 0xA, (.inR 1 25)⟩, ⟨0, 1, .rw, 0x0, .any⟩]⟩,
  ⟨0x200048, [], 8, [⟨33, 1, .ro, 0x0, .any⟩, ⟨32, 1, .ro, 0x0, .any⟩, ⟨16, 16, .ro, 0x0, .any⟩, ⟨0, 16, .ro, 0x0, .any⟩]⟩,
  ⟨0x200050, [], 8, [⟨32, 16, .rw, 0x3E8, (.inR 100 10000)⟩, ⟨28, 2, .rw, 0x0, .any⟩, ⟨24, 4, .rw, 0x4, .nz⟩, ⟨20, 4, .rw, 0x8, .nz⟩, ⟨10, 10, .rw, 0xB9, .any⟩, ⟨0, 10, .rw, 0xAA, (.inR 165 250)⟩]⟩,
  ⟨0x200080, [(8, 0x8)], 8, [⟨25, 1, .ro, 0x0, .any⟩, ⟨24, 1, .ro, 0x0, .any⟩, ⟨10, 14, .ro, 0x0, .any⟩, ⟨0, 10, .ro, 0x0, .any⟩]⟩,
  ⟨0x200100, [], 8, [⟨0, 64, .ro, 0x0, .any⟩]⟩,
  ⟨0x200108, [], 4, [⟨11, 1, .ro, 0x0, .any⟩, ⟨10, 1, .ro, 0x0, .any⟩, ⟨8, 2, .ro, 0x0, .any⟩, ⟨0, 8, .ro, 0x0, .any⟩]⟩,
  ⟨0x200110, [], 8, [⟨0, 64, .ro, 0x0, .any⟩]⟩,
  ⟨0x200200, [(10, 0x8)], 8, [⟨0, 40, .ro, 0x0, .any⟩]⟩,
  ⟨0x300000, [], 4, [⟨4, 4, .ro, 0x0, .any⟩, ⟨3, 1, .ro, 0x1, .any⟩, ⟨1, 2, .rw, 0x0, .any⟩, ⟨0, 1, .wo, 0x0, .any⟩]⟩,
  ⟨0x300008, [], 4, [⟨0, 24, .rw, 0x0, .any⟩]⟩,
  ⟨0x300010, [], 8, [⟨0, 64, .rw, 0x0, .any⟩]⟩,
  ⟨0x300110, [], 8, [⟨49, 1, .ro, 0x0, .any⟩, ⟨48, 1, .ro, 0x0, .any⟩, ⟨16, 32, .ro, 0x0, .any⟩, ⟨0, 16, .ro, 0x0, .any⟩]⟩]

/-- Register layouts (RegsDev), part 5. -/
def layoutDev4 : List RegFam := [
  ⟨0x300300, [], 4, [⟨12, 17, .ro, 0x0, .any⟩, ⟨0, 11, .ro, 0x0, .any⟩]⟩,
  ⟨0x300400, [(7, 0x8)], 8, [⟨0, 40, .ro, 0x0, .any⟩]⟩,
  ⟨0x301000, [], 4, [⟨16, 10, .rw, 0x0, .any⟩, ⟨8, 8, .ro, 0x0, .any⟩, ⟨4, 1, .rw, 0x0, .any⟩, ⟨3, 1, .ro, 0x1, .any⟩, ⟨1, 2, .rw, 0x0, .any⟩, ⟨0, 1, .wo, 0x0, .any⟩]⟩,
  ⟨0x301008, [], 8, [⟨48, 16, .ro, 0x0, .any⟩, ⟨32, 16, .ro, 0x0, .any⟩, ⟨0, 32, .ro, 0x0, .any⟩]⟩,
  ⟨0x301010, [], 4, [⟨8, 1, .ro, 0x0, .any⟩, ⟨0, 8, .ro, 0x0, .any⟩]⟩,
  ⟨0x400000, [], 4, [⟨8, 7, .rw, 0x64, (.inR 10 100)⟩, ⟨2, 1, .ro, 0x0, .any⟩, ⟨1, 1, .w1c, 0x0, .any⟩, ⟨0, 1, .rw, 0x0, .any⟩]⟩,
  ⟨0x400010, [(2, 0x8)], 8, [⟨0, 36, .rw, 0x0, .any⟩]⟩,
  ⟨0x400020, [], 4, [⟨0, 16, .wo, 0x0, .any⟩]⟩,
  ⟨0x400024, [], 4, [⟨16, 1, .ro, 0x0, .any⟩, ⟨0, 16, .ro, 0x0, .any⟩]⟩,
  ⟨0x400030, [], 8, [⟨32, 16, .ro, 0x0, .any⟩, ⟨16, 16, .ro, 0x0, .any⟩, ⟨0, 16, .ro, 0x0, .any⟩]⟩,
  ⟨0x400100, [(12, 0x8)], 8, [⟨0, 32, .rw, 0x0, .any⟩]⟩,
  ⟨0x500000, [(2, 0x80000)], 4, [⟨2, 1, .ro, 0x0, .any⟩, ⟨1, 1, .w1c, 0x0, .any⟩, ⟨0, 1, .rw, 0x0, .any⟩]⟩,
  ⟨0x500100, [(2, 0x80000), (8, 0x8)], 8, [⟨63, 1, .rw, 0x0, .any⟩, ⟨32, 23, .rw, 0x0, .any⟩, ⟨0, 23, .rw, 0x0, .any⟩]⟩,
  ⟨0x500200, [(2, 0x80000), (8, 0x8)], 8, [⟨0, 36, .rw, 0x0, (.al 64)⟩]⟩,
  ⟨0x500300, [(2, 0x80000), (8, 0x8)], 8, [⟨36, 20, .ro, 0x0, .any⟩, ⟨24, 11, .ro, 0x0, .any⟩, ⟨0, 23, .ro, 0x0, .any⟩]⟩,
  ⟨0x500400, [(2, 0x80000)], 8, [⟨0, 36, .rw, 0x0, (.al 64)⟩]⟩,
  ⟨0x500408, [(2, 0x80000)], 8, [⟨0, 32, .rw, 0x0, (.p2 64 65536)⟩]⟩,
  ⟨0x500410, [(2, 0x80000)], 8, [⟨0, 32, .ro, 0x0, .any⟩]⟩,
  ⟨0x500418, [(2, 0x80000)], 8, [⟨0, 32, .rw, 0x0, .any⟩]⟩,
  ⟨0x500500, [(2, 0x80000)], 4, [⟨8, 4, .ro, 0x0, .any⟩, ⟨7, 1, .ro, 0x1, .any⟩, ⟨1, 2, .rw, 0x0, .any⟩, ⟨0, 1, .wo, 0x0, .any⟩]⟩]

/-- Register layouts (RegsDev), part 6. -/
def layoutDev5 : List RegFam := [
  ⟨0x500508, [(2, 0x80000)], 4, [⟨0, 32, .rw, 0x0, .any⟩]⟩,
  ⟨0x500510, [(2, 0x80000)], 4, [⟨0, 32, .ro, 0x0, .any⟩]⟩,
  ⟨0x501000, [(2, 0x80000), (12, 0x8)], 8, [⟨0, 40, .ro, 0x0, .any⟩]⟩,
  ⟨0x600000, [(2, 0x80000)], 4, [⟨0, 5, .rw, 0x10, (.inR 1 16)⟩]⟩,
  ⟨0x600100, [(4, 0x40000)], 8, [⟨63, 1, .w1c, 0x0, .any⟩, ⟨0, 48, .ro, 0x0, .any⟩]⟩,
  ⟨0x601000, [(4, 0x40000), (7, 0x8)], 8, [⟨0, 40, .ro, 0x0, .any⟩]⟩,
  ⟨0x701000, [(4, 0x8)], 8, [⟨0, 40, .ro, 0x0, .any⟩]⟩]

/-- Every register layout of this file. -/
def layoutDev : List RegFam := layoutDev0 ++ layoutDev1 ++ layoutDev2 ++ layoutDev3 ++ layoutDev4 ++ layoutDev5

end Sys2Proof.Machine
end

