-- ==== Sys2Proof/Machine/RegsFlow.lean ====
section
/-! DEFINITION. RegsFlow: the registers of the Quarry, the engines and the debug port, one definition per field, and their layout. Each register's comment names the table or rule of spec/ that lays it out. -/

namespace Sys2Proof.Machine

-- QRY.GCFG: 07 Table 7.11 R175.
def QRY.GCFG.BENCH_TMO : Fld := ⟨8 * (0x1200000) + 16, 16, 0x32⟩
def QRY.GCFG.READY : Fld := ⟨8 * (0x1200000) + 6, 1, 0x0⟩
def QRY.GCFG.EN : Fld := ⟨8 * (0x1200000) + 5, 1, 0x0⟩
def QRY.GCFG.UNITS_LOG2 : Fld := ⟨8 * (0x1200000) + 0, 5, 0x1B⟩
-- QRY.SEED_1: 07 Table 7.10 R146.
def QRY.SEED_1.SEED : Fld := ⟨8 * (0x1200008) + 0, 32, 0x0⟩
-- QRY.SEED_2: 07 Table 7.10 R146.
def QRY.SEED_2.SEED : Fld := ⟨8 * (0x1200010) + 0, 32, 0x0⟩
-- QRY.BENCH_BASE: 07 Table 7.10 R148.
def QRY.BENCH_BASE.GIB (h : Nat) : Fld := ⟨8 * (0x1200018 + 8 * h) + 30, 6, 0x0⟩
-- QRY.SPLIT: 07 Table 7.10 R148.
def QRY.SPLIT.SPLIT : Fld := ⟨8 * (0x1200030) + 0, 28, 0x0⟩
-- QRY.AGE_CFG: 07 Table 7.10 R169.
def QRY.AGE_CFG.AGE_EN : Fld := ⟨8 * (0x1200040) + 6, 1, 0x0⟩
def QRY.AGE_CFG.SWEEP : Fld := ⟨8 * (0x1200040) + 0, 6, 0xA⟩
-- QRY.AGE_MAX: 07 Table 7.10 R169.
def QRY.AGE_MAX.MAX (k : Nat) : Fld := ⟨8 * (0x1200048 + 8 * k) + 0, 32, 0x1400⟩
-- QRY.NOW: 07 Table 7.10 R169.
def QRY.NOW.NOW : Fld := ⟨8 * (0x1200070) + 0, 32, 0x0⟩
-- QRY.ENDLOG_BASE: 07 Table 7.10 R171.
def QRY.ENDLOG_BASE.OFFSET (h : Nat) : Fld := ⟨8 * (0x1200080 + 0x20 * h) + 0, 36, 0x0⟩
-- QRY.ENDLOG_SIZE: 07 Table 7.10 R171.
def QRY.ENDLOG_SIZE.SIZE (h : Nat) : Fld := ⟨8 * (0x1200088 + 0x20 * h) + 0, 32, 0x0⟩
-- QRY.ENDLOG_WR: 07 Table 7.10 R171.
def QRY.ENDLOG_WR.WR (h : Nat) : Fld := ⟨8 * (0x1200090 + 0x20 * h) + 0, 32, 0x0⟩
-- QRY.ENDLOG_RD: 07 Table 7.10 R171.
def QRY.ENDLOG_RD.RD (h : Nat) : Fld := ⟨8 * (0x1200098 + 0x20 * h) + 0, 32, 0x0⟩
-- QRY.CMD_CTL: 07 Table 7.14 R174.
def QRY.CMD_CTL.STATIC : Fld := ⟨8 * (0x1200100) + 16, 1, 0x0⟩
def QRY.CMD_CTL.KTYPE : Fld := ⟨8 * (0x1200100) + 12, 4, 0x0⟩
def QRY.CMD_CTL.STATUS : Fld := ⟨8 * (0x1200100) + 8, 4, 0x0⟩
def QRY.CMD_CTL.DONE : Fld := ⟨8 * (0x1200100) + 5, 1, 0x1⟩
def QRY.CMD_CTL.FULL : Fld := ⟨8 * (0x1200100) + 4, 1, 0x0⟩
def QRY.CMD_CTL.OP : Fld := ⟨8 * (0x1200100) + 1, 3, 0x0⟩
def QRY.CMD_CTL.GO : Fld := ⟨8 * (0x1200100) + 0, 1, 0x0⟩
-- QRY.CMD_KEY: 07 Table 7.10 R174.
def QRY.CMD_KEY.W (k : Nat) : Fld := ⟨8 * (0x1200108 + 8 * k) + 0, 64, 0x0⟩
-- QRY.CMD_HANDLE: 07 Table 7.10 R174.
def QRY.CMD_HANDLE.HANDLE : Fld := ⟨8 * (0x1200138) + 0, 32, 0x0⟩
-- QRY.CMD_DATA: 07 Table 7.10 R174.
def QRY.CMD_DATA.W (w : Nat) : Fld := ⟨8 * (0x1200180 + 8 * w) + 0, 64, 0x0⟩
-- QRY.HCNT: 07 R176.
def QRY.HCNT.V (h i : Nat) : Fld := ⟨8 * (0x1200400 + 0x100 * h + 8 * i) + 0, 40, 0x0⟩
-- QRY.CTL: 07 Table 7.10 R143.
def QRY.CTL.EN (s : Nat) : Fld := ⟨8 * (0x1201000 + 0x400000 * s) + 0, 1, 0x0⟩
-- QRY.FACE_CFG: 07 Table 7.12 R168.
def QRY.FACE_CFG.IDLE_MS (s : Nat) : Fld := ⟨8 * (0x1201008 + 0x400000 * s) + 16, 16, 0x3E8⟩
def QRY.FACE_CFG.FLUSH_MS (s : Nat) : Fld := ⟨8 * (0x1201008 + 0x400000 * s) + 8, 8, 0xA⟩
def QRY.FACE_CFG.FLUSH_BUSY (s : Nat) : Fld := ⟨8 * (0x1201008 + 0x400000 * s) + 2, 1, 0x0⟩
def QRY.FACE_CFG.FLUSH_ALL (s : Nat) : Fld := ⟨8 * (0x1201008 + 0x400000 * s) + 1, 1, 0x0⟩
def QRY.FACE_CFG.WB_EN (s : Nat) : Fld := ⟨8 * (0x1201008 + 0x400000 * s) + 0, 1, 0x1⟩
-- QRY.INS_CFG: 07 Table 7.13 R164.
def QRY.INS_CFG.NOFLOW_PROG (s t : Nat) : Fld := ⟨8 * (0x1201040 + 0x400000 * s + 4 * t) + 10, 1, 0x0⟩
def QRY.INS_CFG.VERDICT (s t : Nat) : Fld := ⟨8 * (0x1201040 + 0x400000 * s + 4 * t) + 8, 2, 0x0⟩
def QRY.INS_CFG.AGE_CLASS (s t : Nat) : Fld := ⟨8 * (0x1201040 + 0x400000 * s + 4 * t) + 6, 2, 0x0⟩
def QRY.INS_CFG.LOG_END (s t : Nat) : Fld := ⟨8 * (0x1201040 + 0x400000 * s + 4 * t) + 5, 1, 0x0⟩
def QRY.INS_CFG.PROG (s t : Nat) : Fld := ⟨8 * (0x1201040 + 0x400000 * s + 4 * t) + 4, 1, 0x0⟩
def QRY.INS_CFG.TCP_SYN_ONLY (s t : Nat) : Fld := ⟨8 * (0x1201040 + 0x400000 * s + 4 * t) + 3, 1, 0x0⟩
def QRY.INS_CFG.SYM (s t : Nat) : Fld := ⟨8 * (0x1201040 + 0x400000 * s + 4 * t) + 2, 1, 0x0⟩
def QRY.INS_CFG.FULL (s t : Nat) : Fld := ⟨8 * (0x1201040 + 0x400000 * s + 4 * t) + 1, 1, 0x0⟩
def QRY.INS_CFG.INS_EN (s t : Nat) : Fld := ⟨8 * (0x1201040 + 0x400000 * s + 4 * t) + 0, 1, 0x0⟩
-- QRY.CNT: 07 R176.
def QRY.CNT.V (s i : Nat) : Fld := ⟨8 * (0x1201100 + 0x400000 * s + 8 * i) + 0, 40, 0x0⟩
-- ENG.CL_CTL: 08 Table 8.8 R200.
def ENG.CL_CTL.KEEPER_EN (c : Nat) : Fld := ⟨8 * (0x1280000 + 0x400000 * (c / 8) + 0x10000 * (c % 8)) + 16, 8, 0x0⟩
def ENG.CL_CTL.FORK_RESERVE (c : Nat) : Fld := ⟨8 * (0x1280000 + 0x400000 * (c / 8) + 0x10000 * (c % 8)) + 4, 6, 0x4⟩
def ENG.CL_CTL.CTR_ALLOW (c : Nat) : Fld := ⟨8 * (0x1280000 + 0x400000 * (c / 8) + 0x10000 * (c % 8)) + 3, 1, 0x0⟩
def ENG.CL_CTL.FOG_EN (c : Nat) : Fld := ⟨8 * (0x1280000 + 0x400000 * (c / 8) + 0x10000 * (c % 8)) + 2, 1, 0x1⟩
def ENG.CL_CTL.EN (c : Nat) : Fld := ⟨8 * (0x1280000 + 0x400000 * (c / 8) + 0x10000 * (c % 8)) + 0, 1, 0x0⟩
-- ENG.TMO_CFG: 08 Table 8.9 R199.
def ENG.TMO_CFG.HOLD_US (c : Nat) : Fld := ⟨8 * (0x1280008 + 0x400000 * (c / 8) + 0x10000 * (c % 8)) + 40, 10, 0x14⟩
def ENG.TMO_CFG.FOG_WINDOW (c : Nat) : Fld := ⟨8 * (0x1280008 + 0x400000 * (c / 8) + 0x10000 * (c % 8)) + 32, 8, 0x14⟩
def ENG.TMO_CFG.THREAD_TMO (c : Nat) : Fld := ⟨8 * (0x1280008 + 0x400000 * (c / 8) + 0x10000 * (c % 8)) + 16, 16, 0x64⟩
def ENG.TMO_CFG.KEEPER_TMO (c : Nat) : Fld := ⟨8 * (0x1280008 + 0x400000 * (c / 8) + 0x10000 * (c % 8)) + 0, 16, 0xA⟩
-- ENG.SHARE_CFG: 08 Table 8.10 R208.
def ENG.SHARE_CFG.TX_MAX (c : Nat) : Fld := ⟨8 * (0x1280018 + 0x400000 * (c / 8) + 0x10000 * (c % 8)) + 24, 6, 0x8⟩
def ENG.SHARE_CFG.TX_MIN (c : Nat) : Fld := ⟨8 * (0x1280018 + 0x400000 * (c / 8) + 0x10000 * (c % 8)) + 16, 3, 0x1⟩
def ENG.SHARE_CFG.BUF_MAX (c : Nat) : Fld := ⟨8 * (0x1280018 + 0x400000 * (c / 8) + 0x10000 * (c % 8)) + 8, 6, 0x20⟩
def ENG.SHARE_CFG.BUF_MIN (c : Nat) : Fld := ⟨8 * (0x1280018 + 0x400000 * (c / 8) + 0x10000 * (c % 8)) + 1, 5, 0x4⟩
def ENG.SHARE_CFG.MODE (c : Nat) : Fld := ⟨8 * (0x1280018 + 0x400000 * (c / 8) + 0x10000 * (c % 8)) + 0, 1, 0x0⟩
-- ENG.HBM_WIN: 09 Table 9.8 R228.
def ENG.HBM_WIN.SIZE (c : Nat) : Fld := ⟨8 * (0x1280020 + 0x400000 * (c / 8) + 0x10000 * (c % 8)) + 32, 20, 0x0⟩
def ENG.HBM_WIN.BASE (c : Nat) : Fld := ⟨8 * (0x1280020 + 0x400000 * (c / 8) + 0x10000 * (c % 8)) + 0, 20, 0x0⟩
-- ENG.MODE: 16 Table 16.2 R385.
def ENG.MODE.DOZING (c e : Nat) : Fld := ⟨8 * (0x1280080 + 0x400000 * (c / 8) + 0x10000 * (c % 8) + 8 * e) + 16, 1, 0x0⟩
def ENG.MODE.IDLE_DELAY (c e : Nat) : Fld := ⟨8 * (0x1280080 + 0x400000 * (c / 8) + 0x10000 * (c % 8) + 8 * e) + 8, 8, 0x10⟩
def ENG.MODE.SLEEP_EN (c e : Nat) : Fld := ⟨8 * (0x1280080 + 0x400000 * (c / 8) + 0x10000 * (c % 8) + 8 * e) + 0, 1, 0x0⟩
-- ENG.KEEPER_ENTRY: 08 Table 8.7 R200.
def ENG.KEEPER_ENTRY.ADDR (c e : Nat) : Fld := ⟨8 * (0x1280100 + 0x400000 * (c / 8) + 0x10000 * (c % 8) + 8 * e) + 0, 13, 0x0⟩
-- ENG.SLOT: 08 Table 8.7 R181.
def ENG.SLOT.W (c x e w : Nat) : Fld := ⟨8 * (0x1280200 + 0x400000 * (c / 8) + 0x10000 * (c % 8) + 0x100 * x + 0x10 * e + 8 * w) + 0, 64, 0x0⟩
-- ENG.CREG: 08 Table 8.7 R194.
def ENG.CREG.W (c i : Nat) : Fld := ⟨8 * (0x1280400 + 0x400000 * (c / 8) + 0x10000 * (c % 8) + 8 * i) + 0, 64, 0x0⟩
-- ENG.CTX_STAT: 08 Table 8.11 R180.
def ENG.CTX_STAT.CHILDREN (c t : Nat) : Fld := ⟨8 * (0x1280800 + 0x400000 * (c / 8) + 0x10000 * (c % 8) + 8 * t) + 22, 4, 0x0⟩
def ENG.CTX_STAT.PC (c t : Nat) : Fld := ⟨8 * (0x1280800 + 0x400000 * (c / 8) + 0x10000 * (c % 8) + 8 * t) + 9, 13, 0x0⟩
def ENG.CTX_STAT.EPOCH (c t : Nat) : Fld := ⟨8 * (0x1280800 + 0x400000 * (c / 8) + 0x10000 * (c % 8) + 8 * t) + 6, 3, 0x0⟩
def ENG.CTX_STAT.CHAN (c t : Nat) : Fld := ⟨8 * (0x1280800 + 0x400000 * (c / 8) + 0x10000 * (c % 8) + 8 * t) + 5, 1, 0x0⟩
def ENG.CTX_STAT.REC (c t : Nat) : Fld := ⟨8 * (0x1280800 + 0x400000 * (c / 8) + 0x10000 * (c % 8) + 8 * t) + 4, 1, 0x0⟩
def ENG.CTX_STAT.PKT (c t : Nat) : Fld := ⟨8 * (0x1280800 + 0x400000 * (c / 8) + 0x10000 * (c % 8) + 8 * t) + 3, 1, 0x0⟩
def ENG.CTX_STAT.STATE (c t : Nat) : Fld := ⟨8 * (0x1280800 + 0x400000 * (c / 8) + 0x10000 * (c % 8) + 8 * t) + 0, 3, 0x0⟩
-- ENG.FAULT_HOST: 08 Table 8.6 R204.
def ENG.FAULT_HOST.DETAIL (c e : Nat) : Fld := ⟨8 * (0x1280A00 + 0x400000 * (c / 8) + 0x10000 * (c % 8) + 8 * e) + 32, 32, 0x0⟩
def ENG.FAULT_HOST.VALID (c e : Nat) : Fld := ⟨8 * (0x1280A00 + 0x400000 * (c / 8) + 0x10000 * (c % 8) + 8 * e) + 31, 1, 0x0⟩
def ENG.FAULT_HOST.OVERRUN (c e : Nat) : Fld := ⟨8 * (0x1280A00 + 0x400000 * (c / 8) + 0x10000 * (c % 8) + 8 * e) + 30, 1, 0x0⟩
def ENG.FAULT_HOST.EPOCH (c e : Nat) : Fld := ⟨8 * (0x1280A00 + 0x400000 * (c / 8) + 0x10000 * (c % 8) + 8 * e) + 26, 3, 0x0⟩
def ENG.FAULT_HOST.REC (c e : Nat) : Fld := ⟨8 * (0x1280A00 + 0x400000 * (c / 8) + 0x10000 * (c % 8) + 8 * e) + 25, 1, 0x0⟩
def ENG.FAULT_HOST.PKT (c e : Nat) : Fld := ⟨8 * (0x1280A00 + 0x400000 * (c / 8) + 0x10000 * (c % 8) + 8 * e) + 24, 1, 0x0⟩
def ENG.FAULT_HOST.PC (c e : Nat) : Fld := ⟨8 * (0x1280A00 + 0x400000 * (c / 8) + 0x10000 * (c % 8) + 8 * e) + 11, 13, 0x0⟩
def ENG.FAULT_HOST.CONTEXT (c e : Nat) : Fld := ⟨8 * (0x1280A00 + 0x400000 * (c / 8) + 0x10000 * (c % 8) + 8 * e) + 8, 3, 0x0⟩
def ENG.FAULT_HOST.CODE (c e : Nat) : Fld := ⟨8 * (0x1280A00 + 0x400000 * (c / 8) + 0x10000 * (c % 8) + 8 * e) + 0, 8, 0x0⟩
-- ENG.CNT: 08 R209.
def ENG.CNT.V (c i : Nat) : Fld := ⟨8 * (0x1280C00 + 0x400000 * (c / 8) + 0x10000 * (c % 8) + 8 * i) + 0, 40, 0x0⟩
-- ENG.PATCH_CTL: 09 Table 9.8 R236.
def ENG.PATCH_CTL.ACTIVE (c : Nat) : Fld := ⟨8 * (0x1280E00 + 0x400000 * (c / 8) + 0x10000 * (c % 8)) + 35, 1, 0x0⟩
def ENG.PATCH_CTL.COUNT (c : Nat) : Fld := ⟨8 * (0x1280E00 + 0x400000 * (c / 8) + 0x10000 * (c % 8)) + 21, 14, 0x1⟩
def ENG.PATCH_CTL.DST (c : Nat) : Fld := ⟨8 * (0x1280E00 + 0x400000 * (c / 8) + 0x10000 * (c % 8)) + 8, 13, 0x0⟩
def ENG.PATCH_CTL.STATUS (c : Nat) : Fld := ⟨8 * (0x1280E00 + 0x400000 * (c / 8) + 0x10000 * (c % 8)) + 4, 4, 0x0⟩
def ENG.PATCH_CTL.DONE (c : Nat) : Fld := ⟨8 * (0x1280E00 + 0x400000 * (c / 8) + 0x10000 * (c % 8)) + 3, 1, 0x1⟩
def ENG.PATCH_CTL.MODE (c : Nat) : Fld := ⟨8 * (0x1280E00 + 0x400000 * (c / 8) + 0x10000 * (c % 8)) + 1, 2, 0x0⟩
def ENG.PATCH_CTL.GO (c : Nat) : Fld := ⟨8 * (0x1280E00 + 0x400000 * (c / 8) + 0x10000 * (c % 8)) + 0, 1, 0x0⟩
-- ENG.PATCH_SRC: 09 Table 9.8 R233.
def ENG.PATCH_SRC.OFFSET (c : Nat) : Fld := ⟨8 * (0x1280E08 + 0x400000 * (c / 8) + 0x10000 * (c % 8)) + 0, 36, 0x0⟩
-- ENG.PATCH_CRC: 09 Table 9.8 R233.
def ENG.PATCH_CRC.CRC (c : Nat) : Fld := ⟨8 * (0x1280E10 + 0x400000 * (c / 8) + 0x10000 * (c % 8)) + 0, 32, 0x0⟩
-- ENG.MCHK: 09 Table 9.8 R231.
def ENG.MCHK.REFETCHES (c : Nat) : Fld := ⟨8 * (0x1280E18 + 0x400000 * (c / 8) + 0x10000 * (c % 8)) + 48, 16, 0x0⟩
def ENG.MCHK.VALID (c : Nat) : Fld := ⟨8 * (0x1280E18 + 0x400000 * (c / 8) + 0x10000 * (c % 8)) + 31, 1, 0x0⟩
def ENG.MCHK.OVERRUN (c : Nat) : Fld := ⟨8 * (0x1280E18 + 0x400000 * (c / 8) + 0x10000 * (c % 8)) + 30, 1, 0x0⟩
def ENG.MCHK.LASTING (c : Nat) : Fld := ⟨8 * (0x1280E18 + 0x400000 * (c / 8) + 0x10000 * (c % 8)) + 22, 1, 0x0⟩
def ENG.MCHK.GROUPS (c : Nat) : Fld := ⟨8 * (0x1280E18 + 0x400000 * (c / 8) + 0x10000 * (c % 8)) + 14, 8, 0x0⟩
def ENG.MCHK.SET (c : Nat) : Fld := ⟨8 * (0x1280E18 + 0x400000 * (c / 8) + 0x10000 * (c % 8)) + 13, 1, 0x0⟩
def ENG.MCHK.ADDR (c : Nat) : Fld := ⟨8 * (0x1280E18 + 0x400000 * (c / 8) + 0x10000 * (c % 8)) + 0, 13, 0x0⟩
-- DBG.CTL: 15 Table 15.11 R378.
def DBG.CTL.FOREIGN (c : Nat) : Fld := ⟨8 * (0x3000000 + 0x10000 * c) + 4, 1, 0x0⟩
def DBG.CTL.HOLD_DISPATCH (c : Nat) : Fld := ⟨8 * (0x3000000 + 0x10000 * c) + 3, 1, 0x0⟩
def DBG.CTL.BP_RELEASE (c : Nat) : Fld := ⟨8 * (0x3000000 + 0x10000 * c) + 2, 1, 0x0⟩
def DBG.CTL.BRK_EN (c : Nat) : Fld := ⟨8 * (0x3000000 + 0x10000 * c) + 1, 1, 0x0⟩
def DBG.CTL.OWNER (c : Nat) : Fld := ⟨8 * (0x3000000 + 0x10000 * c) + 0, 1, 0x0⟩
-- DBG.BP: 15 Table 15.11 R379.
def DBG.BP.EN (c k : Nat) : Fld := ⟨8 * (0x3000008 + 0x10000 * c + 8 * k) + 14, 1, 0x0⟩
def DBG.BP.SET (c k : Nat) : Fld := ⟨8 * (0x3000008 + 0x10000 * c + 8 * k) + 13, 1, 0x0⟩
def DBG.BP.ADDR (c k : Nat) : Fld := ⟨8 * (0x3000008 + 0x10000 * c + 8 * k) + 0, 13, 0x0⟩
-- DBG.CMD: 15 Table 15.11 R379.
def DBG.CMD.GO (c : Nat) : Fld := ⟨8 * (0x3000040 + 0x10000 * c) + 17, 1, 0x0⟩
def DBG.CMD.DONE (c : Nat) : Fld := ⟨8 * (0x3000040 + 0x10000 * c) + 16, 1, 0x1⟩
def DBG.CMD.STATUS (c : Nat) : Fld := ⟨8 * (0x3000040 + 0x10000 * c) + 12, 4, 0x0⟩
def DBG.CMD.CONTEXT (c : Nat) : Fld := ⟨8 * (0x3000040 + 0x10000 * c) + 3, 6, 0x0⟩
def DBG.CMD.OP (c : Nat) : Fld := ⟨8 * (0x3000040 + 0x10000 * c) + 0, 3, 0x0⟩
-- DBG.HALT_STAT: 15 Table 15.11.
def DBG.HALT_STAT.HALTED (c : Nat) : Fld := ⟨8 * (0x3000048 + 0x10000 * c) + 0, 64, 0x0⟩
-- DBG.CHAN: 15 Table 15.11.
def DBG.CHAN.OPEN_US (c i : Nat) : Fld := ⟨8 * (0x3000100 + 0x10000 * c + 8 * i) + 16, 16, 0x0⟩
def DBG.CHAN.STAGED (c i : Nat) : Fld := ⟨8 * (0x3000100 + 0x10000 * c + 8 * i) + 8, 8, 0x0⟩
def DBG.CHAN.HOLDER (c i : Nat) : Fld := ⟨8 * (0x3000100 + 0x10000 * c + 8 * i) + 2, 6, 0x0⟩
def DBG.CHAN.STATE (c i : Nat) : Fld := ⟨8 * (0x3000100 + 0x10000 * c + 8 * i) + 0, 2, 0x0⟩

/-- Register layouts (RegsFlow), part 1. -/
def layoutFlow0 : List RegFam := [
  ⟨0x1200000, [], 4, [⟨16, 16, .rw, 0x32, .nz⟩, ⟨6, 1, .ro, 0x0, .any⟩, ⟨5, 1, .rw, 0x0, .any⟩, ⟨0, 5, .rw, 0x1B, (.inR 16 27)⟩]⟩,
  ⟨0x1200008, [], 4, [⟨0, 32, .rw, 0x0, .any⟩]⟩,
  ⟨0x1200010, [], 4, [⟨0, 32, .rw, 0x0, .any⟩]⟩,
  ⟨0x1200018, [(2, 0x8)], 8, [⟨30, 6, .rw, 0x0, .any⟩]⟩,
  ⟨0x1200030, [], 4, [⟨0, 28, .rw, 0x0, .any⟩]⟩,
  ⟨0x1200040, [], 4, [⟨6, 1, .rw, 0x0, .any⟩, ⟨0, 6, .rw, 0xA, (.inR 1 60)⟩]⟩,
  ⟨0x1200048, [(4, 0x8)], 4, [⟨0, 32, .rw, 0x1400, (.inR 1 2147483647)⟩]⟩,
  ⟨0x1200070, [], 4, [⟨0, 32, .ro, 0x0, .any⟩]⟩,
  ⟨0x1200080, [(2, 0x20)], 8, [⟨0, 36, .rw, 0x0, (.al 256)⟩]⟩,
  ⟨0x1200088, [(2, 0x20)], 8, [⟨0, 32, .rw, 0x0, (.p2 64 1048576)⟩]⟩,
  ⟨0x1200090, [(2, 0x20)], 8, [⟨0, 32, .ro, 0x0, .any⟩]⟩,
  ⟨0x1200098, [(2, 0x20)], 8, [⟨0, 32, .rw, 0x0, .any⟩]⟩,
  ⟨0x1200100, [], 4, [⟨16, 1, .rw, 0x0, .any⟩, ⟨12, 4, .rw, 0x0, .any⟩, ⟨8, 4, .ro, 0x0, .any⟩, ⟨5, 1, .ro, 0x1, .any⟩, ⟨4, 1, .rw, 0x0, .any⟩, ⟨1, 3, .rw, 0x0, .any⟩, ⟨0, 1, .wo, 0x0, .any⟩]⟩,
  ⟨0x1200108, [(6, 0x8)], 8, [⟨0, 64, .rw, 0x0, .any⟩]⟩,
  ⟨0x1200138, [], 4, [⟨0, 32, .rw, 0x0, .any⟩]⟩,
  ⟨0x1200180, [(16, 0x8)], 8, [⟨0, 64, .rw, 0x0, .any⟩]⟩,
  ⟨0x1200400, [(2, 0x100), (6, 0x8)], 8, [⟨0, 40, .ro, 0x0, .any⟩]⟩,
  ⟨0x1201000, [(8, 0x400000)], 4, [⟨0, 1, .rw, 0x0, .any⟩]⟩,
  ⟨0x1201008, [(8, 0x400000)], 4, [⟨16, 16, .rw, 0x3E8, .nz⟩, ⟨8, 8, .rw, 0xA, .nz⟩, ⟨2, 1, .ro, 0x0, .any⟩, ⟨1, 1, .wo, 0x0, .any⟩, ⟨0, 1, .rw, 0x1, .any⟩]⟩,
  ⟨0x1201040, [(8, 0x400000), (16, 0x4)], 4, [⟨10, 1, .rw, 0x0, .any⟩, ⟨8, 2, .rw, 0x0, .any⟩, ⟨6, 2, .rw, 0x0, .any⟩, ⟨5, 1, .rw, 0x0, .any⟩, ⟨4, 1, .rw, 0x0, .any⟩, ⟨3, 1, .rw, 0x0, .any⟩, ⟨2, 1, .rw, 0x0, .any⟩, ⟨1, 1, .rw, 0x0, .any⟩, ⟨0, 1, .rw, 0x0, .any⟩]⟩]

/-- Register layouts (RegsFlow), part 2. -/
def layoutFlow1 : List RegFam := [
  ⟨0x1201100, [(8, 0x400000), (16, 0x8)], 8, [⟨0, 40, .ro, 0x0, .any⟩]⟩,
  ⟨0x1280000, [(8, 0x400000), (8, 0x10000)], 4, [⟨16, 8, .rw, 0x0, .any⟩, ⟨4, 6, .rw, 0x4, (.le 32)⟩, ⟨3, 1, .rw, 0x0, .any⟩, ⟨2, 1, .rw, 0x1, .any⟩, ⟨0, 1, .rw, 0x0, .any⟩]⟩,
  ⟨0x1280008, [(8, 0x400000), (8, 0x10000)], 8, [⟨40, 10, .rw, 0x14, (.inR 1 1000)⟩, ⟨32, 8, .rw, 0x14, .nz⟩, ⟨16, 16, .rw, 0x64, .nz⟩, ⟨0, 16, .rw, 0xA, .nz⟩]⟩,
  ⟨0x1280018, [(8, 0x400000), (8, 0x10000)], 4, [⟨24, 6, .rw, 0x8, .any⟩, ⟨16, 3, .rw, 0x1, .any⟩, ⟨8, 6, .rw, 0x20, .any⟩, ⟨1, 5, .rw, 0x4, .any⟩, ⟨0, 1, .rw, 0x0, .any⟩]⟩,
  ⟨0x1280020, [(8, 0x400000), (8, 0x10000)], 8, [⟨32, 20, .rw, 0x0, .any⟩, ⟨0, 20, .rw, 0x0, .any⟩]⟩,
  ⟨0x1280080, [(8, 0x400000), (8, 0x10000), (8, 0x8)], 8, [⟨16, 1, .ro, 0x0, .any⟩, ⟨8, 8, .rw, 0x10, .nz⟩, ⟨0, 1, .rw, 0x0, .any⟩]⟩,
  ⟨0x1280100, [(8, 0x400000), (8, 0x10000), (8, 0x8)], 8, [⟨0, 13, .rw, 0x0, .any⟩]⟩,
  ⟨0x1280200, [(8, 0x400000), (8, 0x10000), (2, 0x100), (8, 0x10), (2, 0x8)], 8, [⟨0, 64, .rw, 0x0, .any⟩]⟩,
  ⟨0x1280400, [(8, 0x400000), (8, 0x10000), (64, 0x8)], 8, [⟨0, 64, .rw, 0x0, .any⟩]⟩,
  ⟨0x1280800, [(8, 0x400000), (8, 0x10000), (64, 0x8)], 8, [⟨22, 4, .ro, 0x0, .any⟩, ⟨9, 13, .ro, 0x0, .any⟩, ⟨6, 3, .ro, 0x0, .any⟩, ⟨5, 1, .ro, 0x0, .any⟩, ⟨4, 1, .ro, 0x0, .any⟩, ⟨3, 1, .ro, 0x0, .any⟩, ⟨0, 3, .ro, 0x0, .any⟩]⟩,
  ⟨0x1280A00, [(8, 0x400000), (8, 0x10000), (8, 0x8)], 8, [⟨32, 32, .ro, 0x0, .any⟩, ⟨31, 1, .w1c, 0x0, .any⟩, ⟨30, 1, .w1c, 0x0, .any⟩, ⟨26, 3, .ro, 0x0, .any⟩, ⟨25, 1, .ro, 0x0, .any⟩, ⟨24, 1, .ro, 0x0, .any⟩, ⟨11, 13, .ro, 0x0, .any⟩, ⟨8, 3, .ro, 0x0, .any⟩, ⟨0, 8, .ro, 0x0, .any⟩]⟩,
  ⟨0x1280C00, [(8, 0x400000), (8, 0x10000), (13, 0x8)], 8, [⟨0, 40, .ro, 0x0, .any⟩]⟩,
  ⟨0x1280E00, [(8, 0x400000), (8, 0x10000)], 8, [⟨35, 1, .rw, 0x0, .any⟩, ⟨21, 14, .rw, 0x1, .any⟩, ⟨8, 13, .rw, 0x0, .any⟩, ⟨4, 4, .ro, 0x0, .any⟩, ⟨3, 1, .ro, 0x1, .any⟩, ⟨1, 2, .rw, 0x0, .any⟩, ⟨0, 1, .wo, 0x0, .any⟩]⟩,
  ⟨0x1280E08, [(8, 0x400000), (8, 0x10000)], 8, [⟨0, 36, .rw, 0x0, .any⟩]⟩,
  ⟨0x1280E10, [(8, 0x400000), (8, 0x10000)], 4, [⟨0, 32, .rw, 0x0, .any⟩]⟩,
  ⟨0x1280E18, [(8, 0x400000), (8, 0x10000)], 8, [⟨48, 16, .ro, 0x0, .any⟩, ⟨31, 1, .w1c, 0x0, .any⟩, ⟨30, 1, .w1c, 0x0, .any⟩, ⟨22, 1, .ro, 0x0, .any⟩, ⟨14, 8, .ro, 0x0, .any⟩, ⟨13, 1, .ro, 0x0, .any⟩, ⟨0, 13, .ro, 0x0, .any⟩]⟩,
  ⟨0x3000000, [(64, 0x10000)], 8, [⟨4, 1, .w1c, 0x0, .any⟩, ⟨3, 1, .rw, 0x0, .any⟩, ⟨2, 1, .rw, 0x0, .any⟩, ⟨1, 1, .rw, 0x0, .any⟩, ⟨0, 1, .rw, 0x0, .any⟩]⟩,
  ⟨0x3000008, [(64, 0x10000), (4, 0x8)], 8, [⟨14, 1, .rw, 0x0, .any⟩, ⟨13, 1, .rw, 0x0, .any⟩, ⟨0, 13, .rw, 0x0, .any⟩]⟩,
  ⟨0x3000040, [(64, 0x10000)], 8, [⟨17, 1, .wo, 0x0, .any⟩, ⟨16, 1, .ro, 0x1, .any⟩, ⟨12, 4, .ro, 0x0, .any⟩, ⟨3, 6, .rw, 0x0, .any⟩, ⟨0, 3, .rw, 0x0, .any⟩]⟩,
  ⟨0x3000048, [(64, 0x10000)], 8, [⟨0, 64, .ro, 0x0, .any⟩]⟩]

/-- Register layouts (RegsFlow), part 3. -/
def layoutFlow2 : List RegFam := [
  ⟨0x3000100, [(64, 0x10000), (16, 0x8)], 8, [⟨16, 16, .ro, 0x0, .any⟩, ⟨8, 8, .ro, 0x0, .any⟩, ⟨2, 6, .ro, 0x0, .any⟩, ⟨0, 2, .ro, 0x0, .any⟩]⟩]

/-- Every register layout of this file. -/
def layoutFlow : List RegFam := layoutFlow0 ++ layoutFlow1 ++ layoutFlow2

end Sys2Proof.Machine
end

