-- ==== Sys2Proof/Machine/RegsPath.lean ====
section
/-! DEFINITION. RegsPath: the registers of the frame path: MAC, PRS, CLS, FWD, one definition per field, and their layout. Each register's comment names the table or rule of spec/ that lays it out. -/

namespace Sys2Proof.Machine

-- MAC.OCTET_MODE: 03 Table 3.3 R50.
def MAC.OCTET_MODE.MODE_1 (s k : Nat) : Fld := ⟨8 * (0x1000000 + 0x400000 * s + 4 * k) + 4, 4, 0x0⟩
def MAC.OCTET_MODE.MODE_0 (s k : Nat) : Fld := ⟨8 * (0x1000000 + 0x400000 * s + 4 * k) + 0, 4, 0x0⟩
-- MAC.LANE_SWAP_RX: 03 Table 3.4 R53.
def MAC.LANE_SWAP_RX.RX_SEL (s k : Nat) : Fld := ⟨8 * (0x1000010 + 0x400000 * s + 4 * k) + 0, 24, 0xFAC688⟩
-- MAC.LANE_SWAP_TX: 03 Table 3.4 R53.
def MAC.LANE_SWAP_TX.TX_SEL (s k : Nat) : Fld := ⟨8 * (0x1000020 + 0x400000 * s + 4 * k) + 0, 24, 0xFAC688⟩
-- MAC.LANE_POL: 03 Table 3.4 R53.
def MAC.LANE_POL.TX_INV (s k : Nat) : Fld := ⟨8 * (0x1000030 + 0x400000 * s + 4 * k) + 8, 8, 0x0⟩
def MAC.LANE_POL.RX_INV (s k : Nat) : Fld := ⟨8 * (0x1000030 + 0x400000 * s + 4 * k) + 0, 8, 0x0⟩
-- MAC.ADAPT_CFG: 03 Table 3.6 R57.
def MAC.ADAPT_CFG.MARGIN_THR (s k : Nat) : Fld := ⟨8 * (0x1000040 + 0x400000 * s + 4 * k) + 16, 8, 0x1E⟩
def MAC.ADAPT_CFG.FREEZE (s k : Nat) : Fld := ⟨8 * (0x1000040 + 0x400000 * s + 4 * k) + 10, 1, 0x0⟩
def MAC.ADAPT_CFG.INTERVAL (s k : Nat) : Fld := ⟨8 * (0x1000040 + 0x400000 * s + 4 * k) + 0, 10, 0x64⟩
-- MAC.LINK_CHG: 03 R61.
def MAC.LINK_CHG.BITS (s : Nat) : Fld := ⟨8 * (0x1000050 + 0x400000 * s) + 0, 32, 0x0⟩
-- MAC.LANE_LIMIT: 03 R61.
def MAC.LANE_LIMIT.BITS (s : Nat) : Fld := ⟨8 * (0x1000054 + 0x400000 * s) + 0, 32, 0x0⟩
-- MAC.LANE_MARGIN: 03 R61.
def MAC.LANE_MARGIN.BITS (s : Nat) : Fld := ⟨8 * (0x1000058 + 0x400000 * s) + 0, 32, 0x0⟩
-- MAC.PAUSE_SA_LO: 03 R457.
def MAC.PAUSE_SA_LO.SA (s : Nat) : Fld := ⟨8 * (0x1000060 + 0x400000 * s) + 0, 32, 0x0⟩
-- MAC.PAUSE_SA_HI: 03 R457.
def MAC.PAUSE_SA_HI.SA (s : Nat) : Fld := ⟨8 * (0x1000064 + 0x400000 * s) + 0, 16, 0x0⟩
-- MAC.PORT_CFG: 03 Table 3.7 R60.
def MAC.PORT_CFG.TX_EN (p : Nat) : Fld := ⟨8 * (0x1001000 + 0x400000 * portSlice p + 0x40 * portIdx p) + 20, 1, 0x0⟩
def MAC.PORT_CFG.RX_EN (p : Nat) : Fld := ⟨8 * (0x1001000 + 0x400000 * portSlice p + 0x40 * portIdx p) + 19, 1, 0x0⟩
def MAC.PORT_CFG.LT_EN (p : Nat) : Fld := ⟨8 * (0x1001000 + 0x400000 * portSlice p + 0x40 * portIdx p) + 18, 1, 0x0⟩
def MAC.PORT_CFG.AN_EN (p : Nat) : Fld := ⟨8 * (0x1001000 + 0x400000 * portSlice p + 0x40 * portIdx p) + 17, 1, 0x0⟩
def MAC.PORT_CFG.PAUSE_MODE (p : Nat) : Fld := ⟨8 * (0x1001000 + 0x400000 * portSlice p + 0x40 * portIdx p) + 15, 2, 0x0⟩
def MAC.PORT_CFG.TS_MDI (p : Nat) : Fld := ⟨8 * (0x1001000 + 0x400000 * portSlice p + 0x40 * portIdx p) + 14, 1, 0x1⟩
def MAC.PORT_CFG.MAX_FRAME (p : Nat) : Fld := ⟨8 * (0x1001000 + 0x400000 * portSlice p + 0x40 * portIdx p) + 0, 14, 0x5EE⟩
-- MAC.PORT_STAT: 03 Table 3.7 R60.
def MAC.PORT_STAT.SKEW (p : Nat) : Fld := ⟨8 * (0x1001004 + 0x400000 * portSlice p + 0x40 * portIdx p) + 8, 8, 0x0⟩
def MAC.PORT_STAT.LT_DONE (p : Nat) : Fld := ⟨8 * (0x1001004 + 0x400000 * portSlice p + 0x40 * portIdx p) + 4, 1, 0x0⟩
def MAC.PORT_STAT.AN_DONE (p : Nat) : Fld := ⟨8 * (0x1001004 + 0x400000 * portSlice p + 0x40 * portIdx p) + 3, 1, 0x0⟩
def MAC.PORT_STAT.FEC_ALIGN (p : Nat) : Fld := ⟨8 * (0x1001004 + 0x400000 * portSlice p + 0x40 * portIdx p) + 2, 1, 0x0⟩
def MAC.PORT_STAT.PCS_LOCK (p : Nat) : Fld := ⟨8 * (0x1001004 + 0x400000 * portSlice p + 0x40 * portIdx p) + 1, 1, 0x0⟩
def MAC.PORT_STAT.LINK (p : Nat) : Fld := ⟨8 * (0x1001004 + 0x400000 * portSlice p + 0x40 * portIdx p) + 0, 1, 0x0⟩
-- MAC.TS_ADJ: 03 Table 3.7 R71.
def MAC.TS_ADJ.TX_ADJ (p : Nat) : Fld := ⟨8 * (0x1001008 + 0x400000 * portSlice p + 0x40 * portIdx p) + 16, 16, 0x0⟩
def MAC.TS_ADJ.RX_ADJ (p : Nat) : Fld := ⟨8 * (0x1001008 + 0x400000 * portSlice p + 0x40 * portIdx p) + 0, 16, 0x0⟩
-- MAC.CNT: 03 Table 3.8 R64.
def MAC.CNT.V (p i : Nat) : Fld := ⟨8 * (0x1004000 + 0x400000 * portSlice p + 0x100 * portIdx p + 8 * i) + 0, 40, 0x0⟩
-- PRS.TPID: 04 Table 4.10 R82.
def PRS.TPID.EN (s x k : Nat) : Fld := ⟨8 * (0x1080000 + 0x400000 * s + 0x10 * x + 4 * k) + 16, 1, 0x0⟩
def PRS.TPID.TPID (s x k : Nat) : Fld := ⟨8 * (0x1080000 + 0x400000 * s + 0x10 * x + 4 * k) + 0, 16, 0x0⟩
-- PRS.PROF_CTL: 04 Table 4.11 R93.
def PRS.PROF_CTL.PROFILE_BUSY (s : Nat) : Fld := ⟨8 * (0x1080020 + 0x400000 * s) + 1, 1, 0x0⟩
def PRS.PROF_CTL.PROFILE_OFF (s : Nat) : Fld := ⟨8 * (0x1080020 + 0x400000 * s) + 0, 1, 0x1⟩
-- PRS.GRAPH_CFG: 04 Table 4.12 R91.
def PRS.GRAPH_CFG.NOCLAIM_ACT (s x : Nat) : Fld := ⟨8 * (0x1080028 + 0x400000 * s + 4 * x) + 28, 2, 0x0⟩
def PRS.GRAPH_CFG.ROOT (s x : Nat) : Fld := ⟨8 * (0x1080028 + 0x400000 * s + 4 * x) + 16, 9, 0x0⟩
def PRS.GRAPH_CFG.NODE_LIMIT (s x : Nat) : Fld := ⟨8 * (0x1080028 + 0x400000 * s + 4 * x) + 0, 6, 0x10⟩
-- PRS.CNT: 04 R97.
def PRS.CNT.V (s i : Nat) : Fld := ⟨8 * (0x1081000 + 0x400000 * s + 8 * i) + 0, 40, 0x0⟩
-- PRS.PRESEL_KEY: 04 R83.
def PRS.PRESEL_KEY.W (s x i : Nat) : Fld := ⟨8 * (0x1082000 + 0x400000 * s + 0x800 * x + 0x20 * i) + 0, 64, 0x0⟩
-- PRS.PRESEL_MASK: 04 R83.
def PRS.PRESEL_MASK.W (s x i : Nat) : Fld := ⟨8 * (0x1082008 + 0x400000 * s + 0x800 * x + 0x20 * i) + 0, 64, 0x0⟩
-- PRS.PRESEL_RESULT: 04 Table 4.3 R83.
def PRS.PRESEL_RESULT.START_NODE (s x i : Nat) : Fld := ⟨8 * (0x1082010 + 0x400000 * s + 0x800 * x + 0x20 * i) + 8, 9, 0x0⟩
def PRS.PRESEL_RESULT.GRAPH (s x i : Nat) : Fld := ⟨8 * (0x1082010 + 0x400000 * s + 0x800 * x + 0x20 * i) + 7, 1, 0x0⟩
def PRS.PRESEL_RESULT.VALID (s x i : Nat) : Fld := ⟨8 * (0x1082010 + 0x400000 * s + 0x800 * x + 0x20 * i) + 6, 1, 0x0⟩
def PRS.PRESEL_RESULT.PROFILE (s x i : Nat) : Fld := ⟨8 * (0x1082010 + 0x400000 * s + 0x800 * x + 0x20 * i) + 0, 6, 0x0⟩
-- PRS.PROFILE_HDR: 04 Table 4.4 R84.
def PRS.PROFILE_HDR.KEYTYPE (s p : Nat) : Fld := ⟨8 * (0x1084000 + 0x400000 * s + 0x80 * p) + 56, 4, 0x0⟩
def PRS.PROFILE_HDR.FLAGS (s p : Nat) : Fld := ⟨8 * (0x1084000 + 0x400000 * s + 0x80 * p) + 48, 8, 0x0⟩
def PRS.PROFILE_HDR.PAY_OFF (s p : Nat) : Fld := ⟨8 * (0x1084000 + 0x400000 * s + 0x80 * p) + 40, 8, 0x0⟩
def PRS.PROFILE_HDR.INNER_L4_OFF (s p : Nat) : Fld := ⟨8 * (0x1084000 + 0x400000 * s + 0x80 * p) + 32, 8, 0x0⟩
def PRS.PROFILE_HDR.INNER_L3_OFF (s p : Nat) : Fld := ⟨8 * (0x1084000 + 0x400000 * s + 0x80 * p) + 24, 8, 0x0⟩
def PRS.PROFILE_HDR.INNER_OFF (s p : Nat) : Fld := ⟨8 * (0x1084000 + 0x400000 * s + 0x80 * p) + 16, 8, 0x0⟩
def PRS.PROFILE_HDR.L4_OFF (s p : Nat) : Fld := ⟨8 * (0x1084000 + 0x400000 * s + 0x80 * p) + 8, 8, 0x0⟩
def PRS.PROFILE_HDR.L3_OFF (s p : Nat) : Fld := ⟨8 * (0x1084000 + 0x400000 * s + 0x80 * p) + 0, 8, 0x0⟩
-- PRS.PROFILE_CMD: 04 R84 Table 4.5.
def PRS.PROFILE_CMD.HI (s p w : Nat) : Fld := ⟨8 * (0x1084008 + 0x400000 * s + 0x80 * p + 8 * w) + 32, 32, 0x0⟩
def PRS.PROFILE_CMD.LO (s p w : Nat) : Fld := ⟨8 * (0x1084008 + 0x400000 * s + 0x80 * p + 8 * w) + 0, 32, 0x0⟩
-- PRS.NODE_W0: 04 Table 4.6a R87.
def PRS.NODE_W0.VALID (s x n : Nat) : Fld := ⟨8 * (0x1088000 + 0x400000 * s + 0x2000 * x + 0x10 * n) + 59, 1, 0x0⟩
def PRS.NODE_W0.LAYER (s x n : Nat) : Fld := ⟨8 * (0x1088000 + 0x400000 * s + 0x2000 * x + 0x10 * n) + 56, 3, 0x0⟩
def PRS.NODE_W0.FLAGS_SET (s x n : Nat) : Fld := ⟨8 * (0x1088000 + 0x400000 * s + 0x2000 * x + 0x10 * n) + 48, 8, 0x0⟩
def PRS.NODE_W0.ADV_SCALE (s x n : Nat) : Fld := ⟨8 * (0x1088000 + 0x400000 * s + 0x2000 * x + 0x10 * n) + 44, 2, 0x0⟩
def PRS.NODE_W0.ADV_PART (s x n : Nat) : Fld := ⟨8 * (0x1088000 + 0x400000 * s + 0x2000 * x + 0x10 * n) + 42, 2, 0x0⟩
def PRS.NODE_W0.ADV_OFF (s x n : Nat) : Fld := ⟨8 * (0x1088000 + 0x400000 * s + 0x2000 * x + 0x10 * n) + 34, 8, 0x0⟩
def PRS.NODE_W0.ADV_CONST (s x n : Nat) : Fld := ⟨8 * (0x1088000 + 0x400000 * s + 0x2000 * x + 0x10 * n) + 26, 8, 0x0⟩
def PRS.NODE_W0.ADV_MODE (s x n : Nat) : Fld := ⟨8 * (0x1088000 + 0x400000 * s + 0x2000 * x + 0x10 * n) + 24, 2, 0x0⟩
def PRS.NODE_W0.SEL_MASK (s x n : Nat) : Fld := ⟨8 * (0x1088000 + 0x400000 * s + 0x2000 * x + 0x10 * n) + 8, 16, 0x0⟩
def PRS.NODE_W0.SEL_OFF (s x n : Nat) : Fld := ⟨8 * (0x1088000 + 0x400000 * s + 0x2000 * x + 0x10 * n) + 0, 8, 0x0⟩
-- PRS.NODE_W1: 04 Table 4.6b R87.
def PRS.NODE_W1.KEYTYPE (s x n : Nat) : Fld := ⟨8 * (0x1088008 + 0x400000 * s + 0x2000 * x + 0x10 * n) + 46, 4, 0x0⟩
def PRS.NODE_W1.EXT_CNT (s x n : Nat) : Fld := ⟨8 * (0x1088008 + 0x400000 * s + 0x2000 * x + 0x10 * n) + 42, 4, 0x0⟩
def PRS.NODE_W1.EXT_BASE (s x n : Nat) : Fld := ⟨8 * (0x1088008 + 0x400000 * s + 0x2000 * x + 0x10 * n) + 32, 10, 0x0⟩
def PRS.NODE_W1.DEF_CLAIM (s x n : Nat) : Fld := ⟨8 * (0x1088008 + 0x400000 * s + 0x2000 * x + 0x10 * n) + 26, 1, 0x0⟩
def PRS.NODE_W1.DEF_STOP (s x n : Nat) : Fld := ⟨8 * (0x1088008 + 0x400000 * s + 0x2000 * x + 0x10 * n) + 25, 1, 0x0⟩
def PRS.NODE_W1.DEF_NEXT (s x n : Nat) : Fld := ⟨8 * (0x1088008 + 0x400000 * s + 0x2000 * x + 0x10 * n) + 16, 9, 0x0⟩
def PRS.NODE_W1.TRANS_CNT (s x n : Nat) : Fld := ⟨8 * (0x1088008 + 0x400000 * s + 0x2000 * x + 0x10 * n) + 10, 5, 0x0⟩
def PRS.NODE_W1.TRANS_BASE (s x n : Nat) : Fld := ⟨8 * (0x1088008 + 0x400000 * s + 0x2000 * x + 0x10 * n) + 0, 10, 0x0⟩
-- PRS.TRANS: 04 R87.
def PRS.TRANS.VALID (s x t : Nat) : Fld := ⟨8 * (0x108C000 + 0x400000 * s + 0x1000 * x + 4 * t) + 25, 1, 0x0⟩
def PRS.TRANS.NEXT (s x t : Nat) : Fld := ⟨8 * (0x108C000 + 0x400000 * s + 0x1000 * x + 4 * t) + 16, 9, 0x0⟩
def PRS.TRANS.VALUE (s x t : Nat) : Fld := ⟨8 * (0x108C000 + 0x400000 * s + 0x1000 * x + 4 * t) + 0, 16, 0x0⟩
-- PRS.GCMD: 04 R87.
def PRS.GCMD.W (s x c : Nat) : Fld := ⟨8 * (0x108E000 + 0x400000 * s + 0x1000 * x + 4 * c) + 0, 32, 0x0⟩
-- CLS.CTL: 05 Table 5.10.
def CLS.CTL.WRITE_LIVE (s : Nat) : Fld := ⟨8 * (0x1100000 + 0x400000 * s) + 4, 1, 0x0⟩
def CLS.CTL.ACTION_REFUSED (s : Nat) : Fld := ⟨8 * (0x1100000 + 0x400000 * s) + 3, 1, 0x0⟩
def CLS.CTL.SCRUB_EN (s : Nat) : Fld := ⟨8 * (0x1100000 + 0x400000 * s) + 1, 1, 0x1⟩
def CLS.CTL.EN (s : Nat) : Fld := ⟨8 * (0x1100000 + 0x400000 * s) + 0, 1, 0x0⟩
-- CLS.DEFAULT: 05 R109 Table 5.6.
def CLS.DEFAULT.W (s x : Nat) : Fld := ⟨8 * (0x1100008 + 0x400000 * s + 8 * x) + 0, 64, 0x0⟩
-- CLS.KMAP: 05 R98.
def CLS.KMAP.W (s x : Nat) : Fld := ⟨8 * (0x1100020 + 0x400000 * s + 8 * x) + 0, 64, 0x0⟩
-- CLS.CNT: 05 R124.
def CLS.CNT.V (s i : Nat) : Fld := ⟨8 * (0x1100100 + 0x400000 * s + 8 * i) + 0, 40, 0x0⟩
-- CLS.KPROF_HDR: 05 Table 5.1 R99.
def CLS.KPROF_HDR.SCAN_LEN (s x k : Nat) : Fld := ⟨8 * (0x1101000 + 0x400000 * s + 0x800 * x + 0x80 * k) + 12, 9, 0x0⟩
def CLS.KPROF_HDR.SCAN_START (s x k : Nat) : Fld := ⟨8 * (0x1101000 + 0x400000 * s + 0x800 * x + 0x80 * k) + 4, 8, 0x0⟩
def CLS.KPROF_HDR.SCAN (s x k : Nat) : Fld := ⟨8 * (0x1101000 + 0x400000 * s + 0x800 * x + 0x80 * k) + 2, 1, 0x0⟩
def CLS.KPROF_HDR.WIDE (s x k : Nat) : Fld := ⟨8 * (0x1101000 + 0x400000 * s + 0x800 * x + 0x80 * k) + 1, 1, 0x0⟩
def CLS.KPROF_HDR.VALID (s x k : Nat) : Fld := ⟨8 * (0x1101000 + 0x400000 * s + 0x800 * x + 0x80 * k) + 0, 1, 0x0⟩
-- CLS.KPROF_SEL: 05 R99 Table 5.2.
def CLS.KPROF_SEL.W (s x k w : Nat) : Fld := ⟨8 * (0x1101008 + 0x400000 * s + 0x800 * x + 0x80 * k + 8 * w) + 0, 64, 0x0⟩
-- CLS.PROBE_KEY: 05 R123.
def CLS.PROBE_KEY.W (s w : Nat) : Fld := ⟨8 * (0x1102000 + 0x400000 * s + 8 * w) + 0, 64, 0x0⟩
-- CLS.PROBE_CTL: 05 Table 5.11 R123.
def CLS.PROBE_CTL.DONE (s : Nat) : Fld := ⟨8 * (0x1102050 + 0x400000 * s) + 6, 1, 0x1⟩
def CLS.PROBE_CTL.SET (s : Nat) : Fld := ⟨8 * (0x1102050 + 0x400000 * s) + 5, 1, 0x0⟩
def CLS.PROBE_CTL.KPROF (s : Nat) : Fld := ⟨8 * (0x1102050 + 0x400000 * s) + 1, 4, 0x0⟩
def CLS.PROBE_CTL.GO (s : Nat) : Fld := ⟨8 * (0x1102050 + 0x400000 * s) + 0, 1, 0x0⟩
-- CLS.PROBE_RES: 05 Table 5.5 R123.
def CLS.PROBE_RES.W (s : Nat) : Fld := ⟨8 * (0x1102058 + 0x400000 * s) + 0, 64, 0x0⟩
-- FWD.CTL: 06 Table 6.8.
def FWD.CTL.KEY_WRITE (s : Nat) : Fld := ⟨8 * (0x1180000 + 0x400000 * s) + 3, 1, 0x0⟩
def FWD.CTL.TTL_PUNT (s : Nat) : Fld := ⟨8 * (0x1180000 + 0x400000 * s) + 2, 1, 0x0⟩
def FWD.CTL.LEARN_EN (s : Nat) : Fld := ⟨8 * (0x1180000 + 0x400000 * s) + 1, 1, 0x0⟩
def FWD.CTL.EN (s : Nat) : Fld := ⟨8 * (0x1180000 + 0x400000 * s) + 0, 1, 0x0⟩
-- FWD.AGE_CFG: 06 Table 6.10 R139.
def FWD.AGE_CFG.SWEEP (s : Nat) : Fld := ⟨8 * (0x1180008 + 0x400000 * s) + 17, 6, 0xA⟩
def FWD.AGE_CFG.AGE_EN (s : Nat) : Fld := ⟨8 * (0x1180008 + 0x400000 * s) + 16, 1, 0x0⟩
def FWD.AGE_CFG.AGE_MAX (s : Nat) : Fld := ⟨8 * (0x1180008 + 0x400000 * s) + 0, 15, 0x12C0⟩
-- FWD.NOW: 06 Table 6.7 R138.
def FWD.NOW.NOW (s : Nat) : Fld := ⟨8 * (0x1180010 + 0x400000 * s) + 0, 16, 0x0⟩
-- FWD.HASH_SEED: 06 Table 6.7 R126.
def FWD.HASH_SEED.SEED (s : Nat) : Fld := ⟨8 * (0x1180018 + 0x400000 * s) + 0, 32, 0x0⟩
-- FWD.RMAC: 06 Table 6.7 R129.
def FWD.RMAC.EN (s x : Nat) : Fld := ⟨8 * (0x1180020 + 0x400000 * s + 8 * x) + 48, 1, 0x0⟩
def FWD.RMAC.MAC (s x : Nat) : Fld := ⟨8 * (0x1180020 + 0x400000 * s + 8 * x) + 0, 48, 0x0⟩
-- FWD.MISS: 06 Table 6.7 R130.
def FWD.MISS.NH (s x : Nat) : Fld := ⟨8 * (0x1180030 + 0x400000 * s + 8 * x) + 2, 14, 0x0⟩
def FWD.MISS.ACT (s x : Nat) : Fld := ⟨8 * (0x1180030 + 0x400000 * s + 8 * x) + 0, 2, 0x0⟩
-- FWD.CMD_CTL: 06 Table 6.9 R132.
def FWD.CMD_CTL.STATUS (s : Nat) : Fld := ⟨8 * (0x1180100 + 0x400000 * s) + 8, 4, 0x0⟩
def FWD.CMD_CTL.DONE (s : Nat) : Fld := ⟨8 * (0x1180100 + 0x400000 * s) + 7, 1, 0x1⟩
def FWD.CMD_CTL.SETS (s : Nat) : Fld := ⟨8 * (0x1180100 + 0x400000 * s) + 5, 2, 0x0⟩
def FWD.CMD_CTL.TABLE (s : Nat) : Fld := ⟨8 * (0x1180100 + 0x400000 * s) + 3, 2, 0x0⟩
def FWD.CMD_CTL.OP (s : Nat) : Fld := ⟨8 * (0x1180100 + 0x400000 * s) + 1, 2, 0x0⟩
def FWD.CMD_CTL.GO (s : Nat) : Fld := ⟨8 * (0x1180100 + 0x400000 * s) + 0, 1, 0x0⟩
-- FWD.CMD_KEY: 06 Table 6.7 R132.
def FWD.CMD_KEY.W (s k : Nat) : Fld := ⟨8 * (0x1180108 + 0x400000 * s + 8 * k) + 0, 64, 0x0⟩
-- FWD.CMD_RES: 06 Table 6.7 R132.
def FWD.CMD_RES.W (s : Nat) : Fld := ⟨8 * (0x1180120 + 0x400000 * s) + 0, 64, 0x0⟩
-- FWD.CMD_SLOT: 06 Table 6.7 R132.
def FWD.CMD_SLOT.SLOT (s : Nat) : Fld := ⟨8 * (0x1180128 + 0x400000 * s) + 0, 20, 0x0⟩
-- FWD.LOG_BASE: 06 Table 6.7 R137.
def FWD.LOG_BASE.OFFSET (s : Nat) : Fld := ⟨8 * (0x1180200 + 0x400000 * s) + 0, 36, 0x0⟩
-- FWD.LOG_SIZE: 06 Table 6.7 R137.
def FWD.LOG_SIZE.SIZE (s : Nat) : Fld := ⟨8 * (0x1180208 + 0x400000 * s) + 0, 32, 0x0⟩
-- FWD.LOG_WR: 06 Table 6.7 R137.
def FWD.LOG_WR.WR (s : Nat) : Fld := ⟨8 * (0x1180210 + 0x400000 * s) + 0, 32, 0x0⟩
-- FWD.LOG_RD: 06 Table 6.7 R137.
def FWD.LOG_RD.RD (s : Nat) : Fld := ⟨8 * (0x1180218 + 0x400000 * s) + 0, 32, 0x0⟩
-- FWD.PARITY_LOG: 06 Table 6.7 R141.
def FWD.PARITY_LOG.WORD (s : Nat) : Fld := ⟨8 * (0x1180280 + 0x400000 * s) + 22, 3, 0x0⟩
def FWD.PARITY_LOG.SLOT (s : Nat) : Fld := ⟨8 * (0x1180280 + 0x400000 * s) + 2, 20, 0x0⟩
def FWD.PARITY_LOG.TABLE (s : Nat) : Fld := ⟨8 * (0x1180280 + 0x400000 * s) + 0, 2, 0x0⟩
-- FWD.PORT_CFG: 06 Table 6.10.
def FWD.PORT_CFG.L3_EN (s x i : Nat) : Fld := ⟨8 * (0x1180400 + 0x400000 * s + 0x200 * x + 8 * i) + 25, 1, 0x0⟩
def FWD.PORT_CFG.LEARN_EN (s x i : Nat) : Fld := ⟨8 * (0x1180400 + 0x400000 * s + 0x200 * x + 8 * i) + 24, 1, 0x0⟩
def FWD.PORT_CFG.VRF (s x i : Nat) : Fld := ⟨8 * (0x1180400 + 0x400000 * s + 0x200 * x + 8 * i) + 12, 12, 0x0⟩
def FWD.PORT_CFG.PVID (s x i : Nat) : Fld := ⟨8 * (0x1180400 + 0x400000 * s + 0x200 * x + 8 * i) + 0, 12, 0x0⟩
-- FWD.CNT: 06 R142.
def FWD.CNT.V (s i : Nat) : Fld := ⟨8 * (0x1181000 + 0x400000 * s + 8 * i) + 0, 40, 0x0⟩
-- FWD.VLAN: 06 Table 6.7.
def FWD.VLAN.VALID (s x v : Nat) : Fld := ⟨8 * (0x1188000 + 0x400000 * s + 0x8000 * x + 8 * v) + 15, 1, 0x0⟩
def FWD.VLAN.LEARN_EN (s x v : Nat) : Fld := ⟨8 * (0x1188000 + 0x400000 * s + 0x8000 * x + 8 * v) + 14, 1, 0x0⟩
def FWD.VLAN.UNKNOWN_ACT (s x v : Nat) : Fld := ⟨8 * (0x1188000 + 0x400000 * s + 0x8000 * x + 8 * v) + 12, 2, 0x0⟩
def FWD.VLAN.FLOOD_GROUP (s x v : Nat) : Fld := ⟨8 * (0x1188000 + 0x400000 * s + 0x8000 * x + 8 * v) + 0, 12, 0x0⟩

/-- Register layouts (RegsPath), part 1. -/
def layoutPath0 : List RegFam := [
  ⟨0x1000000, [(8, 0x400000), (4, 0x4)], 4, [⟨4, 4, .rw, 0x0, (.le 7)⟩, ⟨0, 4, .rw, 0x0, (.le 7)⟩]⟩,
  ⟨0x1000010, [(8, 0x400000), (4, 0x4)], 4, [⟨0, 24, .rwl, 0xFAC688, .any⟩]⟩,
  ⟨0x1000020, [(8, 0x400000), (4, 0x4)], 4, [⟨0, 24, .rwl, 0xFAC688, .any⟩]⟩,
  ⟨0x1000030, [(8, 0x400000), (4, 0x4)], 4, [⟨8, 8, .rwl, 0x0, .any⟩, ⟨0, 8, .rwl, 0x0, .any⟩]⟩,
  ⟨0x1000040, [(8, 0x400000), (4, 0x4)], 4, [⟨16, 8, .rw, 0x1E, .any⟩, ⟨10, 1, .rw, 0x0, .any⟩, ⟨0, 10, .rw, 0x64, (.inR 1 1000)⟩]⟩,
  ⟨0x1000050, [(8, 0x400000)], 4, [⟨0, 32, .w1c, 0x0, .any⟩]⟩,
  ⟨0x1000054, [(8, 0x400000)], 4, [⟨0, 32, .w1c, 0x0, .any⟩]⟩,
  ⟨0x1000058, [(8, 0x400000)], 4, [⟨0, 32, .w1c, 0x0, .any⟩]⟩,
  ⟨0x1000060, [(8, 0x400000)], 4, [⟨0, 32, .rw, 0x0, .any⟩]⟩,
  ⟨0x1000064, [(8, 0x400000)], 4, [⟨0, 16, .rw, 0x0, .any⟩]⟩,
  ⟨0x1001000, [(8, 0x400000), (34, 0x40)], 4, [⟨20, 1, .rw, 0x0, .any⟩, ⟨19, 1, .rw, 0x0, .any⟩, ⟨18, 1, .rw, 0x0, .any⟩, ⟨17, 1, .rw, 0x0, .any⟩, ⟨15, 2, .rw, 0x0, .any⟩, ⟨14, 1, .rw, 0x1, .any⟩, ⟨0, 14, .rw, 0x5EE, (.inR 64 9600)⟩]⟩,
  ⟨0x1001004, [(8, 0x400000), (34, 0x40)], 4, [⟨8, 8, .ro, 0x0, .any⟩, ⟨4, 1, .ro, 0x0, .any⟩, ⟨3, 1, .ro, 0x0, .any⟩, ⟨2, 1, .ro, 0x0, .any⟩, ⟨1, 1, .ro, 0x0, .any⟩, ⟨0, 1, .ro, 0x0, .any⟩]⟩,
  ⟨0x1001008, [(8, 0x400000), (34, 0x40)], 4, [⟨16, 16, .rw, 0x0, .any⟩, ⟨0, 16, .rw, 0x0, .any⟩]⟩,
  ⟨0x1004000, [(8, 0x400000), (34, 0x100), (20, 0x8)], 8, [⟨0, 40, .ro, 0x0, .any⟩]⟩,
  ⟨0x1080000, [(8, 0x400000), (2, 0x10), (4, 0x4)], 4, [⟨16, 1, .rw, 0x0, .any⟩, ⟨0, 16, .rw, 0x0, .any⟩]⟩,
  ⟨0x1080020, [(8, 0x400000)], 4, [⟨1, 1, .w1c, 0x0, .any⟩, ⟨0, 1, .rw, 0x1, .any⟩]⟩,
  ⟨0x1080028, [(8, 0x400000), (2, 0x4)], 4, [⟨28, 2, .rw, 0x0, .any⟩, ⟨16, 9, .rw, 0x0, .any⟩, ⟨0, 6, .rw, 0x10, (.inR 1 32)⟩]⟩,
  ⟨0x1081000, [(8, 0x400000), (7, 0x8)], 8, [⟨0, 40, .ro, 0x0, .any⟩]⟩,
  ⟨0x1082000, [(8, 0x400000), (2, 0x800), (64, 0x20)], 8, [⟨0, 64, .rw, 0x0, .any⟩]⟩,
  ⟨0x1082008, [(8, 0x400000), (2, 0x800), (64, 0x20)], 8, [⟨0, 64, .rw, 0x0, .any⟩]⟩]

/-- Register layouts (RegsPath), part 2. -/
def layoutPath1 : List RegFam := [
  ⟨0x1082010, [(8, 0x400000), (2, 0x800), (64, 0x20)], 8, [⟨8, 9, .rw, 0x0, .any⟩, ⟨7, 1, .rw, 0x0, .any⟩, ⟨6, 1, .rw, 0x0, .any⟩, ⟨0, 6, .rw, 0x0, .any⟩]⟩,
  ⟨0x1084000, [(8, 0x400000), (64, 0x80)], 8, [⟨56, 4, .rw, 0x0, .any⟩, ⟨48, 8, .rw, 0x0, .any⟩, ⟨40, 8, .rw, 0x0, .any⟩, ⟨32, 8, .rw, 0x0, .any⟩, ⟨24, 8, .rw, 0x0, .any⟩, ⟨16, 8, .rw, 0x0, .any⟩, ⟨8, 8, .rw, 0x0, .any⟩, ⟨0, 8, .rw, 0x0, .any⟩]⟩,
  ⟨0x1084008, [(8, 0x400000), (64, 0x80), (15, 0x8)], 8, [⟨32, 32, .rw, 0x0, .any⟩, ⟨0, 32, .rw, 0x0, .any⟩]⟩,
  ⟨0x1088000, [(8, 0x400000), (2, 0x2000), (512, 0x10)], 8, [⟨59, 1, .rw, 0x0, .any⟩, ⟨56, 3, .rw, 0x0, .any⟩, ⟨48, 8, .rw, 0x0, .any⟩, ⟨44, 2, .rw, 0x0, .any⟩, ⟨42, 2, .rw, 0x0, .any⟩, ⟨34, 8, .rw, 0x0, .any⟩, ⟨26, 8, .rw, 0x0, .any⟩, ⟨24, 2, .rw, 0x0, .any⟩, ⟨8, 16, .rw, 0x0, .any⟩, ⟨0, 8, .rw, 0x0, .any⟩]⟩,
  ⟨0x1088008, [(8, 0x400000), (2, 0x2000), (512, 0x10)], 8, [⟨46, 4, .rw, 0x0, .any⟩, ⟨42, 4, .rw, 0x0, .any⟩, ⟨32, 10, .rw, 0x0, .any⟩, ⟨26, 1, .rw, 0x0, .any⟩, ⟨25, 1, .rw, 0x0, .any⟩, ⟨16, 9, .rw, 0x0, .any⟩, ⟨10, 5, .rw, 0x0, .any⟩, ⟨0, 10, .rw, 0x0, .any⟩]⟩,
  ⟨0x108C000, [(8, 0x400000), (2, 0x1000), (1024, 0x4)], 4, [⟨25, 1, .rw, 0x0, .any⟩, ⟨16, 9, .rw, 0x0, .any⟩, ⟨0, 16, .rw, 0x0, .any⟩]⟩,
  ⟨0x108E000, [(8, 0x400000), (2, 0x1000), (1024, 0x4)], 4, [⟨0, 32, .rw, 0x0, .any⟩]⟩,
  ⟨0x1100000, [(8, 0x400000)], 4, [⟨4, 1, .w1c, 0x0, .any⟩, ⟨3, 1, .w1c, 0x0, .any⟩, ⟨1, 1, .rw, 0x1, .any⟩, ⟨0, 1, .rw, 0x0, .any⟩]⟩,
  ⟨0x1100008, [(8, 0x400000), (2, 0x8)], 8, [⟨0, 64, .rw, 0x0, .any⟩]⟩,
  ⟨0x1100020, [(8, 0x400000), (2, 0x8)], 8, [⟨0, 64, .rw, 0x0, .any⟩]⟩,
  ⟨0x1100100, [(8, 0x400000), (10, 0x8)], 8, [⟨0, 40, .ro, 0x0, .any⟩]⟩,
  ⟨0x1101000, [(8, 0x400000), (2, 0x800), (16, 0x80)], 8, [⟨12, 9, .rw, 0x0, .any⟩, ⟨4, 8, .rw, 0x0, .any⟩, ⟨2, 1, .rw, 0x0, .any⟩, ⟨1, 1, .rw, 0x0, .any⟩, ⟨0, 1, .rw, 0x0, .any⟩]⟩,
  ⟨0x1101008, [(8, 0x400000), (2, 0x800), (16, 0x80), (10, 0x8)], 8, [⟨0, 64, .rw, 0x0, .any⟩]⟩,
  ⟨0x1102000, [(8, 0x400000), (10, 0x8)], 8, [⟨0, 64, .rw, 0x0, .any⟩]⟩,
  ⟨0x1102050, [(8, 0x400000)], 4, [⟨6, 1, .ro, 0x1, .any⟩, ⟨5, 1, .rw, 0x0, .any⟩, ⟨1, 4, .rw, 0x0, .any⟩, ⟨0, 1, .wo, 0x0, .any⟩]⟩,
  ⟨0x1102058, [(8, 0x400000)], 8, [⟨0, 64, .ro, 0x0, .any⟩]⟩,
  ⟨0x1180000, [(8, 0x400000)], 4, [⟨3, 1, .w1c, 0x0, .any⟩, ⟨2, 1, .rw, 0x0, .any⟩, ⟨1, 1, .rw, 0x0, .any⟩, ⟨0, 1, .rw, 0x0, .any⟩]⟩,
  ⟨0x1180008, [(8, 0x400000)], 4, [⟨17, 6, .rw, 0xA, (.inR 1 60)⟩, ⟨16, 1, .rw, 0x0, .any⟩, ⟨0, 15, .rw, 0x12C0, .nz⟩]⟩,
  ⟨0x1180010, [(8, 0x400000)], 4, [⟨0, 16, .ro, 0x0, .any⟩]⟩,
  ⟨0x1180018, [(8, 0x400000)], 4, [⟨0, 32, .rw, 0x0, .any⟩]⟩]

/-- Register layouts (RegsPath), part 3. -/
def layoutPath2 : List RegFam := [
  ⟨0x1180020, [(8, 0x400000), (2, 0x8)], 8, [⟨48, 1, .rw, 0x0, .any⟩, ⟨0, 48, .rw, 0x0, .any⟩]⟩,
  ⟨0x1180030, [(8, 0x400000), (2, 0x8)], 8, [⟨2, 14, .rw, 0x0, .any⟩, ⟨0, 2, .rw, 0x0, .any⟩]⟩,
  ⟨0x1180100, [(8, 0x400000)], 4, [⟨8, 4, .ro, 0x0, .any⟩, ⟨7, 1, .ro, 0x1, .any⟩, ⟨5, 2, .rw, 0x0, .any⟩, ⟨3, 2, .rw, 0x0, .any⟩, ⟨1, 2, .rw, 0x0, .any⟩, ⟨0, 1, .wo, 0x0, .any⟩]⟩,
  ⟨0x1180108, [(8, 0x400000), (3, 0x8)], 8, [⟨0, 64, .rw, 0x0, .any⟩]⟩,
  ⟨0x1180120, [(8, 0x400000)], 8, [⟨0, 64, .rw, 0x0, .any⟩]⟩,
  ⟨0x1180128, [(8, 0x400000)], 4, [⟨0, 20, .ro, 0x0, .any⟩]⟩,
  ⟨0x1180200, [(8, 0x400000)], 8, [⟨0, 36, .rw, 0x0, (.al 64)⟩]⟩,
  ⟨0x1180208, [(8, 0x400000)], 8, [⟨0, 32, .rw, 0x0, (.p2 64 1048576)⟩]⟩,
  ⟨0x1180210, [(8, 0x400000)], 8, [⟨0, 32, .ro, 0x0, .any⟩]⟩,
  ⟨0x1180218, [(8, 0x400000)], 8, [⟨0, 32, .rw, 0x0, .any⟩]⟩,
  ⟨0x1180280, [(8, 0x400000)], 4, [⟨22, 3, .ro, 0x0, .any⟩, ⟨2, 20, .ro, 0x0, .any⟩, ⟨0, 2, .ro, 0x0, .any⟩]⟩,
  ⟨0x1180400, [(8, 0x400000), (2, 0x200), (34, 0x8)], 8, [⟨25, 1, .rw, 0x0, .any⟩, ⟨24, 1, .rw, 0x0, .any⟩, ⟨12, 12, .rw, 0x0, .any⟩, ⟨0, 12, .rw, 0x0, .any⟩]⟩,
  ⟨0x1181000, [(8, 0x400000), (17, 0x8)], 8, [⟨0, 40, .ro, 0x0, .any⟩]⟩,
  ⟨0x1188000, [(8, 0x400000), (2, 0x8000), (4096, 0x8)], 8, [⟨15, 1, .rw, 0x0, .any⟩, ⟨14, 1, .rw, 0x0, .any⟩, ⟨12, 2, .rw, 0x0, .any⟩, ⟨0, 12, .rw, 0x0, .any⟩]⟩]

/-- Every register layout of this file. -/
def layoutPath : List RegFam := layoutPath0 ++ layoutPath1 ++ layoutPath2

end Sys2Proof.Machine
end

