-- ==== Sys2Proof/Machine/RegsSwitch.lean ====
section
/-! DEFINITION. RegsSwitch: the registers of the switch core and the slice counters, one definition per field, and their layout. Each register's comment names the table or rule of spec/ that lays it out. -/

namespace Sys2Proof.Machine

-- SWC.CTL: 12 Table 12.5.
def SWC.CTL.EN (s : Nat) : Fld := ⟨8 * (0x1300000 + 0x400000 * s) + 0, 1, 0x0⟩
-- SWC.MIRROR: 12 Table 12.10 R308.
def SWC.MIRROR.MIRROR_BAD (s m : Nat) : Fld := ⟨8 * (0x1300108 + 0x400000 * s + 8 * m) + 40, 1, 0x0⟩
def SWC.MIRROR.EN (s m : Nat) : Fld := ⟨8 * (0x1300108 + 0x400000 * s + 8 * m) + 39, 1, 0x0⟩
def SWC.MIRROR.TRUNC (s m : Nat) : Fld := ⟨8 * (0x1300108 + 0x400000 * s + 8 * m) + 32, 7, 0x0⟩
def SWC.MIRROR.SAMPLE_N (s m : Nat) : Fld := ⟨8 * (0x1300108 + 0x400000 * s + 8 * m) + 16, 16, 0x1⟩
def SWC.MIRROR.QUEUE (s m : Nat) : Fld := ⟨8 * (0x1300108 + 0x400000 * s + 8 * m) + 9, 4, 0x0⟩
def SWC.MIRROR.PORT (s m : Nat) : Fld := ⟨8 * (0x1300108 + 0x400000 * s + 8 * m) + 0, 9, 0x0⟩
-- SWC.PORT_CFG: 12 Table 12.6.
def SWC.PORT_CFG.CT_CLASS (p : Nat) : Fld := ⟨8 * (0x1301000 + 0x400000 * portSlice p + 0x20 * portIdx p) + 48, 16, 0x0⟩
def SWC.PORT_CFG.DOWN_HOLD (p : Nat) : Fld := ⟨8 * (0x1301000 + 0x400000 * portSlice p + 0x20 * portIdx p) + 36, 7, 0x0⟩
def SWC.PORT_CFG.TX_MIRROR (p : Nat) : Fld := ⟨8 * (0x1301000 + 0x400000 * portSlice p + 0x20 * portIdx p) + 32, 3, 0x0⟩
def SWC.PORT_CFG.RX_MIRROR (p : Nat) : Fld := ⟨8 * (0x1301000 + 0x400000 * portSlice p + 0x20 * portIdx p) + 28, 3, 0x0⟩
def SWC.PORT_CFG.CT_ALL (p : Nat) : Fld := ⟨8 * (0x1301000 + 0x400000 * portSlice p + 0x20 * portIdx p) + 25, 1, 0x0⟩
def SWC.PORT_CFG.EN (p : Nat) : Fld := ⟨8 * (0x1301000 + 0x400000 * portSlice p + 0x20 * portIdx p) + 24, 1, 0x0⟩
def SWC.PORT_CFG.PORT_LIMIT (p : Nat) : Fld := ⟨8 * (0x1301000 + 0x400000 * portSlice p + 0x20 * portIdx p) + 0, 24, 0x0⟩
-- SWC.PORT_SHAPE: 12 Table 12.7 R299.
def SWC.PORT_SHAPE.BURST (p : Nat) : Fld := ⟨8 * (0x1301008 + 0x400000 * portSlice p + 0x20 * portIdx p) + 16, 16, 0x40⟩
def SWC.PORT_SHAPE.RATE (p : Nat) : Fld := ⟨8 * (0x1301008 + 0x400000 * portSlice p + 0x20 * portIdx p) + 0, 16, 0x0⟩
-- SWC.PORT_STAT: 12 Table 12.7 R287.
def SWC.PORT_STAT.HOLDING (p : Nat) : Fld := ⟨8 * (0x1301010 + 0x400000 * portSlice p + 0x20 * portIdx p) + 48, 1, 0x0⟩
def SWC.PORT_STAT.CNT_H1 (p : Nat) : Fld := ⟨8 * (0x1301010 + 0x400000 * portSlice p + 0x20 * portIdx p) + 24, 24, 0x0⟩
def SWC.PORT_STAT.CNT_H0 (p : Nat) : Fld := ⟨8 * (0x1301010 + 0x400000 * portSlice p + 0x20 * portIdx p) + 0, 24, 0x0⟩
-- SWC.QUEUE_CFG: 12 Table 12.8 R288.
def SWC.QUEUE_CFG.PFC_PRI (p q : Nat) : Fld := ⟨8 * (0x1304000 + 0x400000 * portSlice p + 0x200 * portIdx p + 0x20 * q) + 58, 3, 0x0⟩
def SWC.QUEUE_CFG.QUANTUM (p q : Nat) : Fld := ⟨8 * (0x1304000 + 0x400000 * portSlice p + 0x200 * portIdx p + 0x20 * q) + 50, 8, 0x18⟩
def SWC.QUEUE_CFG.LEVEL (p q : Nat) : Fld := ⟨8 * (0x1304000 + 0x400000 * portSlice p + 0x200 * portIdx p + 0x20 * q) + 48, 2, 0x0⟩
def SWC.QUEUE_CFG.MARK_FRAC (p q : Nat) : Fld := ⟨8 * (0x1304000 + 0x400000 * portSlice p + 0x200 * portIdx p + 0x20 * q) + 40, 7, 0x0⟩
def SWC.QUEUE_CFG.RED_FRAC (p q : Nat) : Fld := ⟨8 * (0x1304000 + 0x400000 * portSlice p + 0x200 * portIdx p + 0x20 * q) + 32, 7, 0x40⟩
def SWC.QUEUE_CFG.YEL_FRAC (p q : Nat) : Fld := ⟨8 * (0x1304000 + 0x400000 * portSlice p + 0x200 * portIdx p + 0x20 * q) + 24, 7, 0x60⟩
def SWC.QUEUE_CFG.QLIMIT (p q : Nat) : Fld := ⟨8 * (0x1304000 + 0x400000 * portSlice p + 0x200 * portIdx p + 0x20 * q) + 0, 24, 0x0⟩
-- SWC.QUEUE_SPILL: 12 Table 12.8 R295.
def SWC.QUEUE_SPILL.MAX_RES (p q : Nat) : Fld := ⟨8 * (0x1304008 + 0x400000 * portSlice p + 0x200 * portIdx p + 0x20 * q) + 32, 16, 0x0⟩
def SWC.QUEUE_SPILL.SPILL_THR (p q : Nat) : Fld := ⟨8 * (0x1304008 + 0x400000 * portSlice p + 0x200 * portIdx p + 0x20 * q) + 0, 19, 0x7FFFF⟩
-- SWC.QUEUE_STAT: 12 Table 12.9 R287.
def SWC.QUEUE_STAT.BUOY_WAIT (p q : Nat) : Fld := ⟨8 * (0x1304010 + 0x400000 * portSlice p + 0x200 * portIdx p + 0x20 * q) + 50, 1, 0x0⟩
def SWC.QUEUE_STAT.PAUSED (p q : Nat) : Fld := ⟨8 * (0x1304010 + 0x400000 * portSlice p + 0x200 * portIdx p + 0x20 * q) + 49, 1, 0x0⟩
def SWC.QUEUE_STAT.SPILL (p q : Nat) : Fld := ⟨8 * (0x1304010 + 0x400000 * portSlice p + 0x200 * portIdx p + 0x20 * q) + 48, 1, 0x0⟩
def SWC.QUEUE_STAT.CNT_H1 (p q : Nat) : Fld := ⟨8 * (0x1304010 + 0x400000 * portSlice p + 0x200 * portIdx p + 0x20 * q) + 24, 24, 0x0⟩
def SWC.QUEUE_STAT.CNT_H0 (p q : Nat) : Fld := ⟨8 * (0x1304010 + 0x400000 * portSlice p + 0x200 * portIdx p + 0x20 * q) + 0, 24, 0x0⟩
-- SWC.PG: 12 Table 12.9 R292.
def SWC.PG.PAUSE_EN (p c : Nat) : Fld := ⟨8 * (0x1309000 + 0x400000 * portSlice p + 0x80 * portIdx p + 8 * c) + 63, 1, 0x0⟩
def SWC.PG.PFC_PRI (p c : Nat) : Fld := ⟨8 * (0x1309000 + 0x400000 * portSlice p + 0x80 * portIdx p + 8 * c) + 60, 3, 0x0⟩
def SWC.PG.XON (p c : Nat) : Fld := ⟨8 * (0x1309000 + 0x400000 * portSlice p + 0x80 * portIdx p + 8 * c) + 40, 20, 0xFFFFF⟩
def SWC.PG.XOFF (p c : Nat) : Fld := ⟨8 * (0x1309000 + 0x400000 * portSlice p + 0x80 * portIdx p + 8 * c) + 20, 20, 0xFFFFF⟩
def SWC.PG.PG_LIMIT (p c : Nat) : Fld := ⟨8 * (0x1309000 + 0x400000 * portSlice p + 0x80 * portIdx p + 8 * c) + 0, 20, 0xFFFFF⟩
-- SWC.CLASS_LIMIT: 12 Table 12.5 R288.
def SWC.CLASS_LIMIT.CELLS (h c : Nat) : Fld := ⟨8 * (0x130B000 + 0x1000000 * h + 8 * c) + 0, 24, 0xFFFFFF⟩
-- SWC.MGRP_BASE: 12 Table 12.5 R303.
def SWC.MGRP_BASE.OFFSET (h : Nat) : Fld := ⟨8 * (0x130B080 + 0x1000000 * h) + 0, 36, 0x0⟩
-- SWC.HALF_STAT: 12 Table 12.5 R310.
def SWC.HALF_STAT.GROUP_FAIL (h : Nat) : Fld := ⟨8 * (0x130B088 + 0x1000000 * h) + 16, 16, 0x0⟩
def SWC.HALF_STAT.RESIDUE (h : Nat) : Fld := ⟨8 * (0x130B088 + 0x1000000 * h) + 0, 15, 0x0⟩
-- SWC.CNT: 12 R315.
def SWC.CNT.V (s i : Nat) : Fld := ⟨8 * (0x130C000 + 0x400000 * s + 8 * i) + 0, 40, 0x0⟩
-- SWC.QCNT: 12 R315.
def SWC.QCNT.V (p q j : Nat) : Fld := ⟨8 * (0x1310000 + 0x400000 * portSlice p + 0x400 * portIdx p + 0x40 * q + 8 * j) + 0, 40, 0x0⟩
-- SCT.BW_CFG: 18 Table 18.3 R427.
def SCT.BW_CFG.THR (s j : Nat) : Fld := ⟨8 * (0x1380000 + 0x400000 * s + 0x20 * j) + 32, 32, 0xFFFFFFFF⟩
def SCT.BW_CFG.EN (s j : Nat) : Fld := ⟨8 * (0x1380000 + 0x400000 * s + 0x20 * j) + 21, 1, 0x0⟩
def SCT.BW_CFG.WIRE (s j : Nat) : Fld := ⟨8 * (0x1380000 + 0x400000 * s + 0x20 * j) + 20, 1, 0x0⟩
def SCT.BW_CFG.WIN_US (s j : Nat) : Fld := ⟨8 * (0x1380000 + 0x400000 * s + 0x20 * j) + 0, 20, 0x3E8⟩
-- SCT.BW_RX: 18 Table 18.3 R428.
def SCT.BW_RX.SEQ (s j : Nat) : Fld := ⟨8 * (0x1380008 + 0x400000 * s + 0x20 * j) + 48, 16, 0x0⟩
def SCT.BW_RX.OCTETS (s j : Nat) : Fld := ⟨8 * (0x1380008 + 0x400000 * s + 0x20 * j) + 0, 48, 0x0⟩
-- SCT.BW_TX: 18 Table 18.3 R428.
def SCT.BW_TX.SEQ (s j : Nat) : Fld := ⟨8 * (0x1380010 + 0x400000 * s + 0x20 * j) + 48, 16, 0x0⟩
def SCT.BW_TX.OCTETS (s j : Nat) : Fld := ⟨8 * (0x1380010 + 0x400000 * s + 0x20 * j) + 0, 48, 0x0⟩
-- SCT.BW_PEAK: 18 Table 18.3 R428.
def SCT.BW_PEAK.TX_PEAK (s j : Nat) : Fld := ⟨8 * (0x1380018 + 0x400000 * s + 0x20 * j) + 32, 32, 0x0⟩
def SCT.BW_PEAK.RX_PEAK (s j : Nat) : Fld := ⟨8 * (0x1380018 + 0x400000 * s + 0x20 * j) + 0, 32, 0x0⟩
-- SCT.BW_HIGH: 18 Table 18.3 R428.
def SCT.BW_HIGH.HIGH (s : Nat) : Fld := ⟨8 * (0x1380800 + 0x400000 * s) + 0, 34, 0x0⟩
-- SCT.CHAIN_MAC: 18 Table 18.3 R426.
def SCT.CHAIN_MAC.CHAIN (s j : Nat) : Fld := ⟨8 * (0x1381000 + 0x400000 * s + 8 * j) + 0, 19, 0x0⟩
-- SCT.CHAIN: 18 Table 18.3 R426.
def SCT.CHAIN.CHAIN (s g : Nat) : Fld := ⟨8 * (0x1381200 + 0x400000 * s + 8 * g) + 0, 32, 0x0⟩

/-- Register layouts (RegsSwitch), part 1. -/
def layoutSwitch0 : List RegFam := [
  ⟨0x1300000, [(8, 0x400000)], 4, [⟨0, 1, .rw, 0x0, .any⟩]⟩,
  ⟨0x1300108, [(8, 0x400000), (7, 0x8)], 8, [⟨40, 1, .rw, 0x0, .any⟩, ⟨39, 1, .rw, 0x0, .any⟩, ⟨32, 7, .rw, 0x0, .any⟩, ⟨16, 16, .rw, 0x1, .any⟩, ⟨9, 4, .rw, 0x0, (.le 11)⟩, ⟨0, 9, .rw, 0x0, .any⟩]⟩,
  ⟨0x1301000, [(8, 0x400000), (34, 0x20)], 8, [⟨48, 16, .rw, 0x0, .any⟩, ⟨36, 7, .rw, 0x0, (.le 64)⟩, ⟨32, 3, .rw, 0x0, .any⟩, ⟨28, 3, .rw, 0x0, .any⟩, ⟨25, 1, .rw, 0x0, .any⟩, ⟨24, 1, .rw, 0x0, .any⟩, ⟨0, 24, .rw, 0x0, .any⟩]⟩,
  ⟨0x1301008, [(8, 0x400000), (34, 0x20)], 8, [⟨16, 16, .rw, 0x40, .nz⟩, ⟨0, 16, .rw, 0x0, .any⟩]⟩,
  ⟨0x1301010, [(8, 0x400000), (34, 0x20)], 8, [⟨48, 1, .ro, 0x0, .any⟩, ⟨24, 24, .ro, 0x0, .any⟩, ⟨0, 24, .ro, 0x0, .any⟩]⟩,
  ⟨0x1304000, [(8, 0x400000), (34, 0x200), (16, 0x20)], 8, [⟨58, 3, .rw, 0x0, .any⟩, ⟨50, 8, .rw, 0x18, .nz⟩, ⟨48, 2, .rw, 0x0, .any⟩, ⟨40, 7, .rw, 0x0, .any⟩, ⟨32, 7, .rw, 0x40, .any⟩, ⟨24, 7, .rw, 0x60, .any⟩, ⟨0, 24, .rw, 0x0, .any⟩]⟩,
  ⟨0x1304008, [(8, 0x400000), (34, 0x200), (16, 0x20)], 8, [⟨32, 16, .rw, 0x0, .any⟩, ⟨0, 19, .rw, 0x7FFFF, .any⟩]⟩,
  ⟨0x1304010, [(8, 0x400000), (34, 0x200), (16, 0x20)], 8, [⟨50, 1, .ro, 0x0, .any⟩, ⟨49, 1, .ro, 0x0, .any⟩, ⟨48, 1, .ro, 0x0, .any⟩, ⟨24, 24, .ro, 0x0, .any⟩, ⟨0, 24, .ro, 0x0, .any⟩]⟩,
  ⟨0x1309000, [(8, 0x400000), (34, 0x80), (16, 0x8)], 8, [⟨63, 1, .rw, 0x0, .any⟩, ⟨60, 3, .rw, 0x0, .any⟩, ⟨40, 20, .rw, 0xFFFFF, .any⟩, ⟨20, 20, .rw, 0xFFFFF, .any⟩, ⟨0, 20, .rw, 0xFFFFF, .any⟩]⟩,
  ⟨0x130B000, [(2, 0x1000000), (16, 0x8)], 8, [⟨0, 24, .rw, 0xFFFFFF, .any⟩]⟩,
  ⟨0x130B080, [(2, 0x1000000)], 8, [⟨0, 36, .rw, 0x0, (.al 64)⟩]⟩,
  ⟨0x130B088, [(2, 0x1000000)], 8, [⟨16, 16, .ro, 0x0, .any⟩, ⟨0, 15, .ro, 0x0, .any⟩]⟩,
  ⟨0x130C000, [(8, 0x400000), (17, 0x8)], 8, [⟨0, 40, .ro, 0x0, .any⟩]⟩,
  ⟨0x1310000, [(8, 0x400000), (34, 0x400), (16, 0x40), (8, 0x8)], 8, [⟨0, 40, .ro, 0x0, .any⟩]⟩,
  ⟨0x1380000, [(8, 0x400000), (34, 0x20)], 8, [⟨32, 32, .rw, 0xFFFFFFFF, .any⟩, ⟨21, 1, .rw, 0x0, .any⟩, ⟨20, 1, .rw, 0x0, .any⟩, ⟨0, 20, .rw, 0x3E8, (.inR 1 1000000)⟩]⟩,
  ⟨0x1380008, [(8, 0x400000), (34, 0x20)], 8, [⟨48, 16, .ro, 0x0, .any⟩, ⟨0, 48, .ro, 0x0, .any⟩]⟩,
  ⟨0x1380010, [(8, 0x400000), (34, 0x20)], 8, [⟨48, 16, .ro, 0x0, .any⟩, ⟨0, 48, .ro, 0x0, .any⟩]⟩,
  ⟨0x1380018, [(8, 0x400000), (34, 0x20)], 8, [⟨32, 32, .rc, 0x0, .any⟩, ⟨0, 32, .rc, 0x0, .any⟩]⟩,
  ⟨0x1380800, [(8, 0x400000)], 8, [⟨0, 34, .w1c, 0x0, .any⟩]⟩,
  ⟨0x1381000, [(8, 0x400000), (34, 0x8)], 8, [⟨0, 19, .rw, 0x0, .any⟩]⟩]

/-- Register layouts (RegsSwitch), part 2. -/
def layoutSwitch1 : List RegFam := [
  ⟨0x1381200, [(8, 0x400000), (13, 0x8)], 8, [⟨0, 32, .rw, 0x0, .any⟩]⟩]

/-- Every register layout of this file. -/
def layoutSwitch : List RegFam := layoutSwitch0 ++ layoutSwitch1

end Sys2Proof.Machine
end

