-- ==== Sys2Proof/Machine/State.lean ====
section
/-! DEFINITION. The state of the DW5120: every register field, memory, frame, thread, queue and engine the manual names, and the queue of waiting commands. -/

namespace Sys2Proof.Machine

/-- Reasons a step can stop with a fault. Nothing in this model raises one: every command of the table completes or changes nothing (safe). -/
inductive Fault where
  /-- Raised by nobody; the type has a value so that it can be compared and printed (safe). -/
  | none_
deriving DecidableEq, Repr

/-- Reasons a step can refuse a command. -/
inductive Refusal where
  /-- A command of the table that has no meaning in the model; raised by its arm of `exec` only (safe: the machine stops). -/
  | notModelled (mnemonic : String)
deriving DecidableEq, Repr

/-- Where a frame stands between its arrival at a parser and the switch core (spec/01 Table 1.4, stages 2 to 7). -/
inductive Stage where
  /-- at the parser -/
  | parse
  /-- in the slice's graph queue (R89) -/
  | graph
  /-- key built; the payload scan, if any, and the search are to come -/
  | keyed
  /-- scan done, search to come -/
  | scanned
  /-- classified, forwarding lookup to come -/
  | classified
  /-- forwarding result known, Quarry to come -/
  | forwarded
  /-- in the dispatch queue of its cluster (R185) -/
  | queued
  /-- in the flow-update unit (R159) -/
  | flowUpd
  /-- held by a thread (R178) -/
  | thread
  /-- released, waiting for the switch core -/
  | released
deriving DecidableEq, Repr

/-- Where a frame goes (D3, R79, R129). -/
inductive Dest where
  | port (p : Nat)
  | group (g : Nat)
  | drop
  /-- punt with the shim reason of Table 3.11 -/
  | punt (reason : Nat)
deriving DecidableEq, Repr

/-- A frame. `body` is the frame as it stands, `rx` the frame as received at its first ingress, both without FCS; `fcs` is the received FCS (R67, R78). Times are in units of 2^-32 ns. -/
structure Pkt where
  body : List Byte := []
  rx : List Byte := []
  fcs : Nat := 0
  /-- leaves with a fresh FCS and no carry-through (R69) -/
  fresh : Bool := false
  /-- marked bad (R62, R65); bad, but its tail arrived only after the pipeline had counted it (R65, R171) -/
  bad : Bool := false
  lateBad : Bool := false
  /-- a copy cut to a truncation length (R69, R307) -/
  trunc : Bool := false
  /-- first ingress port -/
  ing : Nat := 511
  /-- ingress port of this pass (R81) -/
  port : Nat := 511
  slice : Nat := 0
  /-- ingress time-stamp (R71) -/
  stamp : Nat := 0
  epoch : Option Nat := none
  stage : Stage := .parse
  /-- graph start node, and whether a profile failed before the walk -/
  startNode : Nat := 0
  /-- extracted key (Table 4.7) -/
  key : List Byte := []
  /-- payload scan results (R116) -/
  scanGroups : Nat := 0
  scanFirst : Nat := 0
  scanCount : Nat := 0
  scanHit : Bool := false
  scanDone : Bool := false
  /-- classifier result word (Table 5.5) and effective action word (Table 5.6) -/
  clsRes : Nat := 0
  act : Nat := 0
  /-- forwarding result word (D2); the destination address of the next hop a routed frame takes, its new source address, and whether the hop limit falls (R128) -/
  fwdRes : Nat := 0
  nh : Option Nat := none
  rmac : Nat := 0
  decTtl : Bool := false
  /-- offset of the network header, as the parser found it -/
  l3 : Nat := 14
  dest : Dest := .drop
  /-- flow status, handle, direction and hashes (R146, R156) -/
  status : Nat := 2
  handle : Nat := 0xFFFFFFFF
  dir : Bool := false
  h1 : Nat := 0
  h2 : Nat := 0
  fkey : List Byte := []
  /-- the Face miss this packet waits for (R160) -/
  miss : Option Nat := none
  /-- the only reason for a thread was a miss or a held record (R158) -/
  recheck : Bool := false
  /-- treatment word D3 (Table 8.2) -/
  d3 : Nat := 0
  /-- net change of length made by HINS and HDEL (R227), plus 64 -/
  hnet : Nat := 64
  /-- buffers that hold the frame, first one first (D6) -/
  bufs : List Nat := []
  /-- slice whose frame path holds them -/
  bufSlice : Nat := 0
  /-- a launch request not yet resolved, as P[MEM_REG + 2] of TXGEN packs it: [63:32] ns, [31:16] fraction, [15:0] seconds (R75, R328) -/
  launchReq : Option Nat := none
  /-- launch time of a buoy in 2^-32 ns, its SOURCE, its STEP_SUM at admission, and its LATE mark (Table 13.2) -/
  launch : Option Nat := none
  bsrc : Nat := 0
  sum0 : Nat := 0
  late : Bool := false
  /-- the frame carries an ingress time-stamp: it was received, not injected or generated (Table 13.1); STAT.STEPS at ingress (R326) -/
  stamped : Bool := false
  stepsIn : Nat := 0
  /-- injected by the host (R301) -/
  inj : Bool := false
  /-- flow mirror session of the classifier action, 0 none (R307) -/
  mirSess : Nat := 0
  /-- a mirror copy (R308); a punted copy, which is never mirrored (R111) -/
  copy : Bool := false
  punted : Bool := false
  /-- cut-through: the head leaves before the tail has arrived (R301) -/
  ct : Bool := false
  /-- counted in its flow record (R171) -/
  counted : Bool := false
  /-- generated by the device or a thread (transmit entry owner: context + 1) -/
  txOwner : Nat := 0
  /-- this pass's received length, FRAME_LEN (R62) -/
  len : Nat := 0
  /-- identity of the frame within the model -/
  id : Nat := 0
deriving DecidableEq, Repr

/-- State of a Face line; INVALID lines are not listed (R153). -/
inductive LineSt where
  | filling | clean | dirty
deriving DecidableEq, Repr

/-- One Face line: its ways, its tag, its record words, and the deltas gathered since it was fetched (R152, R153). -/
structure Line where
  slice : Nat
  set : Nat
  ways : List Nat
  st : LineSt
  handle : Nat
  h1 : Nat
  h2 : Nat
  words : List Nat
  ver : Nat
  dPkts : Nat
  dBad : Nat
  dOct : Nat
  dLast : Option Nat
  /-- tick of the first delta since the line was clean; tick of the last hit or unpin -/
  dirtyAt : Nat
  hitAt : Nat
  missId : Nat
deriving DecidableEq, Repr

/-- A Face miss being served (R155, R160, R162). -/
structure Miss where
  id : Nat
  slice : Nat
  h1 : Nat
  h2 : Nat
  fkey : List Byte
  /-- QTAKE by handle, from context `ctx` (64 c + t + 1) -/
  byHandle : Option Nat
  ctx : Nat
  /-- the packet that started it; an insertion is made for this packet -/
  pktId : Nat
  /-- arguments of an insertion (R164): allowed, and the initial word 0 fields -/
  ins : Bool
  full : Bool
  w0 : Nat
  sent : Bool
deriving DecidableEq, Repr

/-- The kinds of Bench transaction that a slice issues (Table 7.8). -/
inductive TxnKind where
  | lookup | writeBack | commit | release | late | qins | delete
deriving DecidableEq, Repr

/-- A Bench transaction outstanding (R161, R163). -/
structure Txn where
  id : Nat
  kind : TxnKind
  slice : Nat
  half : Nat
  handle : Nat
  h1 : Nat
  h2 : Nat
  fkey : List Byte
  missId : Nat
  ins : Bool
  full : Bool
  w0 : Nat
  /-- deltas and STATE words carried -/
  dPkts : Nat
  dBad : Nat
  dOct : Nat
  dLast : Option Nat
  words : List Nat
  ver : Nat
  /-- thread that waits on it or issued it (64 c + t + 1) -/
  ctx : Nat
  t0 : Nat
  /-- the Bench unit has carried it out; the response -/
  done : Bool
  rStatus : Nat
  rHandle : Nat
  rWords : List Nat
  /-- ticks for which its timer was suspended (R163, R407) -/
  susp : Nat := 0
deriving DecidableEq, Repr

/-- A PUSH on its way to a slice (R167), and the thread whose COMMIT caused it (64 c + t + 1). -/
structure Push where
  slice : Nat
  handle : Nat
  words : List Nat
  ctx : Nat := 0
deriving DecidableEq, Repr

/-- A deletion (R170). `started` is false until its step 1; `cmp` holds words 0 and 3 as the sweep read them; `waits` are the slices still to answer. -/
structure Del where
  id : Nat
  handle : Nat
  reason : Nat
  started : Bool := false
  cmp : Option (Nat × Nat) := none
  waits : List Nat := []
  byHost : Bool := false
deriving DecidableEq, Repr

/-- A pending learn, move or refresh of the table unit (R134, R135). -/
structure Learn where
  slice : Nat
  vid : Nat
  sa : Nat
  port : Nat
  set : Nat
  bad : Bool
deriving DecidableEq, Repr

/-- A compare-and-delete that the aging sweep has issued: the slot and the result word that it read (R139). -/
structure AgeCas where
  slice : Nat
  table : Nat
  slot : Nat
  word : Nat
deriving DecidableEq, Repr

/-- Context states (Table 8.3). -/
inductive CtxSt where
  | free | ready | waitMem | waitEvent | faulted | halted | keeperIdle
deriving DecidableEq, Repr

/-- What a waiting context waits for. -/
inductive Wait where
  | none
  /-- its own operation; OPERATION_COMPLETE ends it -/
  | op
  /-- an HBM access of its own, which has a lower-layer timer (R199) -/
  | hbm
  /-- a Bench transaction of its own -/
  | bench
  /-- a fence -/
  | fence
  /-- the LOOKUP of its packet's miss (R187) -/
  | fill
  /-- a record held by another thread (R154) -/
  | record
  | chanOpen (i : Nat)
  | chanRecv (i : Nat)
  | share
  | creg
  | join
  | keeper
deriving DecidableEq, Repr

/-- A thread's held record: the copy it took and whether it changed a STATE field (R154, R167). -/
structure Held where
  handle : Nat
  words : List Nat
  ver : Nat
  changed : Bool
deriving DecidableEq, Repr

/-- The microword in execution and how far it has come (R216). -/
structure Cur where
  word : Nat
  fenceDone : Bool := false
  aluDone : Bool := false
  memDone : Bool := false
  /-- the ALU result; the address operand plus offset, read before any write -/
  alu : Option Word64 := none
  addr : Nat := 0
  /-- device address of an HBM access that the thread waits for; tick at which its fence began -/
  hbm : Nat := 0
  fenceAt : Nat := 0
  /-- register values that the memory operation loaded, written when the word ends -/
  loads : List (Nat × Word64) := []
deriving DecidableEq, Repr

/-- A thread context (Table 8.1). -/
structure Ctx where
  st : CtxSt := .free
  regs : Sparse Word64 := []
  pkt : Option Pkt := none
  /-- the key window; it stays when the packet is released -/
  key : List Byte := []
  /-- the thread released a packet that it had held -/
  released : Bool := false
  epoch : Option Nat := none
  pc : Nat := 0
  stack : List Nat := []
  /-- conditions 0x02 to 0x12 of Table 9.4, bit per selector -/
  conds : Nat := 0
  held : Option Held := none
  handles : List Nat := []
  txe : Nat := 0
  /-- records whose Face lines it has added to, and HBM words that it has stored to, since its last fence of kind all (R35, R36) -/
  wrote : List Nat := []
  stored : List Nat := []
  chan : Option Nat := none
  /-- its channel was reclaimed: its next channel operation, or its resume, sees CHANNEL_LOST (R198) -/
  chanLost : Bool := false
  children : Nat := 0
  /-- parent context (64 c + t + 1) and the sequence number of its thread -/
  parent : Nat := 0
  parentSeq : Nat := 0
  seq : Nat := 0
  /-- ticks counted by the thread timer (R199) -/
  timer : Nat := 0
  wait : Wait := .none
  /-- what it waits for: a record's handle; its place among the waiters -/
  waitH : Nat := 0xFFFFFFFF
  waitSeq : Nat := 0
  cur : Option Cur := none
  /-- a COMMIT of this thread was refused since its last flow fence -/
  conflict : Bool := false
  /-- child of a FORK that is not READY yet -/
  forking : Bool := false
  /-- halted by breakpoint, with release; executes one word past the breakpoint; single step; halt asked for (1 plain, 2 with release); kick asked for (R202, R379) -/
  byBp : Bool := false
  relHalt : Bool := false
  skipBp : Bool := false
  stepping : Bool := false
  haltReq : Nat := 0
  kickReq : Bool := false
  /-- fault record waiting for delivery or for its keeper (Table 8.6); whether it has been delivered, and the ticks since (R203) -/
  fault : Nat := 0
  delivered : Bool := false
  faultAge : Nat := 0
deriving DecidableEq, Repr

/-- A channel: EMPTY, OPEN or FULL, its holder, its staged words (R197). -/
structure Chan where
  st : Nat := 0
  holder : Nat := 0
  staged : Sparse Word64 := []
  openAt : Nat := 0
  /-- threads that wait to receive, and to open, in the order in which they began to wait -/
  recvs : List Nat := []
  opens : List Nat := []
deriving DecidableEq, Repr

/-- One packet in a cluster's release order (R188): its flow, and the packet once it is released. -/
structure Ord where
  h1 : Nat
  h2 : Nat
  id : Nat
  pkt : Option Pkt
deriving DecidableEq, Repr

/-- One command of the host that runs until its DONE row: the status and the values it will publish. -/
structure HostCmd where
  status : Nat := 0
  addr : Nat := 0
  data : List Nat := []
  at_ : Nat := 0
  waiting : Bool := false
deriving DecidableEq, Repr

/-- A frame or copy in an egress queue (R286, R295). -/
structure QEnt where
  pkt : Pkt
  /-- queue number within the port -/
  q : Nat := 0
  /-- the source half, the cells counted, the class and ingress port counted, and whether class and ingress group count it (R287) -/
  srcHalf : Nat := 0
  cells : Nat := 0
  cls : Nat := 0
  gPort : Nat := 511
  inGroup : Bool := false
  enqAt : Nat := 0
  /-- in HBM overflow, or read ahead back to the die -/
  spilled : Bool := false
  readAhead : Bool := false
  /-- its egress port went away with a mode switch (R51) -/
  flush : Bool := false
  /-- overflow pages that hold it, where its bytes start in the first, and the pages whose last byte it holds -/
  place : Option (List Nat × Nat) := none
  pageEnds : List Nat := []
  /-- slice and index of the SWC counter that counts it when it is queued: MC_COPIES or MIRROR_COPIES (R304, R308) -/
  tally : Option (Nat × Nat) := none
  /-- egress stamp of a buoy that has started -/
  start : Option Nat := none
deriving DecidableEq, Repr

/-- An egress queue (R286). -/
structure Queue where
  ents : List QEnt := []
  spill : Bool := false
  deficit : Nat := 0
  /-- the overflow page being filled and how many of its bytes are used (R296) -/
  page : Option Nat := none
  pageFill : Nat := 0
deriving DecidableEq, Repr

/-- A frame on its way into the switch core, or one copy of it. `kind`: 0 a frame; 1 a multicast copy; 2 a mirror copy; 4 a punted copy. -/
structure Adm where
  pkt : Pkt
  dest : Dest
  queue : Nat
  srcHalf : Nat
  /-- slice whose frame path handles it (R314) -/
  slice : Nat
  kind : Nat := 0
  cls : Nat := 0
  colour : Nat := 0
  /-- no mirror copy is made of it -/
  mirrored : Bool := false
  /-- transmit entry: 64 c + t + 1 of the thread that generated the frame -/
  txe : Nat := 0
  /-- the copy may cut through: unicast, or made in passing (R301) -/
  passing : Bool := true
  /-- buffers at REFCNT 255 of which the copy still has to take its reference (R278) -/
  needRef : List Nat := []
  /-- RESIDUE_TMO of its group in µs (R306) -/
  tmo : Nat := 0
deriving DecidableEq, Repr

/-- A copy in the residue list of a half (R305); `due` is when RESIDUE_TMO ends. -/
structure Residue where
  half : Nat
  port : Nat
  adm : Adm
  due : Nat
  /-- its place in the order of replication (R306) -/
  seq : Nat := 0
deriving DecidableEq, Repr

/-- A frame crossing the die-to-die link (R309): entries already admitted to queues of the other half, and copies that join its residue list. -/
structure Cross where
  pkt : Pkt
  toHalf : Nat
  laneGroup : Nat
  ents : List (Nat × QEnt)
  resid : List Residue
  lost : Bool := false
  /-- its lane group carries it now; references it still has to take; the multicast group that the other half replicates it to (R304) -/
  started : Bool := false
  needRef : List Nat := []
  group : Option Nat := none
deriving DecidableEq, Repr

/-- A dequeue credit on its way back to the source half (R290). -/
structure Credit where
  srcHalf : Nat
  port : Nat
  q : Nat
  cells : Nat
  cls : Nat
  gPort : Nat
  inGroup : Bool
deriving DecidableEq, Repr

/-- A fault-tracker entry (R399). -/
structure Track where
  cls : Nat
  loc : Nat
  t0 : Nat
  count : Nat
deriving DecidableEq, Repr

/-- A queued write to the retirement map or the store header (R404, R405, R412). -/
structure MapW where
  /-- none: a map entry; below 0x1000 the store's header word at this offset; from there on the next 512 words of the map to be cleared -/
  slot : Option Nat
  w0 : Nat
  w1 : Nat
  /-- tick + 1 of its last deferral -/
  deferAt : Nat := 0
deriving DecidableEq, Repr

/-- A lower layer's retry: how often, of what, since which tick, and the tick at which the last one succeeds; 0 where it does not (R407). -/
structure Try where
  n : Nat := 0
  loc : Nat := 0
  t0 : Nat := 0
  endAt : Nat := 0
deriving DecidableEq, Repr

/-- A write to a row of HBM under repair, made when the repair is over (R403): its bytes, or the word that an addition adds; for a log record the key of its ring plus 1. -/
structure Posted where
  addr : Nat
  add : Bool
  bytes : List Byte
  ring : Nat
deriving DecidableEq, Repr

/-- What a power request is doing (R386). -/
inductive PwrPhase where
  | idle | asking | undoing | entering | exiting
deriving DecidableEq, Repr

/-- The power request in progress (Table 16.3). `pos` is the block being asked, in phase `undoing` the number of blocks that had granted and are still to be woken, `since` and `askedAt` the ticks of its first and last answer of DELAY; `need` are the domains whose exit completes the request. -/
structure PwrReq where
  phase : PwrPhase := .idle
  kind : Nat := 0
  index : Nat := 0
  target : Nat := 0
  pos : Nat := 0
  delayed : Bool := false
  since : Nat := 0
  askedAt : Nat := 0
  woken : Bool := false
  need : List (Nat × Nat) := []
deriving DecidableEq, Repr

/-- A command that runs on the flash (R357, R359): `op` 0 none, 1 RELOAD, 2 WRITE; for a WRITE the step of Table 14.12, the byte of the slot it works at, and tick + 1 of a deferral. -/
structure FlashOp where
  op : Nat := 0
  slot : Nat := 0
  section_ : Nat := 0
  step : Nat := 0
  pos : Nat := 0
  deferAt : Nat := 0
  deferred : Bool := false
deriving DecidableEq, Repr

/-- One entry of a port's transmit time-stamp FIFO (R327). -/
structure TxTs where
  w0 : Nat
  w1 : Nat
  w2 : Nat
deriving DecidableEq, Repr

/-- Pins (spec/14, spec/15, spec/20): SYS_RESET_N, the straps as last sampled ([1:0] BOOT, [2] XSPI_SPEED, [5:3] I2C_ADDR), the voltage at HOLDUP_SENSE in mV (R414), the levels that the board drives on the GPIO balls. -/
structure PinSt where
  sysResetN : Bool
  straps : Nat
  sense : Nat
  gpioExt : Nat
deriving DecidableEq, Repr

/-- Lanes, ports and MACs (spec/03). -/
structure MacSt where
  /-- awaited step of Table 3.5 by port; 0 none, 8 up -/
  bring : Sparse Nat
  /-- receive coefficients by lane, and the updates each has stayed at the end of its range (R57, R58) -/
  coef : Sparse (List Int)
  coefEnd : Sparse (List Nat)
  /-- setting of the local transmit equaliser that training reached, by lane (R55, R57) -/
  txEq : Sparse Nat
  adaptAt : Sparse Nat
  /-- lanes whose margin was below the threshold at their last update (R58) -/
  lowMargin : Sparse Nat
  /-- the frame each port is sending, and the last frame that left it, FCS included -/
  tx : Sparse (Option QEnt)
  wire : Sparse (List Byte)
  recirc : Sparse (List Pkt)
deriving DecidableEq, Repr

/-- Classifier probe and the forwarding table units (spec/05, spec/06). -/
structure TblSt where
  /-- key of the probe in progress, by slice (R123) -/
  probe : Sparse (Option Nat)
  learns : List Learn
  ageCas : List AgeCas
  fwdCmd : Sparse (Option HostCmd)
  logRaised : Sparse Nat
deriving DecidableEq, Repr

/-- The Quarry: Face lines, misses, Bench transactions, deletions, free rings (spec/07). -/
structure QrySt where
  lines : List Line
  misses : List Miss
  txns : List Txn
  pushes : List Push
  dels : List Del
  /-- free units of a zone as (start, count) runs: key 2 h compact, 2 h + 1 full pairs -/
  freeRings : Sparse (List (Nat × Nat))
  insTok : Sparse Nat
  insAt : Sparse Nat
  /-- transactions that timed out with their result on its way (R410) -/
  lates : List Txn
  qryCmd : Option HostCmd
  flushAll : Sparse Nat
  qryInit : Bool
deriving DecidableEq, Repr

/-- Contexts, channels, dispatch queues, release orders, slot pointers, keepers (spec/08, spec/09). -/
structure EngSt where
  /-- contexts at 64 c + t; channels at 16 c + i -/
  ctxs : Sparse Ctx
  chans : Sparse Chan
  /-- dispatch queue, release order and rotating pointer by cluster -/
  dq : Sparse (List Pkt)
  ord : Sparse (List Ord)
  rr : Sparse Nat
  /-- slot pointer by engine -/
  slotPtr : Sparse Nat
  /-- fault records in the keeper's queue, by engine -/
  kq : Sparse (List Nat)
  /-- engines under fog redirection; ticks for which the fog condition has held quietly, by engine -/
  redir : Sparse Nat
  fogQuiet : Sparse Nat
  /-- tick at which a context of an engine last went idle (R385) -/
  idleAt : Sparse Nat
  patch : Sparse (Option HostCmd)
  /-- context + 1 of a STEP in progress, by cluster -/
  stepCmd : Sparse Nat
deriving DecidableEq, Repr

/-- Switch core queues and counts (spec/12). -/
structure SwcSt where
  adms : List Adm
  /-- multicast frames whose replication is not complete: copies of them wait for references (R278) -/
  grants : List Pkt
  crosses : List Cross
  /-- the queue key, plus 1, that a lane group served last, at 16 h + g for direction h (R309) -/
  crossRR : Sparse Nat
  credits : List Credit
  /-- egress queues at key 16 p + q -/
  queues : Sparse Queue
  /-- class counts at 16 h + c; ingress group counts and their XOFF state at 16 p + c (R287, R292) -/
  classCnt : Sparse Nat
  grpCnt : Sparse Nat
  grpXoff : Sparse Nat
  residues : List Residue
  /-- sample counters of mirror sessions at 8 s + m (R308) -/
  mirrorCnt : Sparse Nat
  /-- tick of the link loss of a port in down-hold (R311) -/
  downAt : Sparse Nat
  /-- shaper credit of a port in 1/80 byte, and the tick it was last brought up to date (R299) -/
  shape : Sparse Int
  shapeAt : Sparse Nat
  /-- the queue a port's level is visiting, plus 1, at key 4 p + level (R298) -/
  visit : Sparse Nat
  /-- end of a received pause at 9 p + priority, priority 8 for a link pause (R293) -/
  paused : Sparse Nat
  /-- pause frames that a MAC is asked to send: port, priority, pause or resume; the tick of the last one by 9 p + priority -/
  pauseReq : List (Nat × Nat × Bool)
  pauseAt : Sparse Nat
deriving DecidableEq, Repr

/-- Buffer pools (spec/11). -/
structure BufSt where
  /-- free ring and cache of pool k of half h as (first buffer, count) runs, at key 8 h + k (R274) -/
  ring : Sparse (List (Nat × Nat))
  cache : Sparse (List (Nat × Nat))
  /-- metadata words (Table 11.2) at key h * 2^32 + handle; unlisted: free with odd parity -/
  info : Sparse Nat
  /-- ticks of the frees of the last 10 µs, by pool (R276) -/
  freesAt : Sparse (List Nat)
  cmd : Sparse (Option HostCmd)
deriving DecidableEq, Repr

/-- The time unit (spec/13). -/
structure TmuSt where
  sec : Nat
  ns : Nat
  frac : Nat
  /-- remainder of the slew in 2^-16 ns, and whether ADJ_BUSY still has to clear (R317) -/
  slewRem : Int
  slewOn : Bool
  /-- OP and value of a step that is pending, in 2^-32 ns (R318) -/
  stepArm : Option (Nat × Nat)
  /-- tick + 1 of the last step, and the counter before it: a stamp of that tick is of the earlier scale (R321) -/
  stepAt : Nat
  stepOld : Nat
  /-- what the last tick added to the counter, in 2^-32 ns (R317, R323) -/
  lastAdv : Nat
  /-- tick + 1 of the last edge of each capture input (R322) -/
  capAt : Sparse Nat
  /-- tick + 1 of the last rise of PPS_OUT, and its level (R323) -/
  ppsRiseAt : Nat
  ppsOut : Bool
  txts : Sparse (List TxTs)
  /-- buoys at the launch stage of each port (R331) -/
  buoys : Sparse (List QEnt)
deriving DecidableEq, Repr

/-- Steps of the boot sequence that are awaited (Table 14.3): in reset; 3, 4, 5 to 8 and 9; none. -/
inductive BootPhase where
  | none | reset | hbm | retire | headers | image | verify | own | apply
deriving DecidableEq, Repr

/-- Boot, flash and fuses (spec/14, R377). -/
structure BootSt where
  phase : BootPhase
  /-- candidates still to try, the current one first: 1 image A, 2 image B, 3 staged by the host -/
  cands : List Nat
  /-- HBM is initialised; what the flash probe found: 0 or the code of its failure -/
  hbmOk : Bool
  flashErr : Nat
  /-- flash contents; an unlisted byte is erased, 0xFF -/
  flash : Sparse Byte
  /-- slots of which a WRITE ended before its last step, and which are no candidates (R360) -/
  unverified : Sparse Nat
  /-- log2 of the flash's sector and page sizes (SFDP) -/
  sectorLog : Nat
  pageLog : Nat
  flop : FlashOp
  /-- section-table entries of the loaded image, and the SHA-384 of its sections (R353) -/
  table : List (List Byte)
  hashes : List Nat
  /-- lock writes of the image held for step 10: bit 0 LOCK, bit 1 PATCH_LOCK (R347) -/
  heldLocks : Nat
  /-- section and record that step 9 applies next; tick + 1 at which it met a WAIT that is not yet true (R350) -/
  applyAt : Nat × Nat
  waitAt : Nat
  /-- fuses as they act since the last cold reset, and as programmed (R339, R377) -/
  keyHash : Nat
  sigEn : Bool
  progHash : Nat
  progSig : Bool
  /-- fuse command in progress and its data, its start, the status of the last command -/
  fuseCmd : Option (Nat × Nat)
  fuseAt : Nat
  fuseStatus : Nat
deriving DecidableEq, Repr

/-- The endpoint's configuration that software sets (spec/15 R361): Memory Space Enable of the Command register, the BARs as assigned, and D3hot; Device Control of the PCI Express capability; the masks and severities of AER. Bus Master Enable is hardwired to 0. -/
structure PcieCfg where
  memEn : Bool
  bar0 : Option Nat
  bar2 : Option Nat
  d3hot : Bool
  devCtl : Nat
  uncMask : Nat
  uncSev : Nat
  corMask : Nat
deriving DecidableEq, Repr

/-- Host interface, SMBus and TAP (spec/15): the data of the last host read's completion, the bytes of the last SMBus transaction, the TAP's instruction, its boundary cells, whether they hold the balls and leave them floating (HIGHZ), its data register, and the endpoint's configuration. -/
structure HostSt where
  hostData : List Nat
  bus : List Byte
  tapIr : Nat
  cells : Nat
  balls : Bool
  floating : Bool
  tapData : Nat
  pcie : PcieCfg
deriving DecidableEq, Repr

/-- Epochs (spec/02). -/
structure EpSt where
  /-- ticks of the last fence write and of the last accepted GO (R409) -/
  fenceAt : Nat
  advAt : Nat
  advPart : Option Nat
  epochEnd : Sparse Nat
  drainWarned : Nat
deriving DecidableEq, Repr

/-- Power, AVS, pace and temperature (spec/16). -/
structure PwrSt where
  pwr : PwrReq
  /-- domains on their way out of a parked state, as (kind, index) -/
  waking : List (Nat × Nat)
  /-- engines in DOZE (R385) -/
  dozing : Sparse Nat
  /-- tick + 1 of the last governor period; the voltage write that waits for its response, its retries, its last sending; tick + 1 of the last confirmation, of the last new request -/
  govAt : Nat
  avsPend : Option Nat
  avsFails : Nat
  avsAt : Nat
  avsAckAt : Nat
  avsReqAt : Nat
  /-- slices whose PACE_LOW response back-presses ingress (R294) -/
  paceResp : Sparse Nat
  /-- periods above HIGH, and at or above 165 while low, by slice (R393, R394) -/
  paceHigh : Sparse Nat
  paceEnd : Sparse Nat
  /-- junction temperatures of the halves, and the rail voltage read back, mV -/
  tempH0 : Int
  tempH1 : Int
  vMeas : Nat
  /-- per half: WARN raised and not armed again; LIMIT 1 in force, 2 left and not armed again (R395) -/
  thermWarn : Sparse Nat
  thermLim : Sparse Nat
  /-- VDD_CORE dipped, and the device is in cold reset: the tick of the dip (R448) -/
  dip : Option Nat
deriving DecidableEq, Repr

/-- Fault tracker, retirement map, persistent store (spec/17). -/
structure FltSt where
  tracks : List Track
  retired : List (Nat × Nat)
  mapQ : List MapW
  psCmd : Option HostCmd
  psBurstOk : Bool
  pwrFail : Bool
  /-- spare rows used, by bank; rows under repair (R403) -/
  spareUsed : Sparse Nat
  repairs : List Nat
  /-- control-store words recorded as lasting, by LOCATION (R232) -/
  lastingWords : List Nat
  /-- retries of the HBM controllers by stack, and of the die-to-die control flits by lane group (Table 17.3) -/
  hbmTry : Sparse Try
  d2dTry : Sparse Try
  /-- when the last repair of a row began and when it ended, 0 while it lasts; the writes that wait for repairs, in order (R403) -/
  repairAt : Sparse (Nat × Nat)
  posted : List Posted
deriving DecidableEq, Repr

/-- Bandwidth windows (spec/18 R427): octets of the window in progress, at 34 s + j, and tick + 1 of its start. -/
structure CtrSt where
  bwRx : Sparse Nat
  bwTx : Sparse Nat
  bwLive : Sparse Nat
deriving DecidableEq, Repr

/-- The device without its command queue. `freeCtr` and `nextId` are the model's own. -/
structure Dev where
  tick : Nat
  freeCtr : Nat
  nextId : Nat
  flds : Sparse Nat
  mem : List Host.Cell
  /-- classifier match array: XOR of the array's copy with the shadow copy, by word address (R106) -/
  mxor : Sparse Nat
  /-- words with a parity or ECC error: 1 correctable, 2 not (R397) -/
  bad : Sparse Nat
  evtMs : Sparse Nat
  /-- frames between parser and switch core, in order of arrival -/
  pipe : List Pkt
  pin : PinSt
  mac : MacSt
  tbl : TblSt
  qry : QrySt
  eng : EngSt
  swc : SwcSt
  buf : BufSt
  tmu : TmuSt
  boot : BootSt
  host : HostSt
  ep : EpSt
  pwr : PwrSt
  flt : FltSt
  ctr : CtrSt
deriving DecidableEq, Repr

/-- The machine: the device, and the commands that wait, first in first out. -/
structure State where
  dev : Dev
  pending : List Instr
deriving DecidableEq, Repr

-- The state right after power-on: SYS_RESET_N is low, every register field holds its reset value, nothing is listed in any memory (spec/00 R6, R22; spec/14 R340).

def MacSt.reset : MacSt := ⟨[], [], [], [], [], [], [], [], []⟩
def TblSt.reset : TblSt := ⟨[], [], [], [], []⟩
def QrySt.reset : QrySt := ⟨[], [], [], [], [], [], [], [], [], none, [], false⟩
def EngSt.reset : EngSt := ⟨[], [], [], [], [], [], [], [], [], [], [], []⟩
def SwcSt.reset : SwcSt := ⟨[], [], [], [], [], [], [], [], [], [], [], [], [], [], [], [], [], []⟩
def BufSt.reset : BufSt := ⟨[], [], [], [], []⟩
def TmuSt.reset : TmuSt := ⟨0, 0, 0, 0, false, none, 0, 0, 0, [], 0, false, [], []⟩

/-- The flash is erased and the fuses are not programmed: a fresh part on a fresh board (log entry 56). -/
def BootSt.reset : BootSt := ⟨.reset, [], false, 0, [], [], 12, 8, {}, [], [], 0, (0, 0), 0, 0, false, 0, false, none, 0, 0⟩

/-- The endpoint after a PCIe reset: no memory requests, no BAR assigned, D0, the family's values elsewhere (PRESUMED, log entry 97). -/
def PcieCfg.reset : PcieCfg := ⟨false, none, none, false, 0x2000, 0, 0x462030, 0x2000⟩

def HostSt.reset : HostSt := ⟨[], [], 2, 0, false, false, 0, .reset⟩
def EpSt.reset : EpSt := ⟨0, 0, none, [], 0⟩

/-- The rail stands at the regulator's power-on voltage (R391); the temperatures read 0 until an event reports one (log entry 6). -/
def PwrSt.reset : PwrSt :=
  ⟨{}, [], [], 0, none, 0, 0, 0, 0, [], [], [], 0, 0, 800 + Config.vBoot.val, [], [], none⟩

def FltSt.reset : FltSt := ⟨[], [], [], none, false, false, [], [], [], [], [], [], []⟩
def CtrSt.reset : CtrSt := ⟨[], [], []⟩
def PinSt.reset : PinSt := ⟨false, 0, 0, 0⟩

/-- The device right after power-on. -/
def Dev.reset : Dev where
  tick := 0
  freeCtr := 0
  nextId := 1
  flds := []
  mem := []
  mxor := []
  bad := []
  evtMs := []
  pipe := []
  pin := .reset
  mac := .reset
  tbl := .reset
  qry := .reset
  eng := .reset
  swc := .reset
  buf := .reset
  tmu := .reset
  boot := .reset
  host := .reset
  ep := .reset
  pwr := .reset
  flt := .reset
  ctr := .reset

/-- The machine right after power-on: no command waits. -/
def State.reset : State := ⟨Dev.reset, []⟩

end Sys2Proof.Machine
end

