-- ==== Sys2Proof/Machine/Ops.lean ====
section
/-! DEFINITION. The named operations over registers, memory, counters, events, sets and the fault tracker that every family uses. -/

namespace Sys2Proof.Machine

open Sys2Proof

/-- What a meaning answers. -/
abbrev Out := Host.Outcome State Fault Refusal

/-- A command with enabling condition `g` and effect `f` on the device. Where the condition does not hold, the event cannot happen or the command is turned away whole, and nothing changes (log entry 1). -/
def act (s : State) (g : Dev → Bool) (f : Dev → Dev) : Out :=
  .next (if g s.dev then { s with dev := f s.dev } else s)

/-- A command whose conditions are all part of its effect. -/
def always (_ : Dev) : Bool := true

-- Registers.

/-- The value of a field. -/
def Dev.get (d : Dev) (f : Fld) : Nat := sget d.flds f.key f.rst

/-- The device writes a field; the value is cut to the field's width. -/
def Dev.set (d : Dev) (f : Fld) (v : Nat) : Dev :=
  { d with flds := sset d.flds f.key (v % 2 ^ f.w) f.rst }

/-- Whether a one-bit field is 1. -/
def Dev.is (d : Dev) (f : Fld) : Bool := d.get f == 1

/-- Sets bit `i` of a field. -/
def Dev.setBitF (d : Dev) (f : Fld) (i : Nat) : Dev := d.set f (setBit (d.get f) i)

/-- Adds to a field, which saturates at all ones. -/
def Dev.addSat (d : Dev) (f : Fld) (k : Nat) : Dev := d.set f (min (d.get f + k) (2 ^ f.w - 1))

-- Memory (spec/19 R432, R434).

/-- Device address of HBM byte offset `o` of half `h` (R432). -/
def hbmA (h o : Nat) : Nat := h * 0x1000000000 + o

/-- Device address of offset `o` in the table space of slice `s` (Table 19.4). -/
def tblA (s o : Nat) : Nat := 0x4000000000 + s * 0x4000000 + o

/-- Device address of offset `o` in the persistent store (Table 19.4). -/
def psA (o : Nat) : Nat := 0x8000000000 + o

/-- Device address of tables-region offset `o` of half `h` (R434). -/
def tabA (h o : Nat) : Nat := hbmA h (0xA00000000 + o)

/-- Whether an address lies in a control store (Table 19.8). -/
def inCtlStore (a : Nat) : Bool :=
  Nat.ble 0x4000000000 a && Nat.blt a 0x4020000000 &&
    Nat.ble 0x2800000 (a % 0x4000000) && Nat.blt (a % 0x4000000) 0x2C00000

/-- What an unlisted address reads as: the parity bits of an all-zero microword are ones (R211); every other byte reads 0 (log entry 3). -/
def memDefault (a : Nat) : Byte := if inCtlStore a && a % 32 == 20 then 0xFF else 0

/-- One byte of memory. -/
def Dev.rdB (d : Dev) (a : Nat) : Byte := sget d.mem a (memDefault a)

/-- Writes one byte of memory. -/
def memSet (m : List Host.Cell) (a : Nat) (b : Byte) : List Host.Cell := sset m a b (memDefault a)

/-- Bytes `a` to `a + n - 1`. -/
def Dev.rdBytes (d : Dev) (a : Nat) : Nat → List Byte
  | 0 => []
  | n + 1 => d.rdB a :: d.rdBytes (a + 1) n

/-- Writes bytes from address `a` on. -/
def memSets (m : List Host.Cell) (a : Nat) : List Byte → List Host.Cell
  | [] => m
  | b :: bs => memSets (memSet m a b) (a + 1) bs

/-- A word written is a word without error (R397). -/
def clearBad (m : Sparse Nat) (a n : Nat) : Sparse Nat :=
  m.filter (fun e => Nat.blt (e.1 + 7) a || Nat.ble (a + n) e.1)

/-- Writes bytes from address `a` on; the words written carry no error afterwards. -/
def Dev.wrBytes (d : Dev) (a : Nat) (bs : List Byte) : Dev :=
  { d with mem := memSets d.mem a bs, bad := clearBad d.bad a bs.length }

/-- The little-endian value of `n` bytes at `a`. -/
def Dev.rd (d : Dev) (n a : Nat) : Nat := leNat (d.rdBytes a n)

/-- The 64-bit word at `a`. -/
def Dev.rd64 (d : Dev) (a : Nat) : Nat := d.rd 8 a

/-- Writes the 64-bit word at `a`. -/
def Dev.wr64 (d : Dev) (a v : Nat) : Dev := d.wrBytes a (natLE 8 v)

/-- `n` consecutive 64-bit words from `a`. -/
def Dev.rdWords (d : Dev) (a : Nat) : Nat → List Nat
  | 0 => []
  | n + 1 => d.rd64 a :: d.rdWords (a + 8) n

/-- Writes consecutive 64-bit words from `a`. -/
def Dev.wrWords (d : Dev) (a : Nat) : List Nat → Dev
  | [] => d
  | w :: ws => (d.wr64 a w).wrWords (a + 8) ws

/-- Drops every listed byte of [a, a + n): the range reads as reset. -/
def Dev.clearRange (d : Dev) (a n : Nat) : Dev :=
  { d with mem := d.mem.filter (fun e => Nat.blt e.1 a || Nat.ble (a + n) e.1) }

-- Errors in protected words (spec/17 R397).

/-- The word under key `k` of the table of bad words is written, and carries no error any more. -/
def Dev.mend (d : Dev) (k : Nat) : Dev := { d with bad := sset d.bad k 0 0 }

/-- Key of a BAR0 word in the table of bad words. -/
def bar0W (a : Nat) : Nat := 0x1000000000000 + a

/-- Upsets that a command meets: word addresses with 1 correctable or 2 not. They stay until the word is written. -/
def Dev.upset (d : Dev) (ups : List (Nat × Nat)) : Dev :=
  { d with bad := ups.foldl (fun m e => sset m e.1 (e.2 % 3) 0) d.bad }

/-- The error state of a word. -/
def Dev.badAt (d : Dev) (a : Nat) : Nat := sget d.bad a 0

-- Free values.

/-- The next free value (log entry 2). -/
def Dev.fresh (d : Dev) : Nat × Dev := (Config.freeNat d.freeCtr, { d with freeCtr := d.freeCtr + 1 })

/-- A choice among the elements of a list that the manual leaves to the device. -/
def Dev.pick {α : Type} (d : Dev) (l : List α) : Option α × Dev :=
  match l with
  | [] => (none, d)
  | a :: as => (some (nthD (a :: as) (Config.freeNat d.freeCtr % (as.length + 1)) a), { d with freeCtr := d.freeCtr + 1 })

/-- A new identity within the model. -/
def Dev.newId (d : Dev) : Nat × Dev := (d.nextId, { d with nextId := d.nextId + 1 })

-- Counters (spec/18 R417, R426).

/-- Adds `k` to raw counter `i` of a group; a wrap counts in the next one where it is chained. `n` is the fuel: the counters from `i` on. -/
def cntAdd (base : Nat) (chain : Nat) : Nat → Nat → Nat → Dev → Dev
  | 0, _, _, d => d
  | n + 1, i, k, d =>
    let f : Fld := ⟨base + 64 * i, 40, 0⟩
    let v := d.get f + k
    let d := d.set f v
    if Nat.ble (2 ^ 40) v && bit chain i && n != 0 then cntAdd base chain n (i + 1) (v / 2 ^ 40) d else d

/-- Counts `k` occurrences of the event of counter `i` of an `n`-counter group. A counter chained from below does not count its own event (R426). -/
def Dev.count (d : Dev) (base : Fld) (n : Nat) (chain : Nat) (i k : Nat) : Dev :=
  if i != 0 && bit chain (i - 1) then d else cntAdd base.key chain (n - i) i k d

def Dev.cntMac (d : Dev) (p i k : Nat) : Dev :=
  d.count (MAC.CNT.V p 0) 20 (d.get (SCT.CHAIN_MAC.CHAIN (portSlice p) (portIdx p))) i k
def Dev.cntPrs (d : Dev) (s i : Nat) : Dev := d.count (PRS.CNT.V s 0) 7 (d.get (SCT.CHAIN.CHAIN s 0)) i 1
def Dev.cntPrsBy (d : Dev) (s i k : Nat) : Dev := d.count (PRS.CNT.V s 0) 7 (d.get (SCT.CHAIN.CHAIN s 0)) i k
def Dev.cntCls (d : Dev) (s i : Nat) : Dev := d.count (CLS.CNT.V s 0) 10 (d.get (SCT.CHAIN.CHAIN s 1)) i 1
def Dev.cntClsBy (d : Dev) (s i k : Nat) : Dev := d.count (CLS.CNT.V s 0) 10 (d.get (SCT.CHAIN.CHAIN s 1)) i k
def Dev.cntFwd (d : Dev) (s i : Nat) : Dev := d.count (FWD.CNT.V s 0) 17 (d.get (SCT.CHAIN.CHAIN s 2)) i 1
def Dev.cntQry (d : Dev) (s i : Nat) : Dev := d.count (QRY.CNT.V s 0) 16 (d.get (SCT.CHAIN.CHAIN s 3)) i 1
def Dev.cntSwc (d : Dev) (s i : Nat) : Dev := d.count (SWC.CNT.V s 0) 17 (d.get (SCT.CHAIN.CHAIN s 4)) i 1
def Dev.cntEng (d : Dev) (c i : Nat) : Dev :=
  d.count (ENG.CNT.V c 0) 13 (d.get (SCT.CHAIN.CHAIN (c / 8) (5 + c % 8))) i 1
def Dev.cntEngBy (d : Dev) (c i k : Nat) : Dev :=
  d.count (ENG.CNT.V c 0) 13 (d.get (SCT.CHAIN.CHAIN (c / 8) (5 + c % 8))) i k
def Dev.cntQ (d : Dev) (p q j k : Nat) : Dev := d.count (SWC.QCNT.V p q 0) 8 0 j k
def Dev.cntBpm (d : Dev) (h i : Nat) : Dev := d.count (BPM.CNT.V h 0) 12 (d.get (CTR.CHAIN.CHAIN h)) i 1
def Dev.cntH (d : Dev) (h i : Nat) : Dev := d.count (QRY.HCNT.V h 0) 6 (d.get (CTR.CHAIN.CHAIN (2 + h))) i 1
def Dev.cntHbc (d : Dev) (k i : Nat) : Dev := d.count (HBC.CNT.V k 0) 7 (d.get (CTR.CHAIN.CHAIN (4 + k))) i 1
def Dev.cntTmu (d : Dev) (i : Nat) : Dev := d.count (TMU.CNT.V 0) 11 (d.get (CTR.CHAIN.CHAIN 8)) i 1
def Dev.cntPwr (d : Dev) (i : Nat) : Dev := d.count (PWR.CNT.V 0) 10 (d.get (CTR.CHAIN.CHAIN 9)) i 1
def Dev.cntNvs (d : Dev) (i : Nat) : Dev := d.count (NVS.CNT.V 0) 7 (d.get (CTR.CHAIN.CHAIN 10)) i 1
def Dev.cntD2d (d : Dev) (i : Nat) : Dev := d.count (D2D.CNT.V 0) 4 (d.get (CTR.CHAIN.CHAIN 11)) i 1

-- Events (spec/15 R371, R372).

/-- Event source `n` sets its bit. -/
def Dev.raise (d : Dev) (n : Nat) : Dev := d.setBitF (GLB.EVT_STAT.STAT (n / 16)) (n % 16)

/-- A source limited to once in every 1 ms (R371). -/
def Dev.raiseMs (d : Dev) (n : Nat) : Dev :=
  let ms := d.tick / 1000000 + 1
  if sget d.evtMs n 0 = ms then d else { d.raise n with evtMs := sset d.evtMs n ms 0 }

-- Sets and epochs (spec/02 R38 to R44).

/-- GLB.BOOT_STAT.STATE is RUNNING: the gate has opened (R346). -/
def Dev.gateOpen (d : Dev) : Bool := d.get GLB.BOOT_STAT.STATE == 6

/-- How many advances old epoch `e` is. -/
def Dev.age (d : Dev) (e : Nat) : Nat := (d.get GLB.EPOCH_CUR.CUR + 8 - e % 8) % 8

/-- The set of partition `n` that a packet or thread of epoch `e` uses (R39); without an epoch, the active set. -/
def Dev.setOf (d : Dev) (n : Nat) (e : Option Nat) : Nat :=
  let a := d.get (GLB.PART_CTL.ACTIVE n)
  match e with
  | none => a
  | some e =>
    if d.is (GLB.PART_CTL.RETIRING n) && Nat.blt (d.age (d.get (GLB.PART_CTL.SWITCH_EPOCH n))) (d.age e) then 1 - a else a

/-- A write to set `x` of partition `n`: refused while that set is staged and RETIRING is 1 (R41). -/
def Dev.partWrite (d : Dev) (n x : Nat) (f : Dev → Dev) : Dev :=
  if x != d.get (GLB.PART_CTL.ACTIVE n) && d.is (GLB.PART_CTL.RETIRING n) then
    (d.set (GLB.PART_CTL.WRITE_REFUSED n) 1).raise EV_PART_WRITE_REFUSED
  else f d

-- Ports (spec/03 R47 to R49).

/-- The active mode of octet `o`. -/
def Dev.octetMode (d : Dev) (o : Nat) : Nat :=
  if d.get (GLB.PART_CTL.ACTIVE (72 + o)) = 1 then d.get (MAC.OCTET_MODE.MODE_1 (o / 4) (o % 4))
  else d.get (MAC.OCTET_MODE.MODE_0 (o / 4) (o % 4))

/-- The lanes of one port in an octet mode (Table 3.2). -/
def modeLanes (m : Nat) : Nat :=
  if m = 1 then 8 else if m = 2 then 4 else if m = 3 then 2 else 1

/-- The rate of a port in Gb/s by octet mode (Table 3.2). -/
def modeGbps (m : Nat) : Nat :=
  if m = 1 then 1600 else if m = 2 then 800 else if m = 3 then 400 else if m = 4 then 200
  else if m = 5 then 100 else if m = 6 then 50 else if m = 7 then 25 else 0

/-- Whether a port number exists in octet mode `m`. -/
def portInMode (m p : Nat) : Bool := m != 0 && Nat.ble m 7 && p % modeLanes m == 0

/-- Whether a port exists now (R48, R49). -/
def Dev.portExists (d : Dev) (p : Nat) : Bool :=
  if Nat.blt p 256 then portInMode (d.octetMode (p / 8)) p else Nat.ble p 264

/-- The half of a port, by its slice; the management port is in half 0. -/
def portHalf (p : Nat) : Nat := portSlice p / 4

-- The time base (spec/13 R316).

/-- The ns counter in units of 2^-32 ns. -/
def Dev.now (d : Dev) : Nat := (d.tmu.sec * 1000000000 + d.tmu.ns) * 2 ^ 32 + d.tmu.frac

-- Power (spec/16 R383).

/-- Whether a domain is entering a parked state: it accepts no work (R388). Kinds: 0 cluster, 1 octet, 2 slice, 3 half, 4 device. -/
def Dev.goingDown (d : Dev) (kind i : Nat) : Bool := d.pwr.pwr.phase == .entering && d.pwr.pwr.kind == kind && d.pwr.pwr.index == i

/-- Whether a request to park a domain has its first GRANT and has not ended: the domain is entering, as far as a wake is concerned (R382, R388). -/
def Dev.entering (d : Dev) (kind i : Nat) : Bool :=
  let r := d.pwr.pwr
  (r.phase == .entering || (r.phase == .asking && r.pos != 0)) && r.kind == kind && r.index == i

/-- Whether half `h` works. -/
def Dev.halfOn (d : Dev) (h : Nat) : Bool :=
  !bit (d.get PWR.SL_STATE.HALF) h && !d.is PWR.SL_STATE.STANDBY && !d.goingDown 3 h && !d.goingDown 4 0

/-- Whether slice `s` works: neither it, nor its half, nor the device is parked. -/
def Dev.sliceOn (d : Dev) (s : Nat) : Bool := !bit (d.get PWR.SL_STATE.SLICE) s && !d.goingDown 2 s && d.halfOn (s / 4)

/-- The LINK bit of a port. A recirculation port, which has no PCS (R78), counts as up while its slice works, although its bit stays 0 (log entry 106). -/
def Dev.linkUp (d : Dev) (p : Nat) : Bool := d.is (MAC.PORT_STAT.LINK p) || (Nat.ble 257 p && d.sliceOn (portSlice p))

/-- Whether block `b` of a domain has granted a request that has not ended: it stays quiesced (R386). -/
def Dev.granted (d : Dev) (kind i b : Nat) : Bool :=
  let r := d.pwr.pwr
  r.kind == kind && r.index == i && (r.phase == .entering || ((r.phase == .asking || r.phase == .undoing) && Nat.blt b r.pos))

/-- Whether the switch core of slice `s` works; the management port's part of it never parks. -/
def Dev.swcOn (d : Dev) (s : Nat) : Bool := d.sliceOn s && !d.granted 2 s 8
def Dev.portOn (d : Dev) (p : Nat) : Bool := p == 256 || d.swcOn (portSlice p)

/-- Whether engine `e` takes no work for a request to park its cluster or its slice. -/
def Dev.engineQuiet (d : Dev) (e : Nat) : Bool := d.granted 0 (e / 8) (1 + e % 8) || d.granted 2 (e / 64) (e / 8 % 8)

/-- Whether block `b` of slice `s` works: the slice does, and the block has granted no request to park it (R386). -/
def Dev.blockOn (d : Dev) (s b : Nat) : Bool := d.sliceOn s && !d.granted 2 s b

/-- Whether cluster `c` and its slice work. -/
def Dev.clusterOn (d : Dev) (c : Nat) : Bool := !bit (d.get PWR.CL_STATE.PARKED) c && !d.goingDown 0 c && d.sliceOn (c / 8)

/-- The state of octet `o`: 0 ON, 1 PARKED, 2 OFF. -/
def Dev.octetSt (d : Dev) (o : Nat) : Nat := bits (d.get PWR.OCT_STATE.ST) (2 * o + 1) (2 * o)

/-- Whether a domain is parked or off. -/
def Dev.domOff (d : Dev) (kind i : Nat) : Bool :=
  match kind with
  | 0 => bit (d.get PWR.CL_STATE.PARKED) i
  | 1 => d.octetSt i != 0
  | 2 => bit (d.get PWR.SL_STATE.SLICE) i
  | 3 => bit (d.get PWR.SL_STATE.HALF) i
  | _ => d.is PWR.SL_STATE.STANDBY

/-- A wake reaches a domain: a parked one begins its exit; one that is entering will follow at once (R388). -/
def Dev.wake (d : Dev) (kind i : Nat) : Dev :=
  if d.entering kind i then
    if d.pwr.pwr.woken then d else { d.cntPwr 5 with pwr.pwr := { d.pwr.pwr with woken := true } }
  else if d.domOff kind i && !d.pwr.waking.contains (kind, i) then { d with pwr.waking := d.pwr.waking ++ [(kind, i)] }
  else d

-- The fault tracker (spec/17 R399 to R405).

/-- Word address of word `w` of retirement-map entry `i` (Table 17.6). -/
def mapA (i w : Nat) : Nat := psA (0x1000 + 16 * i + 8 * w)

/-- Whether retirement-map entry `i` is valid. -/
def Dev.mapValid (d : Dev) (i : Nat) : Bool := bit (d.rd64 (mapA i 1)) 63

/-- The lowest entry at or above `i` that is not valid, looking at `n` entries (R404). -/
def Dev.mapFree (d : Dev) : Nat → Nat → Option Nat
  | 0, _ => none
  | n + 1, i => if d.mapValid i then d.mapFree n (i + 1) else some i

/-- The number of valid entries of the retirement map: every valid entry has its top byte listed. -/
def Dev.mapCount (d : Dev) : Nat :=
  (d.mem.filter (fun e => Nat.ble (mapA 0 0) e.1 && Nat.blt e.1 (mapA 65536 0) && e.1 % 16 == mapA 0 0 % 16 + 15
    && Nat.ble 128 e.2.toNat)).length

/-- Entries that wait to be written to the map; writes of the header take no slot of it. -/
def Dev.mapWaiting (d : Dev) : Nat := (d.flt.mapQ.filter (fun m => m.slot.isNone)).length

/-- Queues a retirement-map entry, or counts it lost (R405). -/
def Dev.mapAdd (d : Dev) (cls loc count action : Nat) : Dev :=
  if Nat.blt d.flt.mapQ.length 64 && Nat.blt (d.mapCount + d.mapWaiting) 65536 then
    { d with flt.mapQ := d.flt.mapQ ++ [MapW.mk none (cls + loc % 2 ^ 40 * 2 ^ 8 + count % 2 ^ 16 * 2 ^ 48)
        (d.rd64 (psA 8) % 2 ^ 32 + action * 2 ^ 32 + 2 ^ 63) 0] }
  else (d.cntNvs 3).raise EV_FLT_MAP_LOST

/-- Whether a resource is retired. -/
def Dev.isRetired (d : Dev) (cls loc : Nat) : Bool := d.flt.retired.contains (cls, loc)

/-- The entry with the earliest start. -/
def oldestTrack : List Track → Option Track
  | [] => none
  | t :: ts => match oldestTrack ts with
    | none => some t
    | some u => if Nat.ble t.t0 u.t0 then some t else some u

/-- Marks a resource as retired where its class keeps such a mark: not for classes 4 and 5, nor where the row was repaired. -/
def Dev.markRetired (d : Dev) (cls loc action : Nat) : Dev :=
  if cls != 4 && cls != 5 && action != 1 then { d with flt.retired := d.flt.retired ++ [(cls, loc)] } else d

/-- Records a lasting fault (R401). The answer says whether the class's action is to be taken. `action` is the ACTION value where it is. -/
def Dev.lasting (d : Dev) (cls loc count action : Nat) : Dev × Bool :=
  let d := (d.raise EV_FLT_LASTING).cntNvs 0
  if d.is (GLB.FLT_CFG.RETIRE_EN cls) then (((d.cntNvs 1).mapAdd cls loc count action).markRetired cls loc action, true)
  else (d.mapAdd cls loc count 2, false)

/-- The fault tracker holds these entries. -/
def Dev.setTracks (d : Dev) (l : List Track) : Dev := { d with flt.tracks := l }

/-- The entries of a full tracker without its oldest. -/
def dropOldest (l : List Track) : List Track :=
  match oldestTrack l with
  | none => l
  | some o => match takeFirst (fun t => decide (t = o)) l with
    | none => l
    | some (_, r) => r

/-- Makes room for one more tracker entry beside `live` (R400). -/
def Dev.trackRoom (d : Dev) (live : List Track) : List Track × Dev :=
  if Nat.blt live.length 1024 then (live, d) else (dropOldest live, (d.cntNvs 2).raiseMs EV_FLT_TRACK_FULL)

/-- Counts one error against a resource (R399, R400). The answer says whether the fault has become lasting with its action to be taken. -/
def Dev.errCount (d : Dev) (cls loc action : Nat) : Dev × Bool :=
  if d.isRetired cls loc then (d, false)
  else
    let win := d.get (GLB.FLT_CFG.WINDOW_MS cls) * 1000000
    let thr := d.get (GLB.FLT_CFG.THRESH cls)
    let isIt := fun (t : Track) => t.cls == cls && t.loc == loc
    let live := d.flt.tracks.filter (fun t => !(isIt t) || Nat.blt d.tick (t.t0 + win))
    match live.find? isIt with
    | some t =>
      if Nat.ble thr (t.count + 1) then (d.setTracks (live.filter (fun u => !(isIt u)))).lasting cls loc (t.count + 1) action
      else (d.setTracks (mapFirst isIt (fun u => { u with count := u.count + 1 }) live), false)
    | none =>
      let (room, d) := d.trackRoom live
      if Nat.ble thr 1 then (d.setTracks room).lasting cls loc 1 action
      else (d.setTracks (room ++ [⟨cls, loc, d.tick, 1⟩]), false)

/-- Counts an error whose class has no action of its own to take. -/
def Dev.err (d : Dev) (cls loc : Nat) : Dev := (d.errCount cls loc 2).1

-- Rows of HBM (spec/17 R403).

/-- LOCATION of the row that holds a device address (Table 17.2, class 7). -/
def hbmLoc (a : Nat) : Nat := (Config.hbmRow a).toNat + a / 0x1000000000 % 2 * 2 ^ 30

/-- Whether the `n` bytes at `a` touch the row at `l`. -/
def touchesRow (l a n : Nat) : Bool := (List.range ((a % 64 + n + 63) / 64)).any (fun i => hbmLoc (a / 64 * 64 + 64 * i) == l)

/-- Whether an access to the word at `a` waits for a repair of its row. -/
def Dev.rowWaits (d : Dev) (a : Nat) : Bool := d.flt.repairs.any (fun l => l == hbmLoc a)

/-- Whether an access to the `n` bytes at `a` waits for a repair. -/
def Dev.areaWaits (d : Dev) (a n : Nat) : Bool := d.flt.repairs.any (fun l => touchesRow l a n)

/-- Whether an access to one of some words waits for a repair. -/
def Dev.anyWaits (d : Dev) (l : List Nat) : Bool := l.any d.rowWaits

/-- A repair of the row at `l` begins. -/
def Dev.startRepair (d : Dev) (l : Nat) : Dev :=
  { d with flt.repairs := d.flt.repairs ++ [l], flt.repairAt := sset d.flt.repairAt l (d.tick, 0) (0, 0) }

/-- Bytes written to HBM: at once, or after the repair of a row that they meet (R403, log entry 130). -/
def Dev.hbmPut (d : Dev) (a : Nat) (bs : List Byte) : Dev :=
  if d.areaWaits a bs.length then { d with flt.posted := d.flt.posted ++ [⟨a, false, bs, 0⟩] } else d.wrBytes a bs

/-- `v` added to the 64-bit word of HBM at `a`, as `hbmPut`. -/
def Dev.hbmAdd (d : Dev) (a v : Nat) : Dev :=
  if d.rowWaits a then { d with flt.posted := d.flt.posted ++ [⟨a, true, natLE 8 v, 0⟩] } else d.wr64 a ((d.rd64 a + v) % 2 ^ 64)

/-- A write that waited is made. -/
def Posted.land (d : Dev) (p : Posted) : Dev :=
  if p.add then d.wr64 p.addr ((d.rd64 p.addr + leNat p.bytes) % 2 ^ 64) else d.wrBytes p.addr p.bytes

/-- The device as it is once the repairs are over: what a read that waits for one finds (log entry 130). -/
def Dev.landed (d : Dev) : Dev := d.flt.posted.foldl Posted.land d

/-- The device that a read of the `n` bytes at `a` finds. -/
def Dev.readsAt (d : Dev) (a n : Nat) : Dev := if d.areaWaits a n then d.landed else d

-- Lower layers' retries (spec/17 R407).

/-- Whether a retry is in progress at tick `now`: until it succeeds, or for the `w` ns that the layer has. -/
def Try.on (t : Try) (now w : Nat) : Bool := t.n != 0 && Nat.blt now (if t.endAt = 0 then t.t0 + w else t.endAt)

/-- HBM commands of half `h` are being retried, or a row of it is under repair (R403). -/
def Dev.hbmRetrying (d : Dev) (h : Nat) : Bool :=
  d.flt.hbmTry.any (fun e => e.1 / 2 == h && e.2.on d.tick 2000) || d.flt.repairs.any (fun l => l / 2 ^ 30 % 2 == h)

/-- Die-to-die control flits are being replayed. -/
def Dev.d2dRetrying (d : Dev) : Bool := d.flt.d2dTry.any (fun e => e.2.on d.tick 5000)

/-- No lane group of the die-to-die link works (R310). -/
def Dev.linkGone (d : Dev) : Bool := d.get (SWC.HALF_STAT.GROUP_FAIL 0) == 0xFFFF

-- Host accesses (spec/15 R362 to R366, spec/16 R383, spec/19 R429, R430).

/-- Records a host access error (Table 15.4). -/
def Dev.hostNote (d : Dev) (f : Fld) (bar addr : Nat) : Dev :=
  ((d.set f 1).set GLB.HOST_ERR_ADDR.BAR bar).set GLB.HOST_ERR_ADDR.ADDR addr

/-- Records a host access error and raises its event (R364, R365). -/
def Dev.hostErr (d : Dev) (f : Fld) (bar addr : Nat) : Dev := (d.hostNote f bar addr).raise EV_HOST_ACCESS_ERR

/-- Turns an access away: a write discarded by R366 raises no event. -/
def Dev.hostDeny (d : Dev) (f : Fld) (bar addr : Nat) : Dev :=
  if f = GLB.HOST_ERR.BOOT_DROP then d.hostNote f bar addr else d.hostErr f bar addr

/-- The data of a host read's completion. -/
def Dev.hostRead (d : Dev) (v : List Nat) : Dev := { d with host.hostData := v }

/-- Whether half `h`, slice `s`, cluster `c` is parked. -/
def Dev.halfParked (d : Dev) (h : Nat) : Bool := d.domOff 3 h || d.domOff 4 0
def Dev.sliceParked (d : Dev) (s : Nat) : Bool := d.domOff 2 s || d.halfParked (s / 4)
def Dev.clusterParked (d : Dev) (c : Nat) : Bool := d.domOff 0 c || d.sliceParked (c / 8)

/-- Whether the MAC registers at offset `o` of slice `s` belong to a parked domain: those of a port or an octet to the octet; the management port never parks. -/
def Dev.macOff (d : Dev) (s o : Nat) : Bool :=
  let port := fun n => if n = 32 then false else d.sliceParked s || (Nat.blt n 32 && d.octetSt (4 * s + n / 8) != 0)
  if Nat.ble 0x4000 o && Nat.blt o 0x6200 then port ((o - 0x4000) / 0x100)
  else if Nat.ble 0x1000 o && Nat.blt o 0x1880 then port ((o - 0x1000) / 0x40)
  else d.sliceParked s || (Nat.blt o 0x50 && d.octetSt (4 * s + o / 4 % 4) != 0)

/-- Whether the block that holds BAR0 offset `a` is parked (Tables 19.1 and 19.2). -/
def Dev.bar0Off (d : Dev) (a : Nat) : Bool :=
  if Nat.blt a 0x500000 then false
  else if Nat.blt a 0x700000 then d.halfParked (a / 0x80000 % 2)
  else if Nat.blt a 0x1000000 then false
  else if Nat.blt a 0x3000000 then
    let s := (a - 0x1000000) / 0x400000
    let o := a % 0x400000
    if Nat.blt o 0x80000 then d.macOff s o
    else if Nat.ble 0x280000 o && Nat.blt o 0x300000 then d.clusterParked (8 * s + (o - 0x280000) / 0x10000)
    else d.sliceParked s
  else d.clusterParked ((a - 0x3000000) / 0x10000)

/-- The error of an access to BAR0 offset `a`, if it does not reach its target. -/
def Dev.bar0Err (d : Dev) (a : Nat) : Option Fld :=
  if Nat.ble (d.get GLB.BOOT_STAT.STATE) 5 && Nat.ble 0x100000 a then some GLB.HOST_ERR.BOOT_DROP
  else if (Nat.ble 0x800000 a && Nat.blt a 0x1000000) || Nat.ble 0x3400000 a then some GLB.HOST_ERR.UNMAPPED
  else if d.bar0Off a then some GLB.HOST_ERR.PARKED
  else none

/-- BAR2 offset of a device address (R368). -/
def Dev.bar2Off (d : Dev) (a : Nat) : Nat :=
  (a + 2 ^ 48 - (d.get GLB.WIN_BASE_HI.HI * 2 ^ 32 + d.get GLB.WIN_BASE_LO.LO * 2 ^ 30)) % 2 ^ 48

/-- Whether offset `o` of a slice's table space holds a structure (Table 19.8). -/
def inTables (o : Nat) : Bool :=
  Nat.blt o 0x1CC0000 || (Nat.ble 0x2000000 o && Nat.blt o 0x2600000) ||
    (Nat.ble 0x2800000 o && Nat.blt o 0x2C00000) || (Nat.ble 0x3000000 o && Nat.blt o 0x3400000)

/-- The error of an access to device address `a`, if it does not reach its target (Tables 15.3, 19.4 and 19.8). -/
def Dev.bar2Err (d : Dev) (a : Nat) : Option Fld :=
  let st := d.get GLB.BOOT_STAT.STATE
  if Nat.ble st 5 || (st != 6 && !d.boot.hbmOk) then some GLB.HOST_ERR.BOOT_DROP
  else if Nat.blt a 0x2000000000 then
    if Nat.ble 0xC00000000 (a % 0x1000000000) then some GLB.HOST_ERR.UNMAPPED
    else if d.halfParked (a / 0x1000000000) then some GLB.HOST_ERR.PARKED else none
  else if Nat.ble 0x4000000000 a && Nat.blt a 0x4020000000 then
    let s := (a - 0x4000000000) / 0x4000000
    let o := a % 0x4000000
    if !inTables o then some GLB.HOST_ERR.UNMAPPED
    else if (if Nat.ble 0x2800000 o then d.clusterParked (8 * s + o / 0x80000 % 8) else d.sliceParked s) then some GLB.HOST_ERR.PARKED
    else none
  else if Nat.ble 0x8000000000 a && Nat.blt a 0x8001000000 then none
  else some GLB.HOST_ERR.UNMAPPED

/-- The device is in cold reset (Table 14.2). -/
def Dev.inCold (d : Dev) : Bool := d.boot.phase == .reset

/-- The endpoint takes memory requests: the Command register lets it, both BARs are assigned, and it is in D0 (R361, R367). -/
def PcieCfg.live (c : PcieCfg) : Bool := c.memEn && c.bar0.isSome && c.bar2.isSome && !c.d3hot

/-- No host access arrives: cold reset holds the endpoint too (Table 14.2), its BARs are not in force (R367), or the boundary cells hold its lanes (R376, log entry 96). -/
def Dev.held (d : Dev) : Bool := d.inCold || !d.host.pcie.live || d.host.balls

/-- A host write of the register at BAR0 offset `a`, with effect `g` where it reaches the register. -/
def Dev.hostReg (d : Dev) (a : Nat) (g : Dev → Dev) : Dev :=
  if d.held then d
  else match d.bar0Err a with
    | some f => d.hostDeny f 0 a
    | none => g d

/-- A host write of the word at device address `a`, in an access at BAR2 offset `o` (R364). -/
def Dev.hostWord (d : Dev) (o a : Nat) (g : Dev → Dev) : Dev :=
  if d.held then d
  else match d.bar2Err a with
    | some f => d.hostDeny f 1 o
    | none => g d

/-- A command that is a host write of field `f`'s register. -/
def hostAct (s : State) (f : Fld) (g : Dev → Dev) : Out := act s always (fun d => d.hostReg (f.key / 32 * 4) g)

/-- A command that is a host write of the word at device address `a`. -/
def hostAct2 (s : State) (a : Nat) (g : Dev → Dev) : Out :=
  act s always (fun d => d.hostWord (d.bar2Off a) a g)

/-- A command that is a host read, of `n` bytes, of field `f`'s register. -/
def hostReadAct (s : State) (f : Fld) (n : Nat) (g : Dev → Dev) : Out :=
  act s (fun d => !d.held) (fun d => match d.bar0Err (f.key / 32 * 4) with
    | some e => (if e = GLB.HOST_ERR.BOOT_DROP then d else d.hostErr e 0 (f.key / 32 * 4)).hostRead [2 ^ (8 * n) - 1]
    | none => g d)

-- Frames.

/-- The frame's header window: its first 256 bytes, the received FCS after the last payload byte (R62, R78). -/
def Pkt.window (p : Pkt) : List Byte := (p.body ++ natLE 4 p.fcs).take 256

/-- FRAME_LEN: the length with its FCS (R62). -/
def Pkt.frameLen (p : Pkt) : Nat := p.body.length + 4

/-- 16 bits of the frame window in network order. -/
def Pkt.win16 (p : Pkt) (i : Nat) : Nat := beAt p.window i 2

-- Listings.

/-- The frames of the pipe with the first that meets `q` replaced. -/
def Dev.pipeSet (d : Dev) (q : Pkt → Bool) (f : Pkt → Pkt) : Dev := { d with pipe := mapFirst q f d.pipe }

/-- The pipe without the first frame that meets `q`. -/
def Dev.pipeDel (d : Dev) (q : Pkt → Bool) : Dev :=
  { d with pipe := match takeFirst q d.pipe with
    | some (_, r) => r
    | none => d.pipe }

end Sys2Proof.Machine
end

