-- ==== Sys2Proof/Machine/Bpm.lean ====
section
/-! DEFINITION. Buffer pools, ownership and reference counts (spec/11), and the ring discipline of R137 that the logs and the quarantine lists share. -/

namespace Sys2Proof.Machine

open Sys2Proof

-- The log rings (R137).

/-- A ring of records in the tables region of a half. -/
structure RingDef where
  base : Fld
  size : Fld
  wr : Fld
  rd : Fld
  half : Nat
  recSize : Nat
  event : Nat
  /-- key of the "raised until RD moves" mark -/
  key : Nat

/-- Number of records a ring holds. -/
def Dev.ringUsed (d : Dev) (r : RingDef) : Nat := subMod 32 (d.get r.wr) (d.get r.rd)

/-- Number of records of a ring that wait for the repair of a row: WR has not passed them (R137, R403). -/
def Dev.ringWaits (d : Dev) (r : RingDef) : Nat := (d.flt.posted.filter (fun p => p.ring == r.key + 1)).length

/-- Appends a record; `lost` counts one that is discarded (R137). -/
def Dev.ringAppend (d : Dev) (r : RingDef) (bytes : List Byte) (lost : Dev → Dev) : Dev :=
  let size := d.get r.size
  if size = 0 then lost d
  else if Nat.ble size (d.ringUsed r + d.ringWaits r) then
    let d := lost d
    if sget d.tbl.logRaised r.key 0 = 0 then
      { d.raise r.event with tbl.logRaised := sset d.tbl.logRaised r.key 1 0 }
    else d
  else
    let wr := d.get r.wr + d.ringWaits r
    let a := tabA r.half (d.get r.base + wr % size * r.recSize)
    if d.ringWaits r != 0 || d.areaWaits a bytes.length then { d with flt.posted := d.flt.posted ++ [⟨a, false, bytes, r.key + 1⟩] }
    else (d.wrBytes a bytes).set r.wr (wr + 1)

/-- A host write of RD (R137). -/
def Dev.ringRd (d : Dev) (r : RingDef) (v : Nat) : Dev :=
  if v % 2 ^ 32 = d.get r.rd then d
  else if Nat.ble (subMod 32 (d.get r.wr) v) (d.get r.size) then
    { d.set r.rd v with tbl.logRaised := sset d.tbl.logRaised r.key 0 0 }
  else d

/-- A write of BASE or SIZE that the device accepted leaves the ring empty (R137). -/
def Dev.ringEmpty (d : Dev) (r : RingDef) : Dev :=
  { d.set r.rd (d.get r.wr) with tbl.logRaised := sset d.tbl.logRaised r.key 0 0, flt.posted := d.flt.posted.filter (fun p => p.ring != r.key + 1) }

/-- The learn log of slice `s` (R137). -/
def learnLog (s : Nat) : RingDef :=
  ⟨FWD.LOG_BASE.OFFSET s, FWD.LOG_SIZE.SIZE s, FWD.LOG_WR.WR s, FWD.LOG_RD.RD s, s / 4, 16, EV_FWD_LOG_FULL s, s⟩

/-- The end log of half `h` (R171). -/
def endLog (h : Nat) : RingDef :=
  ⟨QRY.ENDLOG_BASE.OFFSET h, QRY.ENDLOG_SIZE.SIZE h, QRY.ENDLOG_WR.WR h, QRY.ENDLOG_RD.RD h, h, 256, EV_QRY_ENDLOG_FULL h, 8 + h⟩

/-- The quarantine list of half `h` (R281). -/
def quarList (h : Nat) : RingDef :=
  ⟨BPM.QUAR_BASE.OFFSET h, BPM.QUAR_SIZE.SIZE h, BPM.QUAR_WR.WR h, BPM.QUAR_RD.RD h, h, 8, EV_BPM_QUAR_FULL h, 16 + h⟩

/-- The ring with this key. -/
def ringWith (k : Nat) : RingDef := if Nat.blt k 8 then learnLog k else if Nat.blt k 16 then endLog (k - 8) else quarList (k - 16)

/-- Makes the waiting writes of a list that no repair holds back any more, in order; the records of one ring keep theirs (R137, R403). -/
def Dev.landPosted (d : Dev) (keep : List Posted) : List Posted → Dev
  | [] => { d with flt.posted := keep }
  | p :: ps =>
    if d.areaWaits p.addr p.bytes.length || (p.ring != 0 && keep.any (fun k => k.ring == p.ring)) then d.landPosted (keep ++ [p]) ps
    else
      let d := p.land d
      (if p.ring = 0 then d else
        let r := ringWith (p.ring - 1)
        d.set r.wr (d.get r.wr + 1)).landPosted keep ps

-- Runs of consecutive buffers.

/-- Number of buffers in runs. -/
def runsLen : List (Nat × Nat) → Nat
  | [] => 0
  | (_, n) :: r => n + runsLen r

/-- Buffer `i` of runs. -/
def runsNth : List (Nat × Nat) → Nat → Nat
  | [], _ => 0
  | (a, n) :: r, i => if i < n then a + i else runsNth r (i - n)

/-- Runs without buffer `u`. -/
def runsDel : List (Nat × Nat) → Nat → List (Nat × Nat)
  | [], _ => []
  | (a, n) :: r, u =>
    if Nat.ble a u && Nat.blt u (a + n) then
      ((a, u - a) :: (u + 1, a + n - u - 1) :: r).filter (fun x => x.2 != 0)
    else (a, n) :: runsDel r u

/-- The first `k` buffers of runs, and the rest. -/
def runsSplit : List (Nat × Nat) → Nat → List (Nat × Nat) × List (Nat × Nat)
  | [], _ => ([], [])
  | (a, n) :: r, k =>
    if k = 0 then ([], (a, n) :: r)
    else if n ≤ k then
      let (x, y) := runsSplit r (k - n)
      ((a, n) :: x, y)
    else ([(a, k)], (a + k, n - k) :: r)

/-- Whether buffer `u` is in runs. -/
def runsHas (r : List (Nat × Nat)) (u : Nat) : Bool := r.any (fun x => Nat.ble x.1 u && Nat.blt u (x.1 + x.2))

-- Pools (Table 11.1).

/-- Grains per buffer of pool `k`. -/
def poolGrains (k : Nat) : Nat :=
  match k with
  | 0 => 1 | 1 => 4 | 2 => 16 | 3 => 64 | 4 => 1 | 5 => 4 | 6 => 16 | _ => 64

/-- Buffer size of pool `k` in bytes. -/
def poolSize (k : Nat) : Nat := if k < 4 then 256 * poolGrains k else 4096 * poolGrains k

/-- Largest COUNT of pool `k`. -/
def poolMax (k : Nat) : Nat := if k < 4 then 393216 / poolGrains k else 6291456 / poolGrains k

/-- The pools in the order in which sizes are tried (R273). -/
def poolOrder : List Nat := [0, 1, 2, 4, 3, 5, 6, 7]

/-- Handle of the buffer that starts at grain `g` of pool `k` (R271). -/
def mkHandle (k g : Nat) : Nat := k * 2 ^ 29 + g

def handlePool (x : Nat) : Nat := x / 2 ^ 29 % 8
def handleIndex (x : Nat) : Nat := x % 2 ^ 29

/-- Number of the buffer within its pool. -/
def Dev.bufNo (d : Dev) (h x : Nat) : Nat :=
  (handleIndex x - d.get (BPM.POOL_CFG.BASE h (handlePool x))) / poolGrains (handlePool x)

/-- Handle of buffer `u` of pool `k`. -/
def Dev.bufHandle (d : Dev) (h k u : Nat) : Nat := mkHandle k (d.get (BPM.POOL_CFG.BASE h k) + u * poolGrains k)

/-- The check of R272. -/
def Dev.handleOk (d : Dev) (h x : Nat) : Bool :=
  let k := handlePool x
  let b := d.get (BPM.POOL_CFG.BASE h k)
  let i := handleIndex x
  x != 0xFFFFFFFF && d.is (BPM.POOL_CFG.EN h k) && i % poolGrains k == 0 &&
    Nat.ble b i && Nat.blt i (b + d.get (BPM.POOL_CFG.COUNT h k) * poolGrains k)

/-- A rejected handle is counted (R272). -/
def Dev.badHandle (d : Dev) (h : Nat) : Dev := (d.cntBpm h 6).raise (EV_BUF_BAD_HANDLE h)

-- Byte addresses of buffers. The packet SRAM lies above the 48-bit device addresses.

/-- Memory key of byte `o` of the packet SRAM of half `h`. -/
def sramA (h o : Nat) : Nat := 0x5000000000000 + h * 0x10000000 + o

/-- Memory key of byte `o` of buffer `x` (R271). -/
def Dev.bufA (d : Dev) (h x o : Nat) : Nat :=
  if handlePool x < 4 then sramA h (handleIndex x * 256 + o)
  else hbmA h (d.get (HBC.REGION.FLOW_GIB h) * 0x40000000 + handleIndex x * 4096 + o)

-- Metadata words (Table 11.2).

/-- Sets the odd parity bit of a metadata word. -/
def metaParity (w : Nat) : Nat :=
  let v := w % 2 ^ 31
  if popN 31 v % 2 = 0 then v + 2 ^ 31 else v

def metaKey (h x : Nat) : Nat := h * 2 ^ 32 + x

/-- The metadata word of a buffer. -/
def Dev.binfo (d : Dev) (h x : Nat) : Nat := sget d.buf.info (metaKey h x) 0x80000000

/-- Keys by which an upset marks the metadata word of a buffer, and the ring or cache entry that names it (R284). They lie above every address. -/
def metaA (h x : Nat) : Nat := 0x6000000000000 + metaKey h x
def entryA (h x : Nat) : Nat := 0x7000000000000 + metaKey h x

/-- Writes a metadata word with good parity. -/
def Dev.setInfo (d : Dev) (h x w : Nat) : Dev :=
  { d with buf.info := sset d.buf.info (metaKey h x) (metaParity w) 0x80000000, bad := sset d.bad (metaA h x) 0 0 }

/-- Whether a word shows a parity error by its bits. -/
def metaBad (w : Nat) : Bool := popN 32 w % 2 == 0

/-- Whether the metadata word of a buffer has a parity error (R284). -/
def Dev.metaErr (d : Dev) (h x : Nat) : Bool := metaBad (d.binfo h x) || d.badAt (metaA h x) != 0

/-- The metadata word of overflow grain `g`: that of the HBM pool that has taken it. -/
def Dev.grainInfo (d : Dev) (h g : Nat) : Nat :=
  (((List.range 4).map (fun j => d.binfo h ((4 + j) * 2 ^ 29 + g))).find? (fun w => w != 0x80000000)).getD 0x80000000

/-- The 64-bit word at device address `a`; the metadata of the HBM pools stands in the tables region (Table 19.9). -/
def Dev.see64 (d : Dev) (a : Nat) : Nat :=
  let o := a % 0x1000000000
  if Nat.blt a 0x2000000000 && Nat.ble 0xA09000000 o && Nat.blt o 0xA0B800000 then
    let g := (o - 0xA09000000) / 4
    d.grainInfo (a / 0x1000000000) g + d.grainInfo (a / 0x1000000000) (g + 1) * 2 ^ 32
  else d.rd64 a

def mREF (w : Nat) : Nat := bits w 7 0
def mOWNER (w : Nat) : Nat := bits w 19 8
def mGONE (w : Nat) : Bool := bit w 20
def mQUAR (w : Nat) : Bool := bit w 21
def mPARKED (w : Nat) : Bool := bit w 22
def mRETIRED (w : Nat) : Bool := bit w 23

/-- Writes a quarantine-list entry (R281). -/
def Dev.quarLog (d : Dev) (h x reason requester : Nat) : Dev :=
  d.ringAppend (quarList h) (natLE 8 (x + reason * 2 ^ 32 + requester * 2 ^ 36)) (fun d => d.cntBpm h 9)

def Dev.ringOf (d : Dev) (h k : Nat) : List (Nat × Nat) := sget d.buf.ring (8 * h + k) []
def Dev.cacheOf (d : Dev) (h k : Nat) : List (Nat × Nat) := sget d.buf.cache (8 * h + k) []
def Dev.setRing (d : Dev) (h k : Nat) (r : List (Nat × Nat)) : Dev := { d with buf.ring := sset d.buf.ring (8 * h + k) r [] }
def Dev.setCache (d : Dev) (h k : Nat) (r : List (Nat × Nat)) : Dev := { d with buf.cache := sset d.buf.cache (8 * h + k) r [] }

/-- Buffer `x` stands in neither ring nor cache. -/
def Dev.unlist (d : Dev) (h x : Nat) : Dev :=
  let k := handlePool x
  let u := d.bufNo h x
  (d.setRing h k (runsDel (d.ringOf h k) u)).setCache h k (runsDel (d.cacheOf h k) u)

/-- An operation that finds a metadata word with a parity error does nothing else: the buffer is quarantined, and parked where no ring or cache hands it out (R284). -/
def Dev.metaParityErr (d : Dev) (h x requester : Nat) : Dev :=
  let w := setBit (setBit (d.binfo h x) 21) 22
  ((((d.unlist h x).setInfo h x w).quarLog h x 2 requester).cntBpm h 8).raise (EV_BPM_PARITY h)

/-- A ring or cache entry with a parity error is dropped; its buffer stays out of service, quarantined and parked (R284). (Log entry 117.) -/
def Dev.handleErr (d : Dev) (h x : Nat) : Dev :=
  let d := d.setInfo h x (setBit (setBit (d.binfo h x) 21) 22)
  ({ d with bad := sset d.bad (entryA h x) 0 0 }).raise (EV_BPM_PARITY h)

/-- Whether the error mark at `a` is that of an entry of pool `k` among buffers `r`. -/
def Dev.entryBad (d : Dev) (h k : Nat) (r : List (Nat × Nat)) (a : Nat) : Bool :=
  let x := a - entryA h 0
  let u := d.bufNo h x
  Nat.ble (entryA h 0) a && Nat.blt x (2 ^ 32) && handlePool x == k && runsHas r u && d.bufHandle h k u == x

/-- Drops an entry with a parity error from the buffers `a.1`. -/
def Dev.readEntry (d : Dev) (h k : Nat) (a : List (Nat × Nat) × Dev) (e : Nat × Nat) : List (Nat × Nat) × Dev :=
  let x := e.1 - entryA h 0
  if d.entryBad h k a.1 e.1 then (runsDel a.1 (d.bufNo h x), a.2.handleErr h x) else a

/-- Entries of pool `k` that are read: those with a parity error drop out. -/
def Dev.readEntries (d : Dev) (h k : Nat) (r : List (Nat × Nat)) : List (Nat × Nat) × Dev := d.bad.foldl (d.readEntry h k) (r, d)

/-- Moves a batch of 64 handles from the ring to the cache (R274). -/
def Dev.batchIn (d : Dev) (h k : Nat) : Dev :=
  let (x, y) := runsSplit (d.ringOf h k) 64
  let (x, d) := d.readEntries h k x
  ((d.setRing h k y).setCache h k (d.cacheOf h k ++ x)).cntBpm h 11

/-- Moves a batch of 64 handles from the cache to the ring (R274). -/
def Dev.batchOut (d : Dev) (h k : Nat) : Dev :=
  let (x, y) := runsSplit (d.cacheOf h k) 64
  let (x, d) := d.readEntries h k x
  ((d.setCache h k y).setRing h k (d.ringOf h k ++ x)).cntBpm h 11

/-- One grant attempt after another from the cache of pool `k`; a quarantined handle is parked and the next one tried (R281), an entry with a parity error dropped (R284). A request that finds the cache empty takes a batch from the ring first (R274). `n` bounds the attempts. -/
def Dev.grant (d : Dev) (h k req : Nat) : Nat → Option Nat × Dev
  | 0 => (none, d)
  | n + 1 =>
    let d := if runsLen (d.cacheOf h k) = 0 then d.batchIn h k else d
    let c := d.cacheOf h k
    let len := runsLen c
    if len = 0 then (none, d)
    else
      let (r, d) := d.fresh
      let u := runsNth c (r % len)
      let x := d.bufHandle h k u
      let d := d.setCache h k (runsDel c u)
      let w := d.binfo h x
      if d.badAt (entryA h x) != 0 then (d.handleErr h x).grant h k req n
      else if d.metaErr h x then (d.metaParityErr h x req).grant h k req n
      else if mQUAR w then (d.setInfo h x (setBit w 22)).grant h k req n
      else (some x, (d.setInfo h x (1 + req * 2 ^ 8)).cntBpm h 0)

/-- A request that gets EMPTY (R276). -/
def Dev.emptyOut (d : Dev) (h : Nat) : Dev := (d.cntBpm h 1).raiseMs (EV_BPM_POOL_EMPTY h)

/-- A grant from pool `k`, or EMPTY, counted (R276). -/
def Dev.grantOr (d : Dev) (h k req : Nat) : Option Nat × Dev :=
  match (if runsLen (d.cacheOf h k) + runsLen (d.ringOf h k) = 0 then (none, d)
         else d.grant h k req (d.buf.info.length + d.bad.length + 2)) with
  | (some x, d) => (some x, d)
  | (none, d) => (none, d.emptyOut h)

/-- The pool that serves a request of `n` bytes, among pools that meet `p` (R273). -/
def Dev.poolFor (d : Dev) (h n : Nat) (p : Nat → Bool) : Option Nat :=
  if d.is (BPM.CTL.READY h) then
    poolOrder.find? (fun k => p k && d.is (BPM.POOL_CFG.EN h k) && Nat.ble n (poolSize k))
  else none

/-- A request of `n` bytes from the pools that meet `p`: a buffer, or EMPTY (R273, R276). -/
def Dev.request (d : Dev) (h req n : Nat) (p : Nat → Bool) : Option Nat × Dev :=
  match d.poolFor h n p with
  | some k => d.grantOr h k req
  | none => (none, d.emptyOut h)

/-- The retry hint of R276 for a request of `n` bytes from pool `k`. -/
def Dev.retryHint (d : Dev) (h : Nat) (k : Option Nat) : Nat :=
  match k with
  | none => 0xFFFF
  | some k =>
    let f := ((sget d.buf.freesAt (8 * h + k) []).filter (fun t => Nat.blt d.tick (t + 10000))).length
    let wait := (1000 + f) / (f + 1)
    match poolOrder.find? (fun j => Nat.blt (poolSize k) (poolSize j) && d.is (BPM.POOL_CFG.EN h j) && runsLen (d.cacheOf h j) != 0) with
    | some j => wait + j * 2 ^ 16 + 2 ^ 19
    | none => wait

/-- Adds one reference; `none` where REFCNT is 255 (R278). -/
def Dev.bref (d : Dev) (h x : Nat) : Option Dev :=
  let w := d.binfo h x
  if mREF w = 255 then none else some (d.setInfo h x (w + 1))

/-- Buffer `x`, whose REFCNT was 255, has lost a reference: the first copy that waits for one takes it (R278). -/
def Dev.refWaiter (d : Dev) (h x : Nat) : Dev :=
  let wants := fun (k : Pkt) (l : List Nat) => k.bufSlice / 4 == h && l.contains x
  let took := fun (d : Dev) => (d.bref h x).getD d
  if d.swc.adms.any (fun a => wants a.pkt a.needRef) then
    took { d with swc.adms := mapFirst (fun (a : Adm) => wants a.pkt a.needRef) (fun a => { a with needRef := a.needRef.erase x }) d.swc.adms }
  else if d.swc.crosses.any (fun c => wants c.pkt c.needRef) then
    took { d with swc.crosses := mapFirst (fun (c : Cross) => wants c.pkt c.needRef) (fun c => { c with needRef := c.needRef.erase x }) d.swc.crosses }
  else d

/-- A buffer goes to the cache, which holds 1,024 handles (R274). -/
def Dev.cachePut (d : Dev) (h k u : Nat) : Dev :=
  let d := if Nat.blt (runsLen (d.cacheOf h k)) 1024 then d else d.batchOut h k
  d.setCache h k (d.cacheOf h k ++ [(u, 1)])

/-- A free (Table 11.3). -/
def Dev.bfree (d : Dev) (h x req : Nat) (held : Bool) : Dev :=
  if !d.handleOk h x then d.badHandle h
  else
    let w := d.binfo h x
    if d.metaErr h x then d.metaParityErr h x req
    else if mREF w = 0 then
      (((d.setInfo h x (setBit w 21)).quarLog h x 0 req).cntBpm h 4).raise (EV_BUF_DOUBLE_FREE h)
    else
      let owner := mOWNER w == req && !mGONE w
      let nonOwner := (((d.setInfo h x (setBit w 21)).quarLog h x 1 req).cntBpm h 5).raise (EV_BUF_NONOWNER_FREE h)
      if !held then nonOwner
      else if Nat.ble 2 (mREF w) then
        let d := (d.setInfo h x ((if owner then setBit w 20 else w) - 1)).cntBpm h 3
        if mREF w = 255 then d.refWaiter h x else d
      else if owner || mGONE w then
        let k := handlePool x
        let w' := setBits (clrBit (w - 1) 20) 19 8 0
        let fr := d.tick :: (sget d.buf.freesAt (8 * h + k) []).filter (fun t => Nat.blt d.tick (t + 10000))
        let d := d.cntBpm h 2
        let d := { d with buf.freesAt := sset d.buf.freesAt (8 * h + k) fr [] }
        if mQUAR w then d.setInfo h x (setBit w' 22)
        else (d.setInfo h x w').cachePut h k (d.bufNo h x)
      else nonOwner

/-- Frees every handle of a list with HELD. -/
def Dev.bfreeAll (d : Dev) (h req : Nat) (xs : List Nat) : Dev := xs.foldl (fun d x => d.bfree h x req true) d

/-- Adds one internal reference, for requester `req`, to every buffer of a list. The answer lists those at 255: each counts REF_FULL, and its reference is taken when one is dropped (R278). A handle that fails the check of R272 changes nothing; a metadata word with a parity error stops the addition (R284). -/
def Dev.brefAll (d : Dev) (h req : Nat) : List Nat → List Nat × Dev
  | [] => ([], d)
  | x :: xs =>
    if !d.handleOk h x then (d.badHandle h).brefAll h req xs
    else if d.metaErr h x then (d.metaParityErr h x req).brefAll h req xs
    else match d.bref h x with
      | some d => d.brefAll h req xs
      | none =>
        let (l, d) := (d.cntBpm h 7).brefAll h req xs
        (x :: l, d)

/-- Requester number of the frame path of slice `s` (R277). -/
def framePath (s : Nat) : Nat := 0x800 + s % 4

/-- Requester number of a thread (R277). -/
def threadReq (c t : Nat) : Nat := c % 32 * 64 + t

/-- Takes `n` cells for the frame path of slice `s`, all or none (R273, R291). -/
def Dev.takeCells (d : Dev) (s : Nat) : Nat → List Nat → Option (List Nat) × Dev
  | 0, xs => (some xs.reverse, d)
  | n + 1, xs =>
    match d.request (s / 4) (framePath s) 256 (fun _ => true) with
    | (some x, d) => d.takeCells s n (x :: xs)
    | (none, d) => (none, d.bfreeAll (s / 4) (framePath s) xs)

/-- Writes a frame's bytes into its cells. -/
def Dev.fillCells (d : Dev) (h : Nat) : List Nat → List Byte → Dev
  | [], _ => d
  | x :: xs, bs => (d.wrBytes (d.bufA h x 0) (bs.take 256)).fillCells h xs (bs.drop 256)

-- Enabling the pools (R270, R274).

/-- Whether grain ranges overlap. -/
def overlaps (a n b m : Nat) : Bool := Nat.blt a (b + m) && Nat.blt b (a + n)

/-- The end of pool `k`'s grains. -/
def Dev.poolEnd (d : Dev) (h k : Nat) : Nat :=
  d.get (BPM.POOL_CFG.BASE h k) + d.get (BPM.POOL_CFG.COUNT h k) * poolGrains k

/-- The checks of R270 on one half. -/
def Dev.poolsOk (d : Dev) (h : Nat) : Bool :=
  let lim := (40 - d.get (HBC.REGION.FLOW_GIB h)) * 262144
  let en := (List.range 8).filter (fun k => d.is (BPM.POOL_CFG.EN h k))
  en.all (fun k =>
    let b := d.get (BPM.POOL_CFG.BASE h k)
    b % poolGrains k == 0 && Nat.ble 1 (d.get (BPM.POOL_CFG.COUNT h k)) && Nat.ble (d.get (BPM.POOL_CFG.COUNT h k)) (poolMax k) &&
      Nat.ble (d.poolEnd h k) (if k < 4 then 393216 else lim) &&
      en.all (fun j => j == k || (Nat.blt j 4 != Nat.blt k 4) ||
        !overlaps b (d.poolEnd h k - b) (d.get (BPM.POOL_CFG.BASE h j)) (d.poolEnd h j - d.get (BPM.POOL_CFG.BASE h j))))

/-- A write of BPM.CTL_h (Table 11.6). -/
def bpmEnableEff (h v : Nat) (d : Dev) : Dev :=
  let d := if bit v 1 then d.set (BPM.CTL.CFG_ERR h) 0 else d
  if bit v 0 then
    if d.is (BPM.CTL.EN h) then d
    else if d.poolsOk h then d.set (BPM.CTL.EN h) 1
    else (d.set (BPM.CTL.CFG_ERR h) 1).raise (EV_BPM_CFG_ERR h)
  else if (List.range 4).any (fun i => d.is (SWC.CTL.EN (4 * h + i))) || (List.range 32).any (fun i => d.is (ENG.CL_CTL.EN (32 * h + i))) then d
  else (d.set (BPM.CTL.EN h) 0).set (BPM.CTL.READY h) 0

-- Withdrawn rows (R284, R403).

/-- An HBM page over a withdrawn row is quarantined with reason 3 and RETIRED set (R284). The allocator parks a free one when it meets it (R281). -/
def Dev.quarPage (d : Dev) (h x : Nat) : Dev :=
  (d.setInfo h x (setBit (setBit (d.binfo h x) 21) 23)).quarLog h x 3 0x810

/-- Takes `f` over every page of half `h` over the row at `l`. -/
def Dev.rowPages (d : Dev) (h l : Nat) (f : Dev → Nat → Dev) : Dev :=
  [4, 5, 6, 7].foldl (fun (d : Dev) k =>
    if d.is (BPM.POOL_CFG.EN h k) then
      forN (d.get (BPM.POOL_CFG.COUNT h k)) d (fun u d =>
        let x := d.bufHandle h k u
        if touchesRow l (d.bufA h x 0) (poolSize k) then f d x else d)
    else d) d

/-- Quarantines every page of half `h` over the row at `l`. -/
def Dev.quarRow (d : Dev) (h l : Nat) : Dev := d.rowPages h l (fun d x => d.quarPage h x)

/-- Runs of pool `k`'s buffers without those a withdrawn row takes out. -/
def Dev.poolRuns (d : Dev) (h k : Nat) : List (Nat × Nat) :=
  let all := [(0, d.get (BPM.POOL_CFG.COUNT h k))]
  d.buf.info.foldl (fun r e =>
    let x := e.1 - h * 2 ^ 32
    if e.1 / 2 ^ 32 == h && handlePool x == k && mRETIRED e.2 && d.handleOk h x then runsDel r (d.bufNo h x) else r) all

/-- The pools of a half are ready: metadata free, rings in index order, caches filled. Pages over withdrawn rows take RETIRED and PARKED and stay out; the quarantine list does not change (R274, R403). -/
def bpmInitDoneEff (h : Nat) (d : Dev) : Dev :=
  let out := metaParity (2 ^ 22 + 2 ^ 23)
  let mine := fun (b k : Nat) => Nat.ble (b + h * 2 ^ 32) k && Nat.blt k (b + (h + 1) * 2 ^ 32)
  let d := { d with buf.info := d.buf.info.filter (fun e => e.1 / 2 ^ 32 != h), bad := d.bad.filter (fun e => !mine (metaA 0 0) e.1 && !mine (entryA 0 0) e.1) }
  let rows := (d.flt.retired.filter (fun r => r.1 == 7 && r.2 / 2 ^ 30 % 2 == h)).map (fun r => r.2)
  let d := rows.foldl (fun (d : Dev) l => d.rowPages h l (fun d x => d.setInfo h x out)) d
  let d := forN 8 d (fun k d =>
    if d.is (BPM.POOL_CFG.EN h k) then
      let (x, y) := runsSplit (d.poolRuns h k) 1024
      (d.setCache h k x).setRing h k y
    else (d.setCache h k []).setRing h k [])
  d.set (BPM.CTL.READY h) 1

/-- BPM_ENABLE: a write `v` of BPM.CTL_h. -/
def execBpmEnable (h v : Nat) (s : State) : Out := hostAct s (BPM.CTL.EN (h % 2)) (bpmEnableEff (h % 2) v)

/-- BPM_INIT_DONE. -/
def execBpmInitDone (h : Nat) (s : State) : Out :=
  act s (fun d => d.is (BPM.CTL.EN (h % 2)) && !d.is (BPM.CTL.READY (h % 2))) (bpmInitDoneEff (h % 2))

/-- Where the free ring of pool `k` of half `h` lies (R274). -/
def Dev.ringA (d : Dev) (h k : Nat) : Nat := tabA h (d.get (BPM.RING_BASE.OFFSET h k))

/-- RING_BATCH: a batch between cache and ring of pool `k` completes (R274). -/
def execRingBatch (h k : Nat) (s : State) : Out :=
  let h := h % 2
  let k := k % 8
  act s (fun d => d.is (BPM.CTL.READY h) && d.halfOn h && !d.areaWaits (d.ringA h k) (4 * d.get (BPM.POOL_CFG.COUNT h k)) &&
      ((Nat.blt (runsLen (d.cacheOf h k)) 128 && runsLen (d.ringOf h k) != 0) || Nat.blt 896 (runsLen (d.cacheOf h k))))
    (fun d => if Nat.blt (runsLen (d.cacheOf h k)) 128 then d.batchIn h k else d.batchOut h k)

-- Host commands (Table 11.8).

/-- A write of BPM.CMD_CTL_h with GO: registers the command and its outcome, which BPM_CMD_DONE publishes. -/
def bpmCmdEff (h v : Nat) (run : Dev → HostCmd × Dev) (d : Dev) : Dev :=
  let d := (d.set (BPM.CMD_CTL.OP h) (bits v 2 1)).set (BPM.CMD_CTL.DONE h) 0
  let (c, d) := run d
  { d with buf.cmd := sset d.buf.cmd h (some c) none }

def bpmReadMeta (h : Nat) (d : Dev) : HostCmd × Dev :=
  let x := d.get (BPM.CMD_HANDLE.HANDLE h)
  if !d.handleOk h x then ({ status := 1 }, d.badHandle h)
  else if d.metaErr h x then
    let d := d.metaParityErr h x 0x810
    ({ status := 0, data := [d.binfo h x] }, d)
  else ({ status := 0, data := [d.binfo h x] }, d)

/-- RELEASE_Q (R282). -/
def bpmReleaseQ (h : Nat) (d : Dev) : HostCmd × Dev :=
  let x := d.get (BPM.CMD_HANDLE.HANDLE h)
  let w := d.binfo h x
  if !d.handleOk h x then ({ status := 1 }, d.badHandle h)
  else if d.metaErr h x then ({ status := 0 }, d.metaParityErr h x 0x810)
  else if mRETIRED w then ({ status := 3 }, d)
  else if mPARKED w then
    let d := ((d.setInfo h x 0).setRing h (handlePool x) (d.ringOf h (handlePool x) ++ [(d.bufNo h x, 1)])).cntBpm h 10
    ({ status := 0 }, d)
  else ({ status := 0 }, (d.setInfo h x (clrBit w 21)).cntBpm h 10)

/-- The handles whose metadata word is quarantined, or shows a parity error, in half `h`. -/
def Dev.quarHandles (d : Dev) (h : Nat) : List Nat :=
  (d.buf.info.filter (fun e => e.1 / 2 ^ 32 == h && (mQUAR e.2 || metaBad e.2))).map (fun e => e.1 % 2 ^ 32) ++
    (d.bad.filter (fun e => Nat.ble (metaA h 0) e.1 && Nat.blt e.1 (metaA h 0 + 2 ^ 32))).map (fun e => e.1 - metaA h 0)

/-- The lowest handle at or after `x` in its pool among some. -/
def nextHandle (x : Nat) (l : List Nat) : Option Nat :=
  (l.filter (fun y => Nat.ble x y && handlePool y == handlePool x)).foldl (fun m y => match m with
    | none => some y
    | some z => some (min y z)) none

/-- FIND_Q: the next quarantined handle of the pool at or after CMD_HANDLE; an error that it meets in a metadata word quarantines that one first (R284). -/
def bpmFindQ (h : Nat) (d : Dev) : HostCmd × Dev :=
  let x := d.get (BPM.CMD_HANDLE.HANDLE h)
  if !d.handleOk h x then ({ status := 1 }, d.badHandle h)
  else match nextHandle x ((d.quarHandles h).filter (d.handleOk h)) with
    | some y => ({ status := 0, data := [y] }, if d.metaErr h y then d.metaParityErr h y 0x810 else d)
    | none => ({ status := 2 }, d)

def bpmIdle (h : Nat) (d : Dev) : Bool := d.is (BPM.CMD_CTL.DONE h)

/-- READ_META: a write `v` of BPM.CMD_CTL_h with GO and OP 0. -/
def execReadMeta (h v : Nat) (s : State) : Out :=
  hostAct s (BPM.CMD_CTL.GO (h % 2)) (fun d => if bpmIdle (h % 2) d then bpmCmdEff (h % 2) (setBits v 2 1 0) (bpmReadMeta (h % 2)) d else d)

/-- RELEASE_Q: as READ_META with OP 1. -/
def execReleaseQ (h v : Nat) (s : State) : Out :=
  hostAct s (BPM.CMD_CTL.GO (h % 2)) (fun d => if bpmIdle (h % 2) d then bpmCmdEff (h % 2) (setBits v 2 1 1) (bpmReleaseQ (h % 2)) d else d)

/-- FIND_Q: as READ_META with OP 2. -/
def execFindQ (h v : Nat) (s : State) : Out :=
  hostAct s (BPM.CMD_CTL.GO (h % 2)) (fun d => if bpmIdle (h % 2) d then bpmCmdEff (h % 2) (setBits v 2 1 2) (bpmFindQ (h % 2)) d else d)

/-- The effect of BPM_CMD_DONE. -/
def bpmCmdDoneEff (h : Nat) (d : Dev) : Dev :=
  match sget d.buf.cmd h none with
  | none => d
  | some c =>
    let d := { d with buf.cmd := sset d.buf.cmd h none none }
    let d := match c.data with
      | x :: _ => d.set (BPM.CMD_DATA.DATA h) x
      | [] => d
    (d.set (BPM.CMD_CTL.STATUS h) c.status).set (BPM.CMD_CTL.DONE h) 1

/-- BPM_CMD_DONE. -/
def execBpmCmdDone (h : Nat) (s : State) : Out :=
  act s (fun d => (sget d.buf.cmd (h % 2) none).isSome) (bpmCmdDoneEff (h % 2))

/-- A register write of BPM.CMD_CTL_h by any path: GO runs the command of its OP (Table 11.8). -/
def bpmCmdWrite (h v : Nat) (d : Dev) : Dev :=
  if !bit v 0 then d.set (BPM.CMD_CTL.OP h) (bits v 2 1)
  else if !bpmIdle h d then d
  else match bits v 2 1 with
    | 0 => bpmCmdEff h v (bpmReadMeta h) d
    | 1 => bpmCmdEff h v (bpmReleaseQ h) d
    | 2 => bpmCmdEff h v (bpmFindQ h) d
    | _ => bpmCmdEff h v (fun d => ({ status := 4 }, d)) d

end Sys2Proof.Machine
end

