-- ==== Sys2Proof/Machine/Hbm.lean ====
section
/-! DEFINITION. ECC on the words of the HBM stacks and of the Face, and what a lasting row fault does (spec/07 R173, spec/17 R403). -/

namespace Sys2Proof.Machine

open Sys2Proof

/-- The stack of a row. -/
def locStack (l : Nat) : Nat := 2 * (l / 2 ^ 30 % 2) + l % 2

/-- The bank of a row, its half included. -/
def locBank (l : Nat) : Nat := l % 2 ^ 13 + l / 2 ^ 30 % 2 * 2 ^ 13

/-- Whether the row of address `a` is withdrawn. -/
def Dev.rowGone (d : Dev) (a : Nat) : Bool := d.isRetired 7 (hbmLoc a)

/-- Withdraws the row at `l`, in which address `a` lies (R403). -/
def Dev.withdraw (d : Dev) (l a : Nat) : Dev :=
  let h := a / 0x1000000000 % 2
  let o := a % 0x1000000000
  let d := d.cntHbc (locStack l) 5
  if o < d.get (HBC.REGION.FLOW_GIB h) * 0x40000000 then d
  else if o < 0xA00000000 then d.quarRow h l
  else d.raise (EV_HBC_ROW_UNREPAIRED h)

/-- An ECC error counts against the row of address `a`; a lasting row is repaired or withdrawn (R399, R403). -/
def Dev.rowErr (d : Dev) (a : Nat) : Dev :=
  let l := hbmLoc a
  let spare := Nat.blt (sget d.flt.spareUsed (locBank l) 0) (Config.spareRows (locBank l))
  match d.errCount 7 l (b2n spare) with
  | (d, false) => d
  | (d, true) =>
    if spare then
      { d.startRepair l with flt.spareUsed := sset d.flt.spareUsed (locBank l) (sget d.flt.spareUsed (locBank l) 0 + 1) 0 }
    else d.withdraw l a

/-- A word read meets a correctable error: it is corrected in the data and in memory (R173). -/
def Dev.eccFix (d : Dev) (a : Nat) : Dev :=
  let h := a / 0x1000000000 % 2
  let d := { d with bad := sset d.bad a 0 0 }
  (((d.cntH h 5).raise (EV_QRY_ECC_CORR h)).cntHbc (locStack (hbmLoc a)) 2).rowErr a

/-- Poison of a failed retry is gone once it has been read (R407). -/
def Dev.unpoison (d : Dev) (a : Nat) : Dev := if d.badAt a = 3 then { d with bad := sset d.bad a 0 0 } else d

/-- A word read meets an uncorrectable error of the Bench. -/
def Dev.eccBad (d : Dev) (a : Nat) : Dev :=
  let h := a / 0x1000000000 % 2
  let d := d.unpoison a
  ((d.raise (EV_QRY_ECC_UNCORR h)).cntHbc (locStack (hbmLoc a)) 3).rowErr a

/-- Reads `n` Bench words from `a` under ECC: single-bit errors are corrected; the answer says whether a word is uncorrectable. -/
def Dev.eccRead (d : Dev) (a : Nat) : Nat → Bool × Dev
  | 0 => (false, d)
  | n + 1 =>
    let (b, d) := match d.badAt a with
      | 0 => (false, d)
      | 1 => (false, d.eccFix a)
      | _ => (true, d.eccBad a)
    let (b', d) := d.eccRead (a + 8) n
    (b || b', d)

/-- The region of half `h` for flows, in bytes (R434). -/
def Dev.flowBytes (d : Dev) (h : Nat) : Nat := d.get (HBC.REGION.FLOW_GIB h) * 0x40000000

/-- A read of the word at offset `o` of half `h`. A single-bit error in a tables-region word is corrected and counted; the answer says whether the word is uncorrectable (Table 17.1). The Bench's words count in its own way (R173). -/
def Dev.hbmCheck (d : Dev) (h o : Nat) : Bool × Dev :=
  let a := hbmA h o
  let f := d.flowBytes h
  if d.badAt a = 0 || (Nat.ble f o && Nat.blt o 0xA00000000) then (false, d)
  else if o < f then d.eccRead a 1
  else if d.badAt a = 1 then (false, ((d.mend a).cntHbc (locStack (hbmLoc a)) 2).rowErr a)
  else (true, ((d.unpoison a).cntHbc (locStack (hbmLoc a)) 3).rowErr a)

/-- A read of `n` words of half `h` from offset `o` on. -/
def Dev.hbmReads (d : Dev) (h o : Nat) : Nat → Bool × Dev
  | 0 => (false, d)
  | n + 1 =>
    let (b, d) := d.hbmCheck h o
    let (b', d) := d.hbmReads h (o + 8) n
    (b || b', d)

-- The Face's own words.

/-- Key of word `w` of a Face way in the table of bad words; word 8 is the tag. -/
def faceA (s set way w : Nat) : Nat := 0x3000000000000 + ((s * 16384 + set) * 16 + way) * 16 + w

/-- LOCATION of a Face way (Table 17.2, class 0). -/
def faceLoc (s set way : Nat) : Nat := s + set * 8 + way * 2 ^ 17

end Sys2Proof.Machine
end

