-- ==== Sys2Proof/Machine/Path.lean ====
section
/-! DEFINITION. What the stages of the frame path share: hashes, punts, Bench transactions, release in flow order and the hand-over to the switch core. -/

namespace Sys2Proof.Machine

open Sys2Proof

-- D3, the treatment word (Table 8.2).

def d3Class (w : Nat) : Nat := bits w 3 0
def d3Colour (w : Nat) : Nat := bits w 5 4
def d3UQ (w : Nat) : Nat := bits w 9 6
def d3MQ (w : Nat) : Nat := bits w 11 10
def d3Egress (w : Nat) : Nat := bits w 20 12
def d3Group (w : Nat) : Bool := bit w 21
def d3Tag (w : Nat) : Nat := bits w 37 22

/-- CRC-32C over bytes from a seed, with no final complement (R126, R146). -/
def hashFrom (seed : Nat) (bs : List Byte) : Nat := crcRun 0x82F63B78 seed bs

/-- The cluster that runs a flow's programs (Table 7.2). -/
def flowCluster (s h1 : Nat) : Nat := 8 * s + bits h1 30 28

/-- The stamp's seconds, ns and fractional ns. -/
def stampSec (t : Nat) : Nat := t / 2 ^ 32 / 1000000000
def stampNs (t : Nat) : Nat := t / 2 ^ 32 % 1000000000
def stampFrac (t : Nat) : Nat := t % 2 ^ 32

/-- The frame's buffers are given back by the frame path that holds them. -/
def Dev.freeBufs (d : Dev) (p : Pkt) : Dev := d.bfreeAll (p.bufSlice / 4) (framePath p.bufSlice) p.bufs

-- Release in flow order (R188).

def Dev.ordOf (d : Dev) (c : Nat) : List Ord := sget d.eng.ord c []
def Dev.setOrd (d : Dev) (c : Nat) (l : List Ord) : Dev := { d with eng.ord := sset d.eng.ord c l [] }

/-- A frame enters the switch core's admission stage. -/
def Dev.toAdm (d : Dev) (a : Adm) : Dev := { d with swc.adms := d.swc.adms ++ [a] }

/-- The admission request of a frame with the treatment of its D3 and destination. -/
def admOf (p : Pkt) : Adm :=
  let p := { p with stage := .released }
  match p.dest with
  | .group _ => { pkt := p, dest := p.dest, queue := 12 + d3MQ p.d3, srcHalf := p.slice / 4, slice := p.slice,
                  cls := d3Class p.d3, colour := d3Colour p.d3, mirrored := p.punted }
  | _ => { pkt := p, dest := p.dest, queue := d3UQ p.d3, srcHalf := p.slice / 4, slice := p.slice,
           cls := d3Class p.d3, colour := d3Colour p.d3, mirrored := p.punted }

/-- Whether an earlier packet of the same flow is still in the cluster's release order, before the entry of frame `id`. -/
def heldBack (h1 h2 id : Nat) : List Ord → Bool
  | [] => false
  | o :: os => if o.id = id then false else (o.h1 == h1 && o.h2 == h2) || heldBack h1 h2 id os

/-- Passes a released frame on: at once, or after the earlier packets of its flow (R188). -/
def Dev.passOn (d : Dev) (p : Pkt) : Dev :=
  let c := flowCluster p.slice p.h1
  let l := d.ordOf c
  if heldBack p.h1 p.h2 p.id l then
    if l.any (fun o => o.id == p.id) then
      d.setOrd c (mapFirst (fun o => o.id == p.id) (fun o => { o with pkt := some p }) l)
    else d.setOrd c (l ++ [⟨p.h1, p.h2, p.id, some p⟩])
  else (d.setOrd c (l.filter (fun o => o.id != p.id))).toAdm (admOf p)

/-- A frame leaves the path without being sent: its buffers are freed and its place in the release order ends (R30, R188). -/
def Dev.discard (d : Dev) (p : Pkt) : Dev :=
  let c := flowCluster p.slice p.h1
  (d.setOrd c ((d.ordOf c).filter (fun o => o.id != p.id))).freeBufs p

-- Punts (R73, R74).

/-- A 48-bit address held in a LO and a HI register. -/
def Dev.mac48 (d : Dev) (lo hi : Fld) : Nat := d.get lo + d.get hi * 2 ^ 32

/-- The punted form of a frame, shim and carried frame (Table 3.11, R74). -/
def Dev.puntBody (d : Dev) (p : Pkt) (reason : Nat) : List Byte :=
  let trunc := Nat.blt 9566 p.body.length
  natBE 6 (d.mac48 GLB.MGT_HOST_MAC_LO.MAC GLB.MGT_HOST_MAC_HI.MAC) ++
  natBE 6 (d.mac48 GLB.MGT_DEV_MAC_LO.MAC GLB.MGT_DEV_MAC_HI.MAC) ++
  natBE 2 0x88B5 ++
  natBE 1 0x11 ++ natBE 1 (b2n trunc * 128 + reason % 128) ++
  natBE 2 (p.epoch.getD 0 % 8 * 2 ^ 13 + p.port % 512) ++ natBE 4 p.handle ++
  natBE 2 (stampSec p.stamp) ++ natBE 4 (stampNs p.stamp) ++ natBE 2 (stampFrac p.stamp / 65536) ++
  p.body.take 9566

/-- The frame that a punt sends to port 256: a frame of the packet's unicast queue (log entry 20); cut to a length, it takes a fresh FCS. -/
def Dev.puntPkt (d : Dev) (p : Pkt) (reason : Nat) : Pkt :=
  { p with body := d.puntBody p reason, fresh := p.fresh || Nat.blt 9566 p.body.length, dest := .port 256, nh := none }

/-- The frame goes to the host in place of being forwarded. -/
def Dev.punt (d : Dev) (p : Pkt) (reason : Nat) : Dev := d.passOn (d.puntPkt p reason)

/-- A copy of the frame goes to the host (R111): it takes a reference on each buffer and is neither ordered nor mirrored. -/
def Dev.puntCopy (d : Dev) (p : Pkt) (reason : Nat) : Dev :=
  let (l, d) := d.brefAll (p.bufSlice / 4) (framePath p.bufSlice) p.bufs
  d.toAdm { admOf { d.puntPkt p reason with punted := true, launchReq := none } with kind := 4, needRef := l }

/-- Passes on a frame that carries its treatment in `dest` and D3: a drop ends it, a punt goes to the host. -/
def Dev.sendOn (d : Dev) (p : Pkt) : Dev :=
  match p.dest with
  | .drop => d.discard p
  | .punt r => d.punt p r
  | _ => d.passOn p

-- Bench transactions (R161, R162).

/-- An empty transaction record. -/
def txn0 : Txn :=
  { id := 0, kind := .lookup, slice := 0, half := 0, handle := 0xFFFFFFFF, h1 := 0, h2 := 0, fkey := [], missId := 0,
    ins := false, full := false, w0 := 0, dPkts := 0, dBad := 0, dOct := 0, dLast := none, words := [], ver := 0,
    ctx := 0, t0 := 0, done := false, rStatus := 0, rHandle := 0xFFFFFFFF, rWords := [] }

/-- A slice issues a transaction; it counts BENCH_TXNS. -/
def Dev.issue (d : Dev) (t : Txn) : Dev :=
  let (i, d) := d.newId
  ({ d with qry.txns := d.qry.txns ++ [{ t with id := i, t0 := d.tick }] }).cntQry t.slice 3

/-- Number of transactions outstanding in a slice. -/
def Dev.txnsOf (d : Dev) (s : Nat) : Nat := (d.qry.txns.filter (fun t => t.slice == s)).length

/-- A frame that the Quarry counted and that turns out bad: a LATE transaction by its handle (R171). -/
def Dev.late (d : Dev) (p : Pkt) : Dev :=
  if p.counted && p.handle != 0xFFFFFFFF then
    let isIt := fun (l : Line) => l.slice == p.slice && l.handle == p.handle && l.st != .filling
    match d.qry.lines.find? isIt with
    | some _ =>
      let bump := fun (l : Line) =>
        { l with dBad := l.dBad + 1, st := .dirty, dirtyAt := if l.st = .dirty then l.dirtyAt else d.tick }
      { d with qry.lines := mapFirst isIt bump d.qry.lines }
    | none => d.issue { txn0 with kind := .late, slice := p.slice, half := p.handle / 2 ^ 31, handle := p.handle }
  else d

end Sys2Proof.Machine
end

