-- ==== Sys2Proof/Machine/Switch.lean ====
section
/-! DEFINITION. The switch core: accounting, admission, pause, spill, multicast, mirroring, the die-to-die crossing and the scheduler (spec/12), and buoys at admission (spec/13 R328, R329). -/

namespace Sys2Proof.Machine

open Sys2Proof

-- Queues and counts (R286, R287).

def Dev.queue (d : Dev) (p q : Nat) : Queue := sget d.swc.queues (16 * p + q) {}

def Dev.setQueue (d : Dev) (p q : Nat) (x : Queue) : Dev :=
  { d with swc.queues := sset d.swc.queues (16 * p + q) x {} }

/-- The queue's own copy of its count from half `h`. -/
def qCntF (h p q : Nat) : Fld := if h = 0 then SWC.QUEUE_STAT.CNT_H0 p q else SWC.QUEUE_STAT.CNT_H1 p q

/-- The port count from half `h`. -/
def pCntF (h p : Nat) : Fld := if h = 0 then SWC.PORT_STAT.CNT_H0 p else SWC.PORT_STAT.CNT_H1 p

/-- Cells that a frame counts, FCS included (R287). -/
def Pkt.cells (p : Pkt) : Nat := (p.frameLen + 255) / 256

/-- Cells whose dequeue the source half has not learned of yet (R290). -/
def Dev.lag (d : Dev) (h p : Nat) (q : Option Nat) : Nat :=
  (d.swc.credits.filter (fun c => c.srcHalf == h && c.port == p && (q == none || q == some c.q))).foldl (fun n c => n + c.cells) 0

/-- The source half's count of a queue. -/
def Dev.srcQ (d : Dev) (h p q : Nat) : Nat := d.get (qCntF h p q) + d.lag h p (some q)

/-- The source half's count of a port. -/
def Dev.srcP (d : Dev) (h p : Nat) : Nat := d.get (pCntF h p) + d.lag h p none

def Dev.clsCells (d : Dev) (h c : Nat) : Nat := sget d.swc.classCnt (16 * h + c) 0
def Dev.grpCells (d : Dev) (p c : Nat) : Nat := sget d.swc.grpCnt (16 * p + c) 0

-- Pause generation (R292, R294).

/-- A group asks for pause: it reached XOFF and has not fallen below XON, or back-pressure holds it. -/
def Dev.grpOn (d : Dev) (p c : Nat) : Bool :=
  d.is (SWC.PG.PAUSE_EN p c) && (sget d.swc.grpXoff (16 * p + c) 0 == 1 || sget d.pwr.paceResp (portSlice p) 0 == 1)

/-- Whether priority `k` of a port is to be paused; 8 is the whole link. -/
def Dev.priOn (d : Dev) (p k : Nat) : Bool :=
  (List.range 16).any (fun c => (k == 8 || d.get (SWC.PG.PFC_PRI p c) == k) && d.grpOn p c)

/-- Whether the PAUSE_MODE of port `p` sends frames for priority `k`, 8 the whole link. -/
def Dev.pauses (d : Dev) (p k : Nat) : Bool :=
  match d.get (MAC.PORT_CFG.PAUSE_MODE p) with
  | 1 => k == 8
  | 2 => Nat.blt k 8
  | _ => false

/-- The MAC of port `p` is asked for a frame that starts or ends the pause of priority `k`. -/
def Dev.askPause (d : Dev) (p k : Nat) (on : Bool) : Dev :=
  { d with swc.pauseReq := d.swc.pauseReq ++ [(p, k, on)], swc.pauseAt := sset d.swc.pauseAt (9 * p + k) d.tick 0 }

/-- Pause frames that the MAC of port `p` has to send after a change; `again` are the priorities of which a group has just reached XOFF, whose frame is sent even where they are paused already. -/
def Dev.pauseAsk (old d : Dev) (p : Nat) (again : Nat → Bool) : Dev :=
  if Nat.ble 257 p then d
  else (List.range 9).foldl (fun (e : Dev) k =>
    let on := d.priOn p k
    if d.pauses p k && (on != (old.pauses p k && old.priOn p k) || (on && again k)) then e.askPause p k on else e) d

/-- An ingress group whose count is now `v` follows XOFF and XON (R292); `old` is the device before the change. -/
def Dev.grpFollow (old d : Dev) (p c v : Nat) : Dev :=
  let key := 16 * p + c
  let high := Nat.ble (d.get (SWC.PG.XOFF p c)) v
  let xoff := if high then 1 else if Nat.blt v (d.get (SWC.PG.XON p c)) then 0 else sget d.swc.grpXoff key 0
  let rose := high && Nat.blt (old.grpCells p c) (old.get (SWC.PG.XOFF p c)) && d.is (SWC.PG.PAUSE_EN p c)
  let d := { d with swc.grpCnt := sset d.swc.grpCnt key v 0, swc.grpXoff := sset d.swc.grpXoff key xoff 0 }
  let d := if rose then (d.cntSwc (portSlice p) 15).raiseMs (EV_SWC_XOFF (portSlice p)) else d
  Dev.pauseAsk old d p (fun k => rose && (k == 8 || d.get (SWC.PG.PFC_PRI p c) == k))

/-- Sets the count of an ingress group. -/
def Dev.setGrp (d : Dev) (p c v : Nat) : Dev := Dev.grpFollow d d p c v

/-- Counts class and ingress group of a frame down in the source half. -/
def Dev.groupsDown (d : Dev) (c : Credit) : Dev :=
  if c.inGroup then
    let k := 16 * c.srcHalf + c.cls
    let d := { d with swc.classCnt := sset d.swc.classCnt k (d.clsCells c.srcHalf c.cls - c.cells) 0 }
    if c.gPort = 511 then d else d.setGrp c.gPort c.cls (d.grpCells c.gPort c.cls - c.cells)
  else d

/-- The counts of a frame that leaves queue `q` of port `p`; a source half on the other side learns it by a credit (R287, R290). -/
def Dev.uncount (d : Dev) (p : Nat) (e : QEnt) : Dev :=
  let fq := qCntF e.srcHalf p e.q
  let fp := pCntF e.srcHalf p
  let d := (d.set fq (d.get fq - e.cells)).set fp (d.get fp - e.cells)
  let c : Credit := ⟨e.srcHalf, p, e.q, e.cells, e.cls, e.gPort, e.inGroup⟩
  if e.srcHalf = portHalf p then d.groupsDown c
  else { d with swc.credits := d.swc.credits ++ [c] }

/-- The counts of a frame that joins. -/
def Dev.countUp (d : Dev) (p : Nat) (e : QEnt) : Dev :=
  let fq := qCntF e.srcHalf p e.q
  let fp := pCntF e.srcHalf p
  let d := (d.set fq (d.get fq + e.cells)).set fp (d.get fp + e.cells)
  if e.inGroup then
    let k := 16 * e.srcHalf + e.cls
    let d := { d with swc.classCnt := sset d.swc.classCnt k (d.clsCells e.srcHalf e.cls + e.cells) 0 }
    if e.gPort = 511 then d else d.setGrp e.gPort e.cls (d.grpCells e.gPort e.cls + e.cells)
  else d

-- Leaving a queue.

/-- Cells that a queue holds on die. -/
def Queue.onDie (x : Queue) : Nat := (x.ents.filter (fun e => !e.spilled)).foldl (fun n e => n + e.cells) 0

/-- Takes the head out of a queue: its counts fall, the overflow pages it ends are freed, spill mode ends with the last frame in HBM (R295, R296), an empty queue loses its deficit (R298). -/
def Dev.popHead (d : Dev) (p q : Nat) : Option (QEnt × Dev) :=
  let x := d.queue p q
  match x.ents with
  | [] => none
  | e :: es =>
    let h := portHalf p
    let d := d.uncount p e
    let d := d.bfreeAll h (framePath (portSlice p)) e.pageEnds
    let inHbm := es.any (fun e => e.spilled)
    let d := match (if inHbm then none else x.page) with
      | some g => d.bfree h g (framePath (portSlice p)) true
      | none => d
    let x := { x with ents := es, spill := x.spill && inHbm, page := if inHbm then x.page else none,
                      pageFill := if inHbm then x.pageFill else 0, deficit := if es.isEmpty then 0 else x.deficit }
    some (e, d.setQueue p q x)

/-- Discards the head of a queue; `f` counts it. -/
def Dev.dropHead (d : Dev) (p q : Nat) (f : Dev → Dev) : Dev :=
  match d.popHead p q with
  | none => d
  | some (e, d) => f (d.freeBufs e.pkt)

/-- Discards every frame of a queue, counted in DROP_FLUSH; `n` bounds their number. -/
def Dev.flushQueue (d : Dev) (p q : Nat) : Nat → Dev
  | 0 => d
  | n + 1 => if (d.queue p q).ents.isEmpty then d else (d.dropHead p q (fun d => d.cntQ p q 6 1)).flushQueue p q n

/-- Discards every queued frame of a port (R311). -/
def Dev.flushPort (d : Dev) (p : Nat) : Dev :=
  forN 16 d (fun q d => d.flushQueue p q (d.queue p q).ents.length)

/-- A buoy at the launch stage returns to the head of its queue (R331, R334). -/
def Dev.unstage (d : Dev) (p : Nat) (f : QEnt → Bool) : Dev :=
  let l := sget d.tmu.buoys p []
  let d := { d with tmu.buoys := sset d.tmu.buoys p (l.filter (fun e => !f e)) [] }
  (l.filter f).foldl (fun d e =>
    let x := d.queue p e.q
    d.setQueue p e.q { x with ents := e :: x.ents }) d

-- Octets on the wire (R427).

/-- Adds the octets of a frame to the bandwidth window of a port: `tx` or received. -/
def Dev.bwAdd (d : Dev) (p n : Nat) (tx : Bool) : Dev :=
  let s := portSlice p
  let i := portIdx p
  if d.is (SCT.BW_CFG.EN s i) && sget d.ctr.bwLive (34 * s + i) 0 != 0 then
    let k := 34 * s + i
    let n := n + (if d.is (SCT.BW_CFG.WIRE s i) then 20 else 0)
    if tx then { d with ctr.bwTx := sset d.ctr.bwTx k (sget d.ctr.bwTx k 0 + n) 0 }
    else { d with ctr.bwRx := sset d.ctr.bwRx k (sget d.ctr.bwRx k 0 + n) 0 }
  else d

/-- A frame in transmission is cut off (R56). The manual does not fix how many octets had left: a free value. -/
def Dev.abortTx (d : Dev) (p : Nat) : Dev :=
  match sget d.mac.tx p none with
  | none => d
  | some e =>
    let (r, d) := d.fresh
    let d := (d.cntMac p 15 1).freeBufs e.pkt
    let d := d.bwAdd p (r % (e.pkt.frameLen + 1)) true
    { d with mac.tx := sset d.mac.tx p none none }

-- Buoys at admission (R75, R328, R329).

/-- The earliest time not before `now` that matches the seconds, ns and fraction of a launch request (R75). -/
def resolveLaunch (now r : Nat) : Nat :=
  let sec := now / 2 ^ 32 / 1000000000
  let low := (sec / 65536 * 65536 + r % 65536) * 1000000000
  let t := (low + r / 2 ^ 32 % 2 ^ 32) * 2 ^ 32 + r / 65536 % 65536 * 65536
  if Nat.blt t now then t + 65536 * 1000000000 * 2 ^ 32 else t

/-- QLAUNCH nibble of queue `q` of port `p` in the set of an epoch (Table 13.5). -/
def Dev.qLaunch (d : Dev) (p q : Nat) (e : Option Nat) : Nat :=
  bits (d.get (TMU.QLAUNCH.W (d.setOf 104 e) p)) (4 * q + 3) (4 * q)

/-- The buoy rules at admission of a frame or copy to queue `q` of port `p`; `none`: discarded. -/
def Dev.buoyPrep (d : Dev) (a : Adm) (p q : Nat) : Option Adm × Dev :=
  let k := a.pkt
  if a.kind = 2 then (some { a with pkt := { k with launchReq := none, launch := none } }, d)
  else
    let fixed := bit (d.qLaunch p q k.epoch) 2
    let t := match k.launchReq with
      | some r => some (resolveLaunch d.now r, if k.inj then 0 else 1)
      | none =>
        if fixed then
          some ((if k.stamped then k.stamp else d.now) + d.get (TMU.FIXED_DELAY.NS (d.setOf 104 k.epoch) p) * 2 ^ 32, 2)
        else none
    match t with
    | none => (some a, d)
    | some (t, src) =>
      if !d.is TMU.LAUNCH_CFG.EN then (some { a with pkt := { k with launchReq := none } }, d.cntTmu 5)
      else if (match k.launchReq with
          | some r => Nat.ble 1000000000 (r / 2 ^ 32 % 2 ^ 32)
          | none => false) then (none, d.cntTmu 4)
      else if Nat.blt (d.now + d.get TMU.LAUNCH_CFG.HORIZON_MS * 1000000 * 2 ^ 32) t then
        (none, (d.cntTmu 3).raiseMs EV_TMU_BUOY_FAR)
      else
        (some { a with pkt := { k with launchReq := none, launch := some (t / 2 ^ 30 * 2 ^ 30), bsrc := src, sum0 := d.get TMU.STEP_SUM.SUM } }, d)

/-- The effective launch time (R330). -/
def Dev.effT (d : Dev) (k : Pkt) : Int :=
  let t := (k.launch.getD 0 : Nat)
  if d.is TMU.CTL.STEP_MODE then t + sgn 64 (subMod 64 (d.get TMU.STEP_SUM.SUM) k.sum0) * 2 ^ 30 else t

-- Admission (R288, R289).

/-- Whether a port takes frames: its slice and the port are enabled and the link is up. -/
def Dev.portReady (d : Dev) (p : Nat) : Bool :=
  d.is (SWC.CTL.EN (portSlice p)) && d.is (SWC.PORT_CFG.EN p) && d.linkUp p && d.portExists p

/-- Table 12.2: 0 admitted, else the number of the first check that fails, from 1. -/
def Dev.admitCheck (d : Dev) (a : Adm) (p q : Nat) : Nat :=
  let k := a.pkt.cells
  let h := a.srcHalf
  let lim := d.get (SWC.QUEUE_CFG.QLIMIT p q)
  let l := if a.colour = 0 then lim
    else if a.colour = 1 then lim * d.get (SWC.QUEUE_CFG.YEL_FRAC p q) / 128
    else lim * d.get (SWC.QUEUE_CFG.RED_FRAC p q) / 128
  if !d.portReady p then 1
  else if a.kind != 2 && a.pkt.port != 511 && Nat.blt (d.get (SWC.PG.PG_LIMIT a.pkt.port a.cls)) (d.grpCells a.pkt.port a.cls + k) then 2
  else if a.kind != 2 && Nat.blt (d.get (SWC.CLASS_LIMIT.CELLS h a.cls)) (d.clsCells h a.cls + k) then 3
  else if Nat.blt (d.get (SWC.PORT_CFG.PORT_LIMIT p)) (d.srcP h p + k) then 4
  else if Nat.blt l (d.srcQ h p q + k) then 5
  else 0

/-- Counts a refusal in the slice that owns the queue (Table 12.2, R308, R315); a parked slice's counters hold (R383). -/
def Dev.countRefusal (d : Dev) (a : Adm) (p q code : Nat) : Dev :=
  let s := portSlice p
  if p != 256 && !d.sliceOn s then d
  else
  let d := if code = 1 then d.cntSwc s 12 else if code = 2 then d.cntSwc s 13 else if code = 3 then d.cntSwc s 14
    else d.cntQ p q 3 1
  if a.kind = 2 then d.cntSwc s 10 else d

/-- The rate of a port in Gb/s (Tables 3.2, 3.10, R78). -/
def Dev.portGbps (d : Dev) (p : Nat) : Nat :=
  if Nat.blt p 256 then modeGbps (d.octetMode (p / 8))
  else if p = 256 then (if d.get GLB.MGT_CFG.MODE = 1 then 100 else if d.get GLB.MGT_CFG.MODE = 2 then 25 else 0)
  else 800

/-- Whether the frame leaves in cut-through (R301): one that is known to be bad stays where the switch core discards it (R66). -/
def Dev.ctOk (d : Dev) (a : Adm) (p q : Nat) : Bool :=
  let x := d.queue p q
  (d.is (SWC.PORT_CFG.CT_ALL p) || bit (d.get (SWC.PORT_CFG.CT_CLASS p)) a.cls) && a.passing && a.kind != 2 &&
    x.ents.isEmpty && !x.spill &&
    !(d.swc.crosses.any (fun c => c.ents.any (fun e => e.1 == p && e.2.q == q && e.2.srcHalf == a.srcHalf))) &&
    a.pkt.port != 511 && Nat.ble (d.portGbps p) (d.portGbps a.pkt.port) &&
    a.pkt.launch == none && !a.pkt.inj && a.pkt.txOwner == 0 && !a.pkt.bad

/-- The other copies of frame `id` take the colour that its admission left (R289). -/
def Adm.recolour (id : Nat) (a : Adm) : Adm := if a.pkt.id = id && a.colour = 0 && a.kind != 2 then { a with colour := 1 } else a

def Residue.recolour (id : Nat) (r : Residue) : Residue := { r with adm := r.adm.recolour id }

def Dev.recolour (d : Dev) (id : Nat) : Dev :=
  { d with swc.adms := d.swc.adms.map (Adm.recolour id), swc.residues := d.swc.residues.map (Residue.recolour id)
           swc.crosses := d.swc.crosses.map (fun c => { c with resid := c.resid.map (Residue.recolour id) }) }

/-- Accounts an admitted copy to queue `q` of port `p`: its entry, with its colour after R289. Whether the tail of a bad frame arrives before its head can leave in cut-through is a free value: it is then discarded (R66, log entry 15). -/
def Dev.admitted (d : Dev) (a : Adm) (p q : Nat) : QEnt × Nat × Dev :=
  let ct := d.ctOk a p q
  let (late, d) := if ct && a.pkt.lateBad then (fun r => (r.1 % 2 == 1, r.2)) d.fresh else (false, d)
  let ct := ct && !late
  let e : QEnt := { pkt := { a.pkt with ct := ct, copy := a.kind == 2 }, q := q, srcHalf := a.srcHalf, cells := a.pkt.cells,
                    cls := a.cls, gPort := a.pkt.port, inGroup := a.kind != 2, enqAt := d.tick
                    tally := if a.kind = 1 then some (a.slice, 6) else if a.kind = 2 then some (a.slice, 9) else none }
  let d := d.countUp p e
  let m := d.get (SWC.QUEUE_CFG.MARK_FRAC p q)
  if m != 0 && a.colour == 0 && Nat.blt (d.get (SWC.QUEUE_CFG.QLIMIT p q) * m / 128) (d.srcQ a.srcHalf p q) then
    (e, 1, (d.cntQ p q 7 1).recolour a.pkt.id)
  else (e, a.colour, d)

-- Placement and spill (R295, R296).

/-- Takes `n` overflow pages, all or none. -/
def Dev.takePages (d : Dev) (h req : Nat) : Nat → List Nat → Option (List Nat) × Dev
  | 0, xs => (some xs.reverse, d)
  | n + 1, xs =>
    match d.request h req 4096 (fun k => Nat.ble 4 k) with
    | (some x, d) => d.takePages h req n (x :: xs)
    | (none, d) => (none, d.bfreeAll h req xs)

/-- Writes bytes over pages from offset `o` of the first. -/
def Dev.fillPages (d : Dev) (h : Nat) : List Nat → Nat → List Byte → Dev
  | [], _, _ => d
  | g :: gs, o, bs => (d.hbmPut (d.bufA h g o) (bs.take (4096 - o))).fillPages h gs 0 (bs.drop (4096 - o))

/-- Reads `n` bytes over pages from offset `o` of the first. -/
def Dev.readPages (d : Dev) (h : Nat) : List Nat → Nat → Nat → List Byte
  | [], _, _ => []
  | g :: gs, o, n => d.rdBytes (d.bufA h g o) (min n (4096 - o)) ++ d.readPages h gs 0 (n - (4096 - o))

/-- A frame joins a queue of its own half: on die, or in HBM. `bw`: the half's spill write rate is exhausted. -/
def Dev.join (d : Dev) (p : Nat) (e : QEnt) (bw : Bool) : Dev :=
  let q := e.q
  let s := portSlice p
  let h := portHalf p
  let x := d.queue p q
  let thr := d.get (SWC.QUEUE_SPILL.SPILL_THR p q)
  let on := thr != 0x7FFFF
  let enq := fun (d : Dev) =>
    let d := (d.cntQ p q 0 1).cntQ p q 1 e.cells
    match e.tally with
    | some (s, i) => d.cntSwc s i
    | none => d
  if x.spill || (on && Nat.ble thr x.onDie) then
    if bw then ((d.uncount p e).freeBufs e.pkt).cntSwc s 5
    else
      let n := e.pkt.frameLen
      let start := match x.page with
        | some _ => x.pageFill
        | none => 4096
      let need := (n - (4096 - start) + 4095) / 4096
      match d.takePages h (framePath s) need [] with
      | (none, d) => (((d.uncount p e).freeBufs e.pkt).cntSwc s 4).raiseMs (EV_SWC_SPILL_FULL s)
      | (some gs, d) =>
        let pages := (match x.page with
          | some g => [g]
          | none => []) ++ gs
        let o := if x.page.isSome then start else 0
        let d := d.fillPages h pages o (e.pkt.body ++ natLE 4 e.pkt.fcs)
        let fill := ((o + n - 1) % 4096 + 64) / 64 * 64
        let open_ := Nat.blt fill 4096
        let ends := if open_ then pages.dropLast else pages
        let d := d.freeBufs e.pkt
        let e := { e with spilled := true, pageEnds := ends, place := some (pages, o), pkt := { e.pkt with bufs := [] } }
        let x := { x with ents := x.ents ++ [e], spill := true, page := if open_ then pages.getLast? else none, pageFill := fill }
        enq ((d.setQueue p q x).cntQ p q 5 1)
  else
    let x := { x with ents := x.ents ++ [e] }
    enq (d.setQueue p q { x with spill := on && Nat.ble thr x.onDie })

/-- The working lane group for a flow's group (R310); none: the link is down. -/
def Dev.laneGroup (d : Dev) (g : Nat) : Option Nat :=
  ((List.range 16).map (fun i => (g + i) % 16)).find? (fun g => !bit (d.get (SWC.HALF_STAT.GROUP_FAIL 0)) g)

/-- Keys of the egress queues that a crossing serves. -/
def Cross.qs (c : Cross) : List Nat := c.ents.map (fun e => 16 * e.1 + e.2.q) ++ c.resid.map (fun r => 16 * r.port + r.adm.queue)

def Cross.key (c : Cross) : Nat := c.qs.head?.getD 0

/-- Whether a crossing shares lane group `g` towards half `h`. -/
def Cross.on (h g : Nat) (c : Cross) : Bool := c.toHalf == h && c.laneGroup == g && !c.lost

/-- The crossings of one lane group that could go next: for each egress queue, the first in order of admission. -/
def crossHeads (seen : List Nat) : List Cross → List Cross
  | [] => []
  | c :: cs =>
    let rest := crossHeads (c.qs ++ seen) cs
    if c.qs.any (fun q => seen.contains q) || !c.needRef.isEmpty then rest else c :: rest

/-- The element whose key follows `last` in a round of `m` keys. -/
def nextInRound (m last : Nat) (l : List Nat) : Option Nat :=
  let far := fun k => (k + m - last % m) % m
  l.foldl (fun b k => match b with
    | none => some k
    | some j => if Nat.blt (far k) (far j) then some k else some j) none

/-- A lane group that carries nothing towards half `h` takes the next crossing: its egress queues share it in turn (R309). -/
def Dev.crossNext (d : Dev) (h g : Nat) : Dev :=
  let mine := d.swc.crosses.filter (Cross.on h g)
  if mine.any (fun c => c.started) then d
  else match nextInRound 4240 (sget d.swc.crossRR (16 * h + g) 0) ((crossHeads [] mine).map Cross.key) with
    | none => d
    | some k =>
      { d with swc.crosses := mapFirst (fun (c : Cross) => c.on h g && c.key == k) (fun c => { c with started := true }) d.swc.crosses
               swc.crossRR := sset d.swc.crossRR (16 * h + g) (k + 1) 0 }

/-- Puts a frame on its way across the die-to-die link (R309). -/
def Dev.cross (d : Dev) (c : Cross) : Dev :=
  match d.laneGroup (bits c.pkt.h1 27 24) with
  | some g => ({ d with swc.crosses := d.swc.crosses ++ [{ c with laneGroup := g }] } : Dev).crossNext c.toHalf g
  | none => { d with swc.crosses := d.swc.crosses ++ [{ c with lost := true }] }

-- Mirroring (R307, R308).

/-- The frame with the changes of its route (R128). A TTL or hop limit of 0, which only a thread can have made (Table 6.5, step 7), becomes 255 (log entry 129). -/
def Pkt.routed (p : Pkt) : List Byte :=
  match p.nh with
  | none => p.body
  | some da =>
    let b := writeB p.body 0 (natBE 6 da ++ natBE 6 p.rmac)
    if !p.decTtl then b
    else if byteAt b p.l3 / 16 = 4 then
      let old := beAt b (p.l3 + 8) 2
      let new := (old + 0xFF00) % 65536
      let hc := beAt b (p.l3 + 10) 2
      let hc' := 65535 - csAdd (csAdd (65535 - hc) (65535 - old)) new
      writeB (writeB b (p.l3 + 8) (natBE 2 new)) (p.l3 + 10) (natBE 2 hc')
    else writeB b (p.l3 + 7) (natBE 1 ((byteAt b (p.l3 + 7) + 255) % 256))

/-- Session `m` of slice `s` sees a frame, whose bytes start at `at_.1` of its first buffer of `at_.2` bytes: the sample counter advances, and a copy of `body` may be made, which takes references at once on the buffers that it sends (R307). -/
def Dev.mirror (d : Dev) (s m : Nat) (p : Pkt) (body : List Byte) (at_ : Nat × Nat) : Dev :=
  if m = 0 || Nat.ble 8 m || !d.is (SWC.MIRROR.EN s m) || Nat.blt 255 (d.get (SWC.MIRROR.PORT s m)) ||
      (p.bad && !d.is (SWC.MIRROR.MIRROR_BAD s m)) then d
  else
    let key := 8 * s + m
    let n := sget d.swc.mirrorCnt key 0 + 1
    if Nat.blt n (d.get (SWC.MIRROR.SAMPLE_N s m)) then { d with swc.mirrorCnt := sset d.swc.mirrorCnt key n 0 }
    else
      let d := { d with swc.mirrorCnt := sset d.swc.mirrorCnt key 0 0 }
      let t := d.get (SWC.MIRROR.TRUNC s m)
      let p := { p with body := if t = 0 then body else body.take (t * 64), trunc := t != 0, copy := true, nh := none, ct := false,
                        bufs := if t = 0 then p.bufs else p.bufs.take ((at_.1 + t * 64 + at_.2 - 1) / at_.2), launch := none, launchReq := none }
      let q := d.get (SWC.MIRROR.QUEUE s m)
      let (l, d) := d.brefAll (p.bufSlice / 4) (framePath p.bufSlice) p.bufs
      d.toAdm { pkt := p, dest := .port (d.get (SWC.MIRROR.PORT s m)), queue := q, srcHalf := s / 4, slice := s, kind := 2,
                colour := 2, mirrored := true, needRef := l }

/-- The mirror copies that a frame causes at admission (R307). -/
def Dev.mirrorIn (d : Dev) (a : Adm) : Dev :=
  if a.mirrored || a.kind != 0 then d
  else
    let d := d.mirror a.slice a.pkt.mirSess a.pkt a.pkt.rx (0, 256)
    if Nat.ble a.pkt.port 264 then d.mirror a.slice (d.get (SWC.PORT_CFG.RX_MIRROR a.pkt.port)) a.pkt a.pkt.rx (0, 256) else d

-- Replication (R303 to R306).

/-- Whether copies for a queue wait in a half's residue list, or are on their way to it. -/
def Dev.residueWaits (d : Dev) (h p q : Nat) : Bool :=
  let it := fun (r : Residue) => r.half == h && r.port == p && r.adm.queue == q
  d.swc.residues.any it || d.swc.crosses.any (fun c => c.resid.any it)

/-- A copy joins the residue list of a half in the order of replication, or is dropped when the list is full (R306). -/
def Dev.addResidue (d : Dev) (r : Residue) : Dev :=
  if Nat.blt (d.swc.residues.filter (fun x => x.half == r.half)).length 16384 then
    let before := fun (x : Residue) => Nat.ble x.seq r.seq
    { d with swc.residues := d.swc.residues.takeWhile before ++ r :: d.swc.residues.dropWhile before }
  else ((d.freeBufs r.adm.pkt).cntSwc (portSlice r.port) 8).raiseMs (EV_SWC_RESIDUE_FULL r.half)

/-- The crossing that a replication gathers: admitted entries and residue copies of the other half. -/
structure Gather where
  ents : List (Nat × QEnt) := []
  resid : List Residue := []

/-- When a copy that joins a residue list is dropped (R306). -/
def Adm.due (a : Adm) (now : Nat) : Nat := now + 1000 * max 1 a.tmo

/-- A copy that holds its references is queued, or joins its half's residue list where check `code` of Table 12.2 fails or earlier copies wait (Table 12.4, R306). Answers its colour. -/
def Dev.placeCopy (d : Dev) (c : Adm) (p code : Nat) (bw : Bool) : Nat × Dev :=
  if code != 0 || (!c.passing && d.residueWaits (portHalf p) p c.queue) then
    let (i, d) := d.newId
    (c.colour, d.addResidue ⟨portHalf p, p, c, c.due d.tick, i⟩)
  else
    let (e, col, d) := d.admitted c p c.queue
    (col, d.join p e bw)

/-- Serves the member ports of a group in turn: each copy is queued, placed in the residue list or gathered for the crossing, and adds its references; one at REFCNT 255 waits for them (R278, R304). `a` carries the frame's colour, and whether its flow record still has to learn that it is bad. -/
def Dev.replicate (d : Dev) (a : Adm) (passing : Bool) (tmo : Nat) (bw : Bool) (g : Gather) : List Nat → Dev × Adm × Gather
  | [] => (d, a, g)
  | p :: ps =>
    if !d.portExists p then (d.cntSwc a.slice 11).replicate a passing tmo bw g ps
    else
      match d.buoyPrep { a with dest := .port p, kind := 1, passing := passing, mirrored := true, tmo := tmo } p a.queue with
      | (none, d) => d.replicate a passing tmo bw g ps
      | (some c, d) =>
        let code := d.admitCheck c p c.queue
        let once := fun (col : Nat) => { a with colour := col, pkt := { a.pkt with counted := false } }
        if passing && code != 0 then (d.countRefusal c p c.queue code).replicate a passing tmo bw g ps
        else if portHalf p = a.srcHalf then
          match d.brefAll a.srcHalf (framePath c.pkt.bufSlice) c.pkt.bufs with
          | ([], d) =>
            let (col, d) := d.placeCopy c p code bw
            d.replicate (once col) passing tmo bw g ps
          | (l, d) => (d.toAdm { c with needRef := l }).replicate (once a.colour) passing tmo bw g ps
        else if code != 0 || (!passing && (d.residueWaits (portHalf p) p c.queue || g.resid.any (fun r => r.port == p && r.adm.queue == c.queue))) then
          let (i, d) := d.newId
          d.replicate (once a.colour) passing tmo bw { g with resid := g.resid ++ [⟨portHalf p, p, c, c.due d.tick, i⟩] } ps
        else
          let (e, col, d) := d.admitted c p c.queue
          d.replicate (once col) passing tmo bw { g with ents := g.ents ++ [(p, e)] } ps

/-- Offset in half `h` of word `w` of group `g` (Table 12.3), and its address. -/
def Dev.groupO (d : Dev) (h g w : Nat) : Nat := 0xA00000000 + (d.get (SWC.MGRP_BASE.OFFSET h) + 64 * g + 8 * w)
def Dev.groupA (d : Dev) (h g w : Nat) : Nat := hbmA h (d.groupO h g w)

/-- Member ports of a group in port order. -/
def Dev.members (d : Dev) (h g : Nat) : List Nat :=
  (List.range 256).filter (fun p => bit (d.rd64 (d.groupA h g (p / 64))) (p % 64))

/-- Reads group `g` of half `h`'s table under ECC. The answer says whether it replicates: VALID, and no word of it is uncorrectable (R303, Table 17.1). -/
def Dev.readGroup (d : Dev) (h g : Nat) : Bool × Dev :=
  let (bad, d) := d.hbmReads h (d.groupO h g 0) 5
  (!bad && bit (d.rd64 (d.groupA h g 4)) 0, d)

/-- Whether a read of group `g` waits for the repair of a row (R403). -/
def Dev.groupWaits (d : Dev) (h g : Nat) : Bool := d.areaWaits (d.groupA h g 0) 40

/-- Whether a copy of frame `i` waits for its references, or to be placed once it has them (R278). -/
def Dev.copiesWait (d : Dev) (i : Nat) : Bool :=
  d.swc.adms.any (fun a => a.kind == 1 && a.pkt.id == i) || d.swc.crosses.any (fun c => c.pkt.id == i && !c.needRef.isEmpty)

/-- The frame path drops the references that a multicast frame received at grant, once its replication is complete (R278, R304). -/
def Dev.closeGrant (d : Dev) (i : Nat) : Dev :=
  if d.copiesWait i then d
  else match takeFirst (fun (k : Pkt) => k.id == i) d.swc.grants with
    | some (k, r) => ({ d with swc.grants := r } : Dev).freeBufs k
    | none => d

/-- Replicates a frame to a multicast group (R303, R304): copies for its own half, and one further copy across the link. -/
def Dev.multicast (d : Dev) (a : Adm) (g : Nat) (bw : Bool) : Dev :=
  let h := a.srcHalf
  let w4 := d.rd64 (d.groupA h g 4)
  let (ok, d) := d.readGroup h g
  if !ok then (d.freeBufs a.pkt).cntSwc a.slice 11
  else
    let ms := (d.members h g).filter (fun p => !(bit w4 2 && p == a.pkt.port))
    let ms := ms.filter (fun p => portHalf p == h) ++ ms.filter (fun p => portHalf p != h)
    let (d, a', ga) := d.replicate a (!bit w4 1) (bits w4 31 16) bw {} ms
    let d := if ga.ents.isEmpty && ga.resid.isEmpty then d
      else
        let (l, d) := d.brefAll h (framePath a.pkt.bufSlice) a.pkt.bufs
        d.cross { pkt := a.pkt, toHalf := 1 - h, laneGroup := 0, ents := ga.ents, needRef := l, group := some g
                  resid := if a'.colour = a.colour then ga.resid else ga.resid.map (Residue.recolour a.pkt.id) }
    if d.copiesWait a.pkt.id then { d with swc.grants := d.swc.grants ++ [a.pkt] } else d.freeBufs a.pkt

/-- The frame path gives back the transmit entry of the thread that generated the frame (R195). -/
def Dev.txDone (d : Dev) (txe : Nat) : Dev :=
  if txe = 0 then d
  else
    let c := sget d.eng.ctxs (txe - 1) {}
    { d with eng.ctxs := sset d.eng.ctxs (txe - 1) { c with txe := c.txe - 1 } {} }

/-- Admits a unicast frame or copy to port `p` (R288, R309). -/
def Dev.admitPort (d : Dev) (a : Adm) (p : Nat) (bw : Bool) : Dev :=
  if !d.portExists p then (d.freeBufs a.pkt).cntSwc a.slice 11
  else
    match d.buoyPrep a p a.queue with
    | (none, d) => d.freeBufs a.pkt
    | (some a, d) =>
      let code := d.admitCheck a p a.queue
      if code != 0 then (d.freeBufs a.pkt).countRefusal a p a.queue code
      else
        let (e, _, d) := d.admitted a p a.queue
        if portHalf p = a.srcHalf then d.join p e bw
        else d.cross { pkt := e.pkt, toHalf := portHalf p, laneGroup := 0, ents := [(p, e)], resid := [] }

/-- A multicast copy that waited for its references is queued, placed in the residue list or dropped (Table 12.4). -/
def Dev.admitCopy (d : Dev) (a : Adm) (p : Nat) (bw : Bool) : Dev :=
  if !d.portExists p then (d.freeBufs a.pkt).cntSwc a.slice 11
  else
    let code := d.admitCheck a p a.queue
    if a.passing && code != 0 then (d.freeBufs a.pkt).countRefusal a p a.queue code
    else (d.placeCopy a p code bw).2

/-- The effect of ADMIT on one entry. -/
def admitEff (a : Adm) (bw : Bool) (d : Dev) : Dev :=
  let d := (d.mirrorIn a).txDone a.txe
  let a := { a with txe := 0, mirrored := true }
  match a.dest with
  | .port p => if a.kind = 1 then (d.admitCopy a p bw).closeGrant a.pkt.id else d.admitPort a p bw
  | .group g => d.multicast a g bw
  | _ => d.freeBufs a.pkt

/-- Entry `k` of the admission stage, if it holds its references and no frame of the same flow stands before it (R29, R278). -/
def Dev.admAt (d : Dev) (k : Nat) : Option (Adm × Dev) :=
  let l := d.swc.adms
  match l.drop k with
  | [] => none
  | a :: as =>
    if !a.needRef.isEmpty || (l.take k).any (fun b => b.slice == a.slice && b.pkt.h1 == a.pkt.h1 && b.pkt.h2 == a.pkt.h2 && Nat.ble b.kind 1 && Nat.ble a.kind 1) then none
    else some (a, { d with swc.adms := l.take k ++ as })

/-- Whether the switch cores that an entry needs work: a frame from the management port needs none of slice 0's (R382, R386). -/
def Dev.swcTakes (d : Dev) (a : Adm) : Bool :=
  (a.pkt.inj || a.pkt.port == 256 || d.swcOn a.slice) && match a.dest with
    | .port p => p == 256 || !d.granted 2 (portSlice p) 8 || !d.sliceOn (portSlice p)
    | .group g => !d.groupWaits a.srcHalf g
    | _ => true

/-- ADMIT: entry `k` of the admission stage; `bw`: the half's spill write rate is exhausted; `ups`: errors in the group table's words. -/
def execAdmit (k : Nat) (bw : Bool) (ups : List (Nat × Nat)) (s : State) : Out :=
  act s (fun d => (d.admAt k).any (fun r => d.swcTakes r.1)) (fun d =>
    match (d.upset ups).admAt k with
    | some (a, d) => admitEff a bw d
    | none => d)

/-- CREDIT_RETURN: credit `k` reaches the source half (R290). -/
def execCreditReturn (k : Nat) (s : State) : Out :=
  act s (fun d => Nat.blt k d.swc.credits.length && (d.laneGroup 0).isSome) (fun d =>
    match d.swc.credits.drop k with
    | c :: cs => Dev.groupsDown { d with swc.credits := d.swc.credits.take k ++ cs } c
    | [] => d)

/-- Whether crossing `k` may end now: it was cut off, or its lane group carries it (R309) and the group table that it is replicated by can be read (R403). -/
def Dev.crossAt (d : Dev) (k : Nat) : Option (Cross × Dev) :=
  let d := match d.swc.crosses.drop k with
    | c :: _ => d.crossNext c.toHalf c.laneGroup
    | [] => d
  let l := d.swc.crosses
  match l.drop k with
  | [] => none
  | c :: cs =>
    if !c.lost && (!c.started || c.group.any (fun g => d.groupWaits c.toHalf g)) then none
    else some (c, { d with swc.crosses := l.take k ++ cs })

/-- The slice whose frame path stores an arriving copy: that of its first egress port. -/
def Cross.slice (c : Cross) : Nat :=
  match c.ents, c.resid with
  | (p, _) :: _, _ => portSlice p
  | [], r :: _ => portSlice r.port
  | [], [] => 4 * c.toHalf

/-- The admitted entries of a crossing leave their counts again. -/
def Dev.uncountAll (d : Dev) (l : List (Nat × QEnt)) : Dev := l.foldl (fun d e => d.uncount e.1 e.2) d

/-- The other half replicates a crossing copy to its own members under its own table's entry (R304): what that entry does not name leaves the counts again (log entry 103). -/
def Dev.crossMembers (d : Dev) (c : Cross) : Cross × Dev :=
  match c.group with
  | none => (c, d)
  | some g =>
    let (ok, d) := d.readGroup c.toHalf g
    if !ok then ({ c with ents := [], resid := [] }, (d.uncountAll c.ents).cntSwc c.slice 11)
    else
      let m := d.members c.toHalf g
      ({ c with ents := c.ents.filter (fun e => m.contains e.1), resid := c.resid.filter (fun r => m.contains r.port) },
        d.uncountAll (c.ents.filter (fun e => !m.contains e.1)))

/-- A frame arrives in the other half (R291, R309, R310). A replicated copy there takes a reference for each of its members' copies, and then drops the one of its grant (R304). -/
def d2dCrossEff (c : Cross) (bw : Bool) (d : Dev) : Dev :=
  let s := c.slice
  let d := d.freeBufs { c.pkt with bufs := c.pkt.bufs.filter (fun x => !c.needRef.contains x) }
  if c.lost then (d.uncountAll c.ents).cntSwc s 16
  else
    let (c, d) := d.crossMembers c
    if c.ents.isEmpty && c.resid.isEmpty then d
    else match d.takeCells s c.pkt.cells [] with
      | (none, d) => ((d.uncountAll c.ents).cntSwc s 3).raiseMs (EV_SWC_XH_EMPTY s)
      | (some xs, d) =>
        let d := d.fillCells c.toHalf xs (c.pkt.body ++ natLE 4 c.pkt.fcs)
        let put := fun (p : Pkt) => { p with bufs := xs, bufSlice := s }
        let ref := fun (d : Dev) => if c.group.isSome then (d.brefAll c.toHalf (framePath s) xs).2 else d
        let d := c.ents.foldl (fun d e => (ref d).join e.1 { e.2 with pkt := put e.2.pkt } bw) d
        let d := c.resid.foldl (fun d r => (ref d).addResidue { r with adm := { r.adm with pkt := put r.adm.pkt } }) d
        if c.group.isSome then d.freeBufs (put c.pkt) else d

/-- D2D_CROSS: crossing `k` ends; `bw` as in ADMIT. -/
def execD2dCross (k : Nat) (bw : Bool) (s : State) : Out :=
  act s (fun d => (d.crossAt k).isSome) (fun d =>
    match d.crossAt k with
    | some (c, d) => ((d2dCrossEff c bw d).closeGrant c.pkt.id).crossNext c.toHalf c.laneGroup
    | none => d)

-- The residue list (R306).

/-- Whether an earlier copy for the same queue still crosses the die-to-die link: a later one does not overtake it (R306). -/
def Dev.stillCrosses (d : Dev) (r : Residue) : Bool :=
  d.swc.crosses.any (fun c => !c.lost && c.resid.any (fun x => x.port == r.port && x.adm.queue == r.adm.queue && Nat.blt x.seq r.seq))

/-- One retry of a half's list; `held` are the queues with an earlier copy that still waits, `yel` the frames that this retry re-colours. A parked slice's copies wait with it (R383). -/
def Dev.retryResidues (d : Dev) (h : Nat) (bw : Bool) : List Residue → List (Nat × Nat) → List Nat → List Residue → Dev
  | [], _, yel, keep => { d with swc.residues := yel.foldl (fun l i => l.map (Residue.recolour i)) keep }
  | r :: rs, held, yel, keep =>
    let r := yel.foldl (fun r i => Residue.recolour i r) r
    if r.half != h || !d.portOn r.port then d.retryResidues h bw rs held yel (keep ++ [r])
    else
      let q := r.adm.queue
      if Nat.ble r.due d.tick then
        ((d.freeBufs r.adm.pkt).cntSwc (portSlice r.port) 7).retryResidues h bw rs held yel keep
      else if held.contains (r.port, q) || d.stillCrosses r || d.admitCheck r.adm r.port q != 0 then
        d.retryResidues h bw rs ((r.port, q) :: held) yel (keep ++ [r])
      else
        let (e, col, d) := d.admitted r.adm r.port q
        (d.join r.port e bw).retryResidues h bw rs held (if col = r.adm.colour then yel else r.adm.pkt.id :: yel) keep

/-- RESIDUE_RETRY of half `h`. -/
def execResidueRetry (h : Nat) (bw : Bool) (s : State) : Out :=
  act s (fun d => d.swc.residues.any (fun r => r.half == h % 2 && d.portOn r.port))
    (fun d => Dev.retryResidues { d with swc.residues := [] } (h % 2) bw d.swc.residues [] [] [])

-- Down-hold, pause, residency.

/-- DOWN_HOLD_EXPIRE of port `p` (R311). -/
def execDownHoldExpire (p : Nat) (s : State) : Out :=
  act s (fun d => d.portOn p && d.is (SWC.PORT_STAT.HOLDING p) && Nat.ble (sget d.swc.downAt p 0 + d.get (SWC.PORT_CFG.DOWN_HOLD p) * 1000000) d.tick)
    (fun d => (d.flushPort p).set (SWC.PORT_STAT.HOLDING p) 0)

/-- Whether queue `q` of port `p` is paused by a received frame (R293). -/
def Dev.queuePaused (d : Dev) (p q : Nat) : Bool :=
  let on := fun k => sget d.swc.paused (9 * p + k) 0 != 0
  match d.get (MAC.PORT_CFG.PAUSE_MODE p) with
  | 1 => on 8
  | 2 => on (d.get (SWC.QUEUE_CFG.PFC_PRI p q))
  | _ => false

/-- PAUSE_EXPIRE: the quanta of priority `k` (8 the link) of port `p` have run out (R293). -/
def execPauseExpire (p k : Nat) (s : State) : Out :=
  act s (fun d => Nat.ble k 8 && d.portOn p && sget d.swc.paused (9 * p + k) 0 != 0 && Nat.ble (sget d.swc.paused (9 * p + k) 0) (d.tick + 1))
    (fun d => { d with swc.paused := sset d.swc.paused (9 * p + k) 0 0 })

/-- PAUSE_REFRESH: the pause frame of priority `k` (8 the link) of port `p` is repeated after 32,768 quanta of 512 bit times (R292). -/
def execPauseRefresh (p k : Nat) (s : State) : Out :=
  act s (fun d => Nat.ble p 256 && d.priOn p k && d.pauses p k &&
      Nat.ble (sget d.swc.pauseAt (9 * p + k) 0 + 16777216 / max 1 (d.portGbps p)) d.tick)
    (fun d => d.askPause p k true)

/-- Whether the head of a queue has outstayed MAX_RES (R312). -/
def Dev.aged (d : Dev) (p q : Nat) (e : QEnt) : Bool :=
  let m := d.get (SWC.QUEUE_SPILL.MAX_RES p q)
  m != 0 && e.pkt.launch == none && Nat.blt (e.enqAt + m * 10000) d.tick

/-- Discards aged frames from the head of a queue; `n` bounds their number. -/
def Dev.purgeAged (d : Dev) (p q : Nat) : Nat → Dev
  | 0 => d
  | n + 1 => match (d.queue p q).ents with
    | [] => d
    | e :: _ =>
      if d.aged p q e then
        (d.dropHead p q (fun d => (d.cntQ p q 4 1).raiseMs (EV_SWC_RESIDENCY_DROP (portSlice p)))).purgeAged p q n
      else d

/-- RESIDENCY_SCAN of queue `q` of port `p`. -/
def execResidencyScan (p q : Nat) (s : State) : Out :=
  act s (fun d => Nat.ble p 264 && Nat.blt q 16 && d.portOn p) (fun d => d.purgeAged p q (d.queue p q).ents.length)

/-- Bytes of the entries read ahead. -/
def readAheadBytes (x : Queue) : Nat := (x.ents.filter (fun e => e.readAhead)).foldl (fun n e => n + e.pkt.frameLen) 0

/-- The first entry in HBM that is not read ahead. -/
def nextRead (x : Queue) : Option QEnt := x.ents.find? (fun e => e.spilled && !e.readAhead)

/-- The frame as the overflow pages give it back: nothing there detects a changed byte. A change is no rewrite, so the carried FCS, in which it would stand as one, gives its part back and does not match (R398). -/
def Pkt.readBack (k : Pkt) (bs : List Byte) : Pkt :=
  let n := k.body.length
  let b := bs.take n
  { k with body := b, fcs := Nat.xor (leNat (bs.drop n)) (crcRaw (xorBytes k.body b)) }

/-- An entry of port `p` with its bytes read from its pages. -/
def Dev.readEnt (d : Dev) (p : Nat) (e : QEnt) : QEnt :=
  match e.place with
  | none => { e with readAhead := true }
  | some (gs, o) => { e with readAhead := true, pkt := e.pkt.readBack (d.readPages (portHalf p) gs o e.pkt.frameLen) }

/-- Whether the pages of an entry of port `p` lie over a row under repair (R403). -/
def Dev.placeWaits (d : Dev) (p : Nat) (e : QEnt) : Bool := e.place.any (fun x => x.1.any (fun g => d.areaWaits (d.bufA (portHalf p) g 0) 4096))

/-- OVERFLOW_READ_DONE: the next overflow read of a queue completes into its read-ahead (R297). -/
def execOverflowReadDone (p q : Nat) (s : State) : Out :=
  act s (fun d => match nextRead (d.queue p q) with
      | some e => Nat.ble (readAheadBytes (d.queue p q) + e.pkt.frameLen) 65536 && !d.placeWaits p e
      | none => false)
    (fun d =>
      let x := d.queue p q
      d.setQueue p q { x with ents := mapFirst (fun e => e.spilled && !e.readAhead) (d.readEnt p) x.ents })

-- The scheduler (R298 to R300).

/-- Discards what may not be sent from the head of a queue: frames of a port that a mode switch took away (R51), bad frames that did not cut through (R66), aged frames (R312). -/
def Dev.purge (d : Dev) (p q : Nat) : Nat → Dev
  | 0 => d
  | n + 1 => match (d.queue p q).ents with
    | [] => d
    | e :: _ =>
      if e.flush then (d.dropHead p q (fun d => d.cntMac p 18 1)).purge p q n
      else if (e.pkt.bad || e.pkt.lateBad) && !e.pkt.ct && !e.pkt.copy then (d.dropHead p q (fun d => d.late e.pkt)).purge p q n
      else if d.aged p q e then
        (d.dropHead p q (fun d => (d.cntQ p q 4 1).raiseMs (EV_SWC_RESIDENCY_DROP (portSlice p)))).purge p q n
      else d

/-- A queue that may send its head now. -/
def Dev.eligible (d : Dev) (p q : Nat) : Bool :=
  match (d.queue p q).ents with
  | [] => false
  | e :: _ => (!e.spilled || e.readAhead) && e.pkt.launch == none && !d.queuePaused p q &&
      !((sget d.tmu.buoys p []).any (fun b => b.q == q))

/-- The head's length with FCS, 0 for an empty queue. -/
def Queue.headLen (x : Queue) : Nat :=
  match x.ents with
  | [] => 0
  | e :: _ => e.pkt.frameLen

/-- Deficit round robin among the eligible queues `qs` of one level, from the queue being visited; `n` bounds the visits. -/
def Dev.drr (d : Dev) (p lev : Nat) (qs : List Nat) (cur : Nat) (fresh : Bool) : Nat → Option (Nat × Dev)
  | 0 => none
  | n + 1 =>
    let next := match qs.find? (fun q => Nat.blt cur q) with
      | some q => some q
      | none => qs.head?
    let x := d.queue p cur
    if !fresh && qs.contains cur && Nat.ble x.headLen x.deficit then
      some (cur, { d.setQueue p cur { x with deficit := x.deficit - x.headLen } with swc.visit := sset d.swc.visit (4 * p + lev) (cur + 1) 0 })
    else
      match next with
      | none => none
      | some q =>
        let y := d.queue p q
        (d.setQueue p q { y with deficit := y.deficit + d.get (SWC.QUEUE_CFG.QUANTUM p q) * 64 }).drr p lev qs q false n

/-- The queue that the scheduler serves (R298). -/
def Dev.schedule (d : Dev) (p : Nat) : Option (Nat × Dev) :=
  let el := (List.range 16).filter (fun q => d.eligible p q)
  match [3, 2, 1, 0].find? (fun l => el.any (fun q => d.get (SWC.QUEUE_CFG.LEVEL p q) == l)) with
  | none => none
  | some l =>
    let qs := el.filter (fun q => d.get (SWC.QUEUE_CFG.LEVEL p q) == l)
    let v := sget d.swc.visit (4 * p + l) 0
    if v = 0 then d.drr p l qs 15 true 4000 else d.drr p l qs (v - 1) false 4000

/-- Shaper credit of a port brought up to now (R299). -/
def Dev.shapeNow (d : Dev) (p : Nat) : Int :=
  let r := d.get (SWC.PORT_SHAPE.RATE p)
  let cap : Int := d.get (SWC.PORT_SHAPE.BURST p) * 256 * 80
  let c := sget d.swc.shape p 0 + ((d.tick - sget d.swc.shapeAt p 0) * r : Nat)
  if cap < c then cap else c

-- Time-stamp corrections (R71, Table 3.9).

/-- Receive and transmit corrections by port, in 0.25 ns. -/
def Dev.tsCorr (d : Dev) (p : Nat) : Nat × Nat :=
  if p = 256 then (if d.get GLB.MGT_CFG.MODE = 1 then (361, 156) else (91, 58))
  else match d.octetMode (p / 8) with
    | 1 => (247, 122) | 2 => (261, 125) | 3 => (274, 128) | 4 => (288, 133)
    | 5 => (317, 142) | 6 => (354, 152) | 7 => (91, 58) | _ => (0, 0)

/-- What the transmit side adds to reach the reference plane, in 2^-32 ns. -/
def Dev.txCorr (d : Dev) (p : Nat) : Int :=
  if Nat.ble p 256 && d.is (MAC.PORT_CFG.TS_MDI p) then (((d.tsCorr p).2 : Nat) + sgn 16 (d.get (MAC.TS_ADJ.TX_ADJ p))) * 2 ^ 30 else 0

/-- When a buoy of port `p` is to start at the MAC/PCS boundary (Table 13.3, step 4). -/
def Dev.buoyStart (d : Dev) (p : Nat) (k : Pkt) : Int := d.effT k - d.txCorr p

/-- The earliest start of a buoy at the launch stage of a port, in 2^-32 ns. -/
def Dev.stagedStart (d : Dev) (p : Nat) : Option Int :=
  (sget d.tmu.buoys p []).foldl (fun m e => match m with
    | none => some (d.buoyStart p e.pkt)
    | some t => some (if d.buoyStart p e.pkt < t then d.buoyStart p e.pkt else t)) none

/-- Wire time of `n` octets with preamble and gap at a port, in 2^-32 ns. -/
def Dev.wireTime (d : Dev) (p n : Nat) : Nat := (n + 20) * 8 * 2 ^ 32 / max 1 (d.portGbps p)

/-- Whether the shaper of a port lets `n` octets go: their credit is there, or the bucket is full (R299). -/
def Dev.shapeOk (d : Dev) (p n : Nat) : Bool :=
  d.get (SWC.PORT_SHAPE.RATE p) == 0 ||
    decide (((min (n + 20) (d.get (SWC.PORT_SHAPE.BURST p) * 256) * 80 : Nat) : Int) ≤ d.shapeNow p)

/-- A shaped port spends the credit of `n` octets. -/
def Dev.shapeSpend (d : Dev) (p n : Nat) : Dev :=
  if d.get (SWC.PORT_SHAPE.RATE p) = 0 then d
  else { d with swc.shape := sset d.swc.shape p (d.shapeNow p - ((n + 20) * 80 : Nat)) 0, swc.shapeAt := sset d.swc.shapeAt p d.tick 0 }

/-- Egress port mirroring of a frame that is about to be dequeued for transmission (R307): every frame but a punted copy (R111). A copy of a spilled frame refers to its overflow pages. -/
def Dev.mirrorOut (d : Dev) (p : Nat) (e : QEnt) : Dev :=
  let k := e.pkt
  if k.punted then d
  else
    let (k, at_) := match e.place with
      | some (gs, o) => ({ k with bufs := gs, bufSlice := portSlice p }, (o, 4096))
      | none => (k, (0, 256))
    d.mirror (portSlice p) (d.get (SWC.PORT_CFG.TX_MIRROR p)) { k with bad := k.bad || k.lateBad } k.routed at_

/-- The head of queue `q` is mirrored where the port mirrors, and leaves the queue. -/
def Dev.sendHead (d : Dev) (p q : Nat) : Option (QEnt × Dev) :=
  match (d.queue p q).ents with
  | [] => none
  | e :: _ => (d.mirrorOut p e).popHead p q

/-- A broken link: the frames that still stand in the queue are lost with their cells (Table 17.1). -/
def Dev.breakLink (d : Dev) (p q : Nat) : Dev :=
  let l := (d.queue p q).ents
  (l.foldl (fun d e => (d.uncount p e).cntQ p q 6 1) d).setQueue p q {}

/-- The effect of SCHEDULE_DEQUEUE. `err`: 1 a descriptor error at the head that is served, 2 a broken queue link after it (Table 17.1). -/
def scheduleEff (p err : Nat) (d : Dev) : Dev :=
  let d := forN 16 d (fun q d => d.purge p q (d.queue p q).ents.length)
  if !d.linkUp p || !d.portExists p || !d.is (SWC.PORT_CFG.EN p) || !d.is (MAC.PORT_CFG.TX_EN p) || (sget d.mac.tx p none).isSome then d
  else
    match d.schedule p with
    | none => d
    | some (q, d') =>
      let n := (d.queue p q).headLen
      let blocked := match d.stagedStart p with
        | some t => decide (t < ((d.now + d.wireTime p n : Nat) : Int))
        | none => false
      if blocked || !d.shapeOk p n then d
      else if err = 1 then d'.dropHead p q (fun d => d.cntQ p q 6 1)
      else match d'.sendHead p q with
        | none => d
        | some (e, d') =>
          let d' := if err = 2 then d'.breakLink p q else d'
          let d' := (d'.cntQ p q 2 1).shapeSpend p n
          { d' with mac.tx := sset d'.mac.tx p (some e) none }

/-- SCHEDULE_DEQUEUE of port `p`. -/
def execScheduleDequeue (p err : Nat) (s : State) : Out :=
  act s (fun d => Nat.ble p 264 && d.portOn p) (scheduleEff p err)

end Sys2Proof.Machine
end

