-- ==== Sys2Proof/Machine/Mac.lean ====
section
/-! DEFINITION. Lanes, octets, ports and the MAC: link bring-up and loss, adaptation, frame reception, transmission, time-stamps and PTP at the MAC, the management and recirculation ports (spec/03, spec/13 R321 and R324 to R327). -/

namespace Sys2Proof.Machine

open Sys2Proof

-- Link up and down (R55, R56, R311).

/-- Whether a port may bring its link up: it exists, RX_EN is 1, its octet is on, and the boundary cells do not hold the balls (R376). -/
def Dev.canBring (d : Dev) (p : Nat) : Bool :=
  d.is (MAC.PORT_CFG.RX_EN p) && !d.host.balls &&
    (if Nat.blt p 256 then d.portExists p && d.octetSt (p / 8) == 0
     else p == 256 && (d.get GLB.MGT_CFG.MODE == 1 || d.get GLB.MGT_CFG.MODE == 2))

def Dev.setBring (d : Dev) (p n : Nat) : Dev := { d with mac.bring := sset d.mac.bring p n 0 }

def Dev.bringAt (d : Dev) (p : Nat) : Nat := sget d.mac.bring p 0

/-- Starts bring-up at `step` where the port may come up; else there is none. -/
def Dev.startBring (d : Dev) (p step : Nat) : Dev := d.setBring p (if d.canBring p then step else 0)

/-- LINK_CHG and its event (R56, R61). -/
def Dev.linkChg (d : Dev) (p : Nat) : Dev :=
  if p = 256 then (d.set GLB.MGT_CFG.LINK_CHG 1).raise EV_MGT_LINK_CHANGE
  else (d.setBitF (MAC.LINK_CHG.BITS (p / 32)) (p % 32)).raise (EV_LINK_CHANGE (p / 32))

/-- Writes LINK of a port; port 256 shows it in GLB.MGT_CFG too. -/
def Dev.setLink (d : Dev) (p v : Nat) : Dev :=
  let d := d.set (MAC.PORT_STAT.LINK p) v
  if p = 256 then d.set GLB.MGT_CFG.LINK v else d

/-- Step 8 of Table 3.5. -/
def Dev.linkUpNow (d : Dev) (p : Nat) : Dev :=
  ((((d.setLink p 1).linkChg p).set (SWC.PORT_STAT.HOLDING p) 0).setBring p 8)

/-- Queued frames of a port at link loss: discarded at once, or held (R311). -/
def Dev.holdOrFlush (d : Dev) (p : Nat) : Dev :=
  if d.get (SWC.PORT_CFG.DOWN_HOLD p) = 0 then d.flushPort p
  else
    let d := d.set (SWC.PORT_STAT.HOLDING p) 1
    { d with swc.downAt := sset d.swc.downAt p d.tick 0 }

/-- Marks every frame of a port for discard at dequeue: those queued, and those admitted that still cross the die-to-die link (R51). -/
def Dev.markFlush (d : Dev) (p : Nat) : Dev :=
  let gone := fun (e : Nat × QEnt) => if e.1 = p then (e.1, { e.2 with flush := true }) else e
  let d := { d with swc.crosses := d.swc.crosses.map (fun (c : Cross) => { c with ents := c.ents.map gone }) }
  forN 16 d (fun q d =>
    let x := d.queue p q
    d.setQueue p q { x with ents := x.ents.map (fun e => { e with flush := true }) })

/-- A link goes down (R56): status bits clear with LINK (log entry 104); status, event and count, the frame in transmission, buoys at the launch stage. -/
def Dev.linkLost (d : Dev) (p : Nat) : Dev :=
  let d := (((((d.setLink p 0).set (MAC.PORT_STAT.PCS_LOCK p) 0).set (MAC.PORT_STAT.FEC_ALIGN p) 0).set (MAC.PORT_STAT.AN_DONE p) 0).set (MAC.PORT_STAT.LT_DONE p) 0)
  (((d.linkChg p).cntMac p 19 1).abortTx p).unstage p (fun _ => true)

/-- Lanes of a port. Port 256 has lanes 256 and 257 at 100 GbE, and the first of them at 25 GbE (R72). -/
def Dev.lanesOf (d : Dev) (p : Nat) : List Nat :=
  if Nat.blt p 256 then (List.range (modeLanes (d.octetMode (p / 8)))).map (fun i => p + i)
  else if p = 256 then (if d.get GLB.MGT_CFG.MODE = 1 then [256, 257] else if d.get GLB.MGT_CFG.MODE = 2 then [256] else [])
  else []

/-- The lanes lose what adaptation and training gave them: they start from the standard's values. The count of updates at the end of a range goes on (R58, log entry 121). -/
def Dev.lanesAfresh (d : Dev) (ls : List Nat) : Dev :=
  { d with mac.coef := ls.foldl (fun m l => sset m l [] []) d.mac.coef, mac.txEq := ls.foldl (fun m l => sset m l 0 0) d.mac.txEq }

/-- An established link goes down. -/
def Dev.linkDrop (d : Dev) (p : Nat) : Dev := if d.is (MAC.PORT_STAT.LINK p) then (d.linkLost p).holdOrFlush p else d

/-- The link of a port goes down and bring-up starts again at step 3 where it may (R56). A port that retrains starts from the standard's values. -/
def Dev.linkDown (d : Dev) (p : Nat) : Dev :=
  ((if d.is (MAC.PORT_CFG.LT_EN p) then d.lanesAfresh (d.lanesOf p) else d).linkDrop p).startBring p 3

/-- A port goes away with a mode switch (R51): its queued frames are flushed at dequeue. -/
def Dev.portGone (d : Dev) (p : Nat) : Dev :=
  let d := if d.is (MAC.PORT_STAT.LINK p) then d.linkLost p else d.unstage p (fun _ => true)
  ((d.markFlush p).set (SWC.PORT_STAT.HOLDING p) 0).setBring p 0

/-- The ports of octet `o` in mode `m`. -/
def octetPorts (o m : Nat) : List Nat := ((List.range 8).map (fun i => 8 * o + i)).filter (portInMode m)

/-- The active mode of an octet has changed from `old` (R51): old ports go down, new ports start bring-up. -/
def Dev.octetSwitch (d : Dev) (o old : Nat) : Dev :=
  let new := d.octetMode o
  if new = old then d
  else
    let d := (octetPorts o old).foldl (fun d p => d.portGone p) d
    (octetPorts o new).foldl (fun d p => d.startBring p 2) d

/-- The field of set `x` of an octet's mode. -/
def octetModeF (o x : Nat) : Fld :=
  if x = 1 then MAC.OCTET_MODE.MODE_1 (o / 4) (o % 4) else MAC.OCTET_MODE.MODE_0 (o / 4) (o % 4)

/-- A write to one MODE field (R47, R50, R41). -/
def Dev.octetModeSet (d : Dev) (o x v : Nat) : Dev :=
  let n := 72 + o
  let active := d.get (GLB.PART_CTL.ACTIVE n)
  if Nat.blt 7 v then d
  else if x = active then
    if d.gateOpen then d
    else
      let old := d.octetMode o
      (d.set (octetModeF o x) v).octetSwitch o old
  else d.partWrite n x (fun d => d.set (octetModeF o x) v)

/-- A write of MAC.OCTET_MODE_k (R50). -/
def Dev.octetModeWrite (d : Dev) (s k v : Nat) : Dev :=
  let o := 4 * s + k
  (d.octetModeSet o 0 (bits v 3 0)).octetModeSet o 1 (bits v 7 4)

/-- OCTET_MODE_WRITE. -/
def execOctetModeWrite (s k v : Nat) (st : State) : Out := hostAct st (MAC.OCTET_MODE.MODE_0 (s % 8) (k % 4)) (fun d => d.octetModeWrite (s % 8) (k % 4) v)

/-- Whether eight 3-bit selectors form a permutation. -/
def isPerm (v : Nat) : Bool :=
  (List.range 8).all (fun x => (List.range 8).any (fun j => bits v (3 * j + 2) (3 * j) == x))

/-- A write of a lane map register (R53): `w` 0 LANE_SWAP_RX, 1 LANE_SWAP_TX, 2 LANE_POL. (Log entry 113.) -/
def Dev.laneMapWrite (d : Dev) (s k w v : Nat) : Dev :=
  if d.is GLB.LOCK.LOCK then d
  else if d.octetMode (4 * s + k) != 0 || (w != 2 && !isPerm v) then d.raise (EV_LANE_MAP_REFUSED s)
  else if w = 0 then d.set (MAC.LANE_SWAP_RX.RX_SEL s k) v
  else if w = 1 then d.set (MAC.LANE_SWAP_TX.TX_SEL s k) v
  else (d.set (MAC.LANE_POL.TX_INV s k) (bits v 15 8)).set (MAC.LANE_POL.RX_INV s k) (bits v 7 0)

/-- LANE_MAP_WRITE. -/
def execLaneMapWrite (s k w v : Nat) (st : State) : Out := hostAct st (if w % 3 = 0 then MAC.LANE_SWAP_RX.RX_SEL (s % 8) (k % 4) else if w % 3 = 1 then MAC.LANE_SWAP_TX.TX_SEL (s % 8) (k % 4) else MAC.LANE_POL.RX_INV (s % 8) (k % 4))
  (fun d => d.laneMapWrite (s % 8) (k % 4) (w % 3) v)

/-- A write of MAC.PORT_CFG_p (R60). A change of PAUSE_MODE ends the pauses received under the old one (log entry 105). -/
def Dev.portCfgWrite (d : Dev) (p v : Nat) : Dev :=
  let was := d.is (MAC.PORT_CFG.RX_EN p)
  let m := bits v 13 0
  let old := d
  let d := ((((((d.set (MAC.PORT_CFG.TX_EN p) (bits v 20 20)).set (MAC.PORT_CFG.RX_EN p) (bits v 19 19)).set (MAC.PORT_CFG.LT_EN p) (bits v 18 18)).set
      (MAC.PORT_CFG.AN_EN p) (bits v 17 17)).set (MAC.PORT_CFG.PAUSE_MODE p) (bits v 16 15)).set (MAC.PORT_CFG.TS_MDI p) (bits v 14 14))
  let d := if Nat.ble 64 m && Nat.ble m 9600 then d.set (MAC.PORT_CFG.MAX_FRAME p) m else d
  let d := if d.get (MAC.PORT_CFG.PAUSE_MODE p) = old.get (MAC.PORT_CFG.PAUSE_MODE p) then d
    else { d with swc.paused := (List.range 9).foldl (fun l k => sset l (9 * p + k) 0 0) d.swc.paused }
  let d := Dev.pauseAsk old d p (fun _ => false)
  if !was && bit v 19 then d.startBring p 2
  else if was && !bit v 19 && Nat.ble p 256 then d.linkDown p
  else d

/-- PORT_CFG_WRITE. -/
def execPortCfgWrite (p v : Nat) (s : State) : Out := hostAct s (MAC.PORT_CFG.MAX_FRAME (p % 265)) (fun d => d.portCfgWrite (p % 265) v)

/-- A write of GLB.MGT_CFG (R72, R456). -/
def Dev.mgtCfgWrite (d : Dev) (v : Nat) : Dev :=
  let d := if bit v 4 then d.set GLB.MGT_CFG.LINK_CHG 0 else d
  let d := d.set GLB.MGT_CFG.WAKE_EN (bits v 2 2)
  let m := bits v 1 0
  if m = 3 || m = d.get GLB.MGT_CFG.MODE then d
  else
    let d := d.set GLB.MGT_CFG.MODE m
    let d := if d.is (MAC.PORT_STAT.LINK 256) then (d.linkLost 256).holdOrFlush 256 else d
    d.startBring 256 2

/-- MGT_CFG_WRITE. -/
def execMgtCfgWrite (v : Nat) (s : State) : Out := hostAct s GLB.MGT_CFG.MODE (fun d => d.mgtCfgWrite v)

-- The bring-up steps (Table 3.5).

/-- PLL_LOCK of octet `o`, 32 for port 256's lanes: every port of it that waits at step 2 goes on. -/
def execPllLock (o : Nat) (s : State) : Out :=
  let ps := if o = 32 then [256] else (List.range 8).map (fun i => 8 * o + i)
  act s (fun d => Nat.ble o 32 && ps.any (fun p => d.bringAt p == 2))
    (fun d => ps.foldl (fun d p => if d.bringAt p = 2 then d.setBring p 3 else d) d)

/-- The step after signal detection. -/
def Dev.afterSignal (d : Dev) (p : Nat) : Nat :=
  if d.is (MAC.PORT_CFG.AN_EN p) then 4 else if d.is (MAC.PORT_CFG.LT_EN p) then 5 else 6

/-- SIGNAL_DETECT. -/
def execSignalDetect (p : Nat) (s : State) : Out :=
  act s (fun d => d.bringAt p == 3) (fun d => d.setBring p (d.afterSignal p))

/-- AN_COMPLETE. -/
def execAnComplete (p : Nat) (s : State) : Out :=
  act s (fun d => d.bringAt p == 4)
    (fun d => (d.set (MAC.PORT_STAT.AN_DONE p) 1).setBring p (if d.is (MAC.PORT_CFG.LT_EN p) then 5 else 6))

/-- The setting that the partner's requests have given a lane's transmit equaliser: a free value (Table 3.5, step 5). -/
def Dev.trainLane (d : Dev) (l : Nat) : Dev :=
  let (r, d) := d.fresh
  { d with mac.txEq := sset d.mac.txEq l r 0 }

/-- LT_COMPLETE. -/
def execLtComplete (p : Nat) (s : State) : Out :=
  act s (fun d => d.bringAt p == 5) (fun d =>
    (((d.lanesOf p).foldl Dev.trainLane d).set (MAC.PORT_STAT.LT_DONE p) 1).setBring p 6)

/-- RX_ADAPT_DONE: `coefs` are the coefficients that each lane of the port settled at; an empty list keeps the last adapted ones. -/
def execRxAdaptDone (p : Nat) (coefs : List (List Int)) (s : State) : Out :=
  act s (fun d => d.bringAt p == 6) (fun d =>
    let put := fun (m : Sparse (List Int)) (e : Nat × List Int) => sset m e.1 e.2 []
    let got : List (Nat × List Int) := ((d.lanesOf p).zip coefs).filter (fun e => !e.2.isEmpty)
    let d := { d with mac.coef := got.foldl put d.mac.coef }
    d.setBring p 7)

/-- PCS_ALIGN_DONE with the measured skew in 0.25 ns (Table 3.7). -/
def execPcsAlignDone (p skew : Nat) (s : State) : Out :=
  act s (fun d => d.bringAt p == 7) (fun d =>
    let d := d.set (MAC.PORT_STAT.PCS_LOCK p) 1
    let d := d.set (MAC.PORT_STAT.FEC_ALIGN p) (if d.portGbps p = 25 then 0 else 1)
    let d := d.set (MAC.PORT_STAT.SKEW p) (if Nat.blt 1 (d.lanesOf p).length then min skew 255 else 0)
    d.linkUpNow p)

/-- PCS_LOCK_LOSS. -/
def execPcsLockLoss (p : Nat) (s : State) : Out :=
  act s (fun d => Nat.ble p 256 && (d.bringAt p == 7 || d.bringAt p == 8)) (fun d => d.linkDown p)

/-- The port that owns a lane; 256 and 257 are the lanes of port 256. -/
def Dev.lanePort (d : Dev) (l : Nat) : Nat :=
  if Nat.ble 256 l then 256 else l / modeLanes (d.octetMode (l / 8)) * modeLanes (d.octetMode (l / 8))

/-- LANE_SIGNAL_LOSS of lane `l`, gone for `ns`. -/
def execLaneSignalLoss (l ns : Nat) (s : State) : Out :=
  act s (fun d => Nat.blt 1000 ns && (d.lanesOf (d.lanePort l)).contains l && Nat.blt 3 (d.bringAt (d.lanePort l))) (fun d => d.linkDown (d.lanePort l))

-- Continuous adaptation (R57 to R59).

/-- A coefficient moves by at most one step. -/
def coefStep (c m : Int) : Int := if m < 0 then c - 1 else if 0 < m then c + 1 else c

/-- Moves the coefficients of a lane. -/
def coefMove : List Int → List Int → List Int
  | c :: cs, m :: ms => coefStep c m :: coefMove cs ms
  | cs, _ => cs

/-- Counts consecutive updates at the end of the range for each coefficient. -/
def endCount : List Nat → List Bool → List Nat
  | n :: ns, b :: bs => (if b then n + 1 else 0) :: endCount ns bs
  | [], b :: bs => (if b then 1 else 0) :: endCount [] bs
  | _, [] => []

/-- ADAPT_UPDATE of lane `l`: the moves the receiver makes, which coefficients stand at the end of their range after it, and the SNR margin in 0.1 dB. Only front ports' lanes adapt (log entry 120); an update under FREEZE does not count toward the 16, but its margin is checked (log entry 122; also 114). -/
def execAdaptUpdate (l : Nat) (moves : List Int) (ends : List Bool) (margin : Int) (st : State) : Out :=
  let s := l / 32
  let k := l / 8 % 4
  act st (fun d => Nat.blt l 256 && d.linkUp (d.lanePort l) && d.portExists (d.lanePort l) &&
      Nat.ble (sget d.mac.adaptAt l 0 + d.get (MAC.ADAPT_CFG.INTERVAL s k) * 1000) d.tick) (fun d =>
    let d := { d with mac.adaptAt := sset d.mac.adaptAt l d.tick 0 }
    let d := if d.is (MAC.ADAPT_CFG.FREEZE s k) then d
      else
        let cnt := endCount (sget d.mac.coefEnd l []) ends
        let hit := cnt.any (fun n => Nat.ble 16 n)
        let cnt' := cnt.map (fun n => if Nat.ble 16 n then 0 else n)
        let d := { d with mac.coef := sset d.mac.coef l (coefMove (sget d.mac.coef l []) moves) [], mac.coefEnd := sset d.mac.coefEnd l cnt' [] }
        if hit then (d.setBitF (MAC.LANE_LIMIT.BITS s) (l % 32)).raise (EV_LANE_ADAPT_LIMIT s) else d
    let thr := d.get (MAC.ADAPT_CFG.MARGIN_THR s k)
    let low := decide (margin < (thr : Int)) && thr != 0
    let was := sget d.mac.lowMargin l 0
    let d := { d with mac.lowMargin := sset d.mac.lowMargin l (b2n low) 0 }
    if low && was == 0 then (d.setBitF (MAC.LANE_MARGIN.BITS s) (l % 32)).raise (EV_LANE_MARGIN_LOW s) else d)

-- Time-stamps (R71, R321).

/-- The counter at the preceding tick as a stamp takes it: in the tick of a step, that of the scale before the step (R321). -/
def Dev.stampBase (d : Dev) : Nat := if d.tmu.stepAt = d.tick + 1 then d.tmu.stepOld else d.now

/-- Counter value `t` at phase `ph` of the tick, truncated to 0.25 ns (R321). -/
def Dev.atPhase (d : Dev) (t ph : Nat) : Nat := (t + ph % 4 * d.get TMU.INCR.INCR / 4) / 2 ^ 30 * 2 ^ 30

/-- The stamp of an instant at phase `ph` of the tick (R321); every stamp reads 0 while RUN is 0 (R316). -/
def Dev.stampRaw (d : Dev) (ph : Nat) : Nat := if d.is TMU.CTL.RUN then d.atPhase d.stampBase ph else 0

/-- The ingress stamp of a frame on port `p` (R71). -/
def Dev.rxStamp (d : Dev) (p ph : Nat) : Nat :=
  let t := d.stampRaw ph
  if Nat.ble p 256 && d.is (MAC.PORT_CFG.TS_MDI p) && d.is TMU.CTL.RUN then
    ((t : Int) - (((d.tsCorr p).1 + d.get (MAC.PORT_STAT.SKEW p) : Nat) + sgn 16 (d.get (MAC.TS_ADJ.RX_ADJ p))) * 2 ^ 30).toNat
  else t

/-- The egress stamp of a frame that starts at phase `ph` (R71). -/
def Dev.txStamp (d : Dev) (p ph : Nat) : Nat :=
  if d.is TMU.CTL.RUN then ((d.stampRaw ph : Int) + d.txCorr p).toNat else 0

/-- When the first bit of a frame that starts at phase `ph` passes the reference plane, in the scale after any step of this tick: what a launch time is compared with (Table 13.4). -/
def Dev.txTime (d : Dev) (p ph : Nat) : Int := (d.atPhase d.now ph : Int) + d.txCorr p

-- Reception (R62 to R65).

/-- What the MAC makes of received bytes. -/
structure Judged where
  keep : Bool
  body : List Byte
  fcs : Nat
  bad : Bool

/-- Judges length and FCS of a frame and counts it (R62, R65). `cut`: link loss cut its reception off. -/
def Dev.rxJudge (d : Dev) (p : Nat) (bs : List Byte) (cut : Bool) : Dev × Judged :=
  let n := bs.length
  let body := bs.take (n - 4)
  let f := leNat (bs.drop (n - 4))
  let c := fcsOf body
  let max := d.get (MAC.PORT_CFG.MAX_FRAME p)
  let d := if d.gateOpen then d.bwAdd p n false else d
  let no : Judged := ⟨false, body, f, true⟩
  if Nat.blt max n then
    (d.cntMac p 6 1, ⟨true, bs.take (max - 4), leNat ((bs.take max).drop (max - 4)), true⟩)
  else if cut then
    if Nat.blt n 64 then (d.cntMac p 5 1, no) else (d.cntMac p 2 1, ⟨true, body, f, true⟩)
  else if Nat.blt n 64 then (if f = c then (d.cntMac p 4 1, no) else (d.cntMac p 5 1, no))
  else if f = c then ((d.cntMac p 0 1).cntMac p 1 n, ⟨true, body, f, false⟩)
  else if f = Nat.xor c 0xFFFFFFFF then (d.cntMac p 3 1, ⟨true, body, f, true⟩)
  else (d.cntMac p 2 1, ⟨true, body, f, true⟩)

/-- A MAC control frame with a pause opcode: 1 PAUSE, 2 PFC, 0 neither. The formats are those of 802.3 and 802.1Qbb. -/
def pauseKind (body : List Byte) : Nat :=
  if beAt body 12 2 = 0x8808 then
    if beAt body 14 2 = 1 then 1 else if beAt body 14 2 = 0x0101 then 2 else 0
  else 0

/-- Pause quanta of 512 bit times at the port's rate, in ticks, rounded up (R293). -/
def Dev.quanta (d : Dev) (p n : Nat) : Nat :=
  let r := max 1 (d.portGbps p)
  (n * 512 + r - 1) / r

/-- Starts or ends the pause of a priority. -/
def Dev.setPaused (d : Dev) (p k n : Nat) : Dev :=
  { d with swc.paused := sset d.swc.paused (9 * p + k) (if n = 0 then 0 else d.tick + d.quanta p n) 0 }

/-- A good PAUSE or PFC frame is consumed (R63, R293); with the gate closed it is counted only (R346). -/
def Dev.pauseRx (d : Dev) (p : Nat) (body : List Byte) : Dev :=
  if pauseKind body = 1 then
    let d := d.cntMac p 7 1
    if d.gateOpen && d.get (MAC.PORT_CFG.PAUSE_MODE p) == 1 then d.setPaused p 8 (beAt body 16 2) else d
  else
    let d := d.cntMac p 8 1
    if d.gateOpen && d.get (MAC.PORT_CFG.PAUSE_MODE p) == 2 then
      (List.range 8).foldl (fun d i => if bit (beAt body 16 2) i then d.setPaused p i (beAt body (18 + 2 * i) 2) else d) d
    else d

/-- Puts an arriving frame before the parser of its slice, where it waits while that is parked or quiesced. Its cells are taken once the classifier lets it go on (R111). -/
def Dev.toParser (d : Dev) (k : Pkt) : Dev :=
  let (i, d) := d.newId
  { d with pipe := d.pipe ++ [{ k with bufs := [], bufSlice := k.slice, id := i, stage := .parse, len := k.frameLen }] }

/-- A front port can receive. -/
def Dev.canRx (d : Dev) (p : Nat) : Bool := d.portExists p && d.linkUp p && d.is (MAC.PORT_CFG.RX_EN p)

/-- The codewords and symbols that RS-FEC reports with a frame (Table 3.8); the 25G modes have no FEC. -/
def Dev.fecCount (d : Dev) (p : Nat) (fec : Nat × Nat × Nat) : Dev :=
  if d.portGbps p = 25 then d else ((d.cntMac p 9 fec.1).cntMac p 10 fec.2.1).cntMac p 11 fec.2.2

/-- A frame received at a front port, taken whole. `cut`: bit 0, link loss cut its reception off; bit 1, the pipeline has counted it before its tail arrives (R65). -/
def rxFrameEff (p : Nat) (bs : List Byte) (cut : Nat) (ph : Nat) (fec : Nat × Nat × Nat) (d : Dev) : Dev :=
  let (d, j) := (d.fecCount p fec).rxJudge p bs (bit cut 0)
  if !j.keep then d
  else if !j.bad && pauseKind j.body != 0 then d.pauseRx p j.body
  else if !d.gateOpen then d
  else d.toParser { body := j.body, rx := j.body, fcs := j.fcs, bad := j.bad && !bit cut 1, lateBad := j.bad && bit cut 1, ing := p, port := p, slice := p / 32,
                    stamp := d.rxStamp p ph, stamped := true, stepsIn := d.get TMU.STAT.STEPS }

/-- RX_FRAME: bytes with FCS on front port `p`, how its reception ended, the phase of its stamp, and what RS-FEC reports. -/
def execRxFrame (p : Nat) (bs : List Byte) (cut : Nat) (ph : Nat) (fec : Nat × Nat × Nat) (s : State) : Out :=
  act s (fun d => Nat.blt p 256 && d.canRx p) (rxFrameEff p bs cut ph fec)

/-- RX_PAUSE_FRAME: a PAUSE or PFC frame on port `p`, and what RS-FEC reports. -/
def execRxPauseFrame (p : Nat) (f : List Byte × Nat × Nat × Nat) (s : State) : Out :=
  act s (fun d => Nat.ble p 256 && d.canRx p && pauseKind (f.1.take (f.1.length - 4)) != 0) (fun d =>
    if p = 256 then
      let (d, j) := (d.fecCount p f.2).rxJudge p f.1 false
      if j.keep && !j.bad then d.pauseRx p j.body else d
    else rxFrameEff p f.1 0 0 f.2 d)

-- The management port (R72 to R77).

/-- The shim of a frame starts at byte 14 (R73). -/
def isShim (bs : List Byte) : Bool := beAt bs 12 2 == 0x88B5

def shimType (bs : List Byte) : Nat := byteAt bs 14 % 16

/-- What Table 3.11 asks of every shim from the host: VERSION 0x1, and bits 12:9 of bytes 2 and 3 zero. -/
def shimOk (b : List Byte) : Bool := byteAt b 14 / 16 == 1 && bits (beAt b 16 2) 12 9 == 0

/-- The checks of R75 on an inject. Its HANDLE / KEY field is not one of them (log entry 107). -/
def injectOk (b : List Byte) : Bool :=
  let fl := byteAt b 15
  shimOk b && shimType b == 2 && bits fl 3 2 == 0 &&
    Nat.ble (bits (beAt b 16 2) 8 0) 255 && (bit fl 0 || Nat.blt (bits fl 7 4) 12)

/-- The launch request of an inject, packed as TXGEN packs it. -/
def shimLaunch (b : List Byte) : Nat := beAt b 24 4 * 2 ^ 32 + beAt b 28 2 * 2 ^ 16 + beAt b 22 2

/-- The effect of a good inject (R75). -/
def injectEff (b : List Byte) (d : Dev) : Dev :=
  let fl := byteAt b 15
  let p := bits (beAt b 16 2) 8 0
  let body := b.drop 30
  let k : Pkt := { body := body, rx := body, fcs := fcsOf body, fresh := true, inj := true, ing := 256,
                   epoch := some (d.get GLB.EPOCH_CUR.CUR), launchReq := if bit fl 1 then some (shimLaunch b) else none }
  if bit fl 0 then d.toParser { k with port := p, slice := p / 32 }
  else match d.takeCells 0 k.cells [] with
    | (none, d) => d.cntSwc 0 2
    | (some xs, d) =>
      let (i, d) := d.newId
      let d := d.fillCells 0 xs (k.body ++ natLE 4 k.fcs)
      d.toAdm { pkt := { k with port := 256, slice := 0, bufs := xs, bufSlice := 0, id := i, stage := .released, len := k.frameLen }, dest := .port p,
                queue := bits fl 7 4, srcHalf := 0, slice := 0 }

/-- INJECT_FRAME: a shim frame other than a wake frame on port 256, and what RS-FEC reports. -/
def execInjectFrame (f : List Byte × Nat × Nat × Nat) (s : State) : Out :=
  act s (fun d => d.canRx 256 && isShim f.1 && shimType f.1 != 3) (fun d =>
    let (d, j) := (d.fecCount 256 f.2).rxJudge 256 f.1 false
    if !j.keep || j.bad || !d.gateOpen then d
    else if injectOk j.body then injectEff j.body d
    else d.cntMac 256 2 1)

/-- MGT_PLAIN_FRAME: a frame on port 256 that is not a shim frame, and what RS-FEC reports. A good one counts in RX_FRAMES_OK only (R77). -/
def execMgtPlainFrame (f : List Byte × Nat × Nat × Nat) (s : State) : Out :=
  act s (fun d => d.canRx 256 && !isShim f.1 && pauseKind (f.1.take (f.1.length - 4)) == 0) (fun d =>
    let d := d.fecCount 256 f.2
    let (e, j) := d.rxJudge 256 f.1 false
    if j.keep && !j.bad then (if d.gateOpen then d.bwAdd 256 f.1.length false else d).cntMac 256 0 1 else e)

/-- RECIRC_FRAME: the next frame arrives back at slice `s`'s parser (R78); MAX_FRAME does not apply to it (log entry 106). -/
def execRecircFrame (sl : Nat) (s : State) : Out :=
  let p := 257 + sl % 8
  act s (fun d => d.blockOn (sl % 8) 9 && d.is (MAC.PORT_CFG.RX_EN p) && (sget d.mac.recirc (sl % 8) []) != []) (fun d =>
    match sget d.mac.recirc (sl % 8) [] with
    | [] => d
    | k :: ks =>
      let d := { d with mac.recirc := sset d.mac.recirc (sl % 8) ks [] }
      let d := (((d.cntMac p 0 1).cntMac p 1 k.frameLen).bwAdd p k.frameLen false)
      d.toParser { body := k.body, rx := k.rx, fcs := k.fcs, fresh := k.fresh, bad := k.bad, ing := k.ing, port := p, slice := sl % 8,
                   stamp := k.stamp, stamped := k.stamped, stepsIn := k.stepsIn, inj := k.inj, txOwner := k.txOwner, epoch := k.epoch, launchReq := k.launchReq })

-- PTP at the egress MAC (R324 to R327).

/-- Where the PTP header starts and where the UDP checksum is, if there is one. -/
structure PtpAt where
  off : Nat
  ck : Option Nat
  v6 : Bool

/-- The offset of the EtherType after up to two tags. -/
def etOff (b : List Byte) : Nat :=
  let tag := fun o => let t := beAt b o 2; t == 0x8100 || t == 0x88A8 || t == 0x9100
  if tag 12 then (if tag 16 then 20 else 16) else 12

/-- Recognises an event message with the enables of PTP_x_p (R324). -/
def Dev.ptpFind (d : Dev) (x p : Nat) (b : List Byte) : Option PtpAt :=
  if !d.is (TMU.PTP.RECOG x p) then none
  else
    let o := etOff b
    let et := beAt b o 2
    let a := if et = 0x88F7 && d.is (TMU.PTP.L2 x p) then some (⟨o + 2, none, false⟩ : PtpAt)
      else if et = 0x0800 && d.is (TMU.PTP.UDP4 x p) && byteAt b (o + 2) == 0x45 && byteAt b (o + 11) == 17 && beAt b (o + 24) 2 == 319 then
        some ⟨o + 30, some (o + 28), false⟩
      else if et = 0x86DD && d.is (TMU.PTP.UDP6 x p) && byteAt b (o + 8) == 17 && beAt b (o + 44) 2 == 319 then
        some ⟨o + 50, some (o + 48), true⟩
      else none
    match a with
    | some a =>
      if Nat.ble (a.off + 34) b.length && byteAt b (a.off + 1) % 16 == 2 && Nat.ble (byteAt b a.off % 16) 3 then some a else none
    | none => none

/-- One's-complement sum of 16-bit words. -/
def csSum (b : List Byte) : Nat → Nat → Nat
  | 0, _ => 0
  | n + 1, o => csAdd (beAt b o 2) (csSum b n (o + 2))

/-- One's-complement sum of the complements of 16-bit words. -/
def csSumNot (b : List Byte) : Nat → Nat → Nat
  | 0, _ => 0
  | n + 1, o => csAdd (65535 - beAt b o 2) (csSumNot b n (o + 2))

/-- Writes `2 n` bytes at an even offset of the message and adjusts the UDP checksum by R258, leaving an IPv4 checksum of 0. -/
def ptpWrite (b : List Byte) (a : PtpAt) (o n v : Nat) : List Byte :=
  let b' := writeB b o (natBE (2 * n) v)
  match a.ck with
  | none => b'
  | some c =>
    let hc := beAt b c 2
    if hc = 0 && !a.v6 then b'
    else
      let s := csAdd (csAdd (65535 - hc) (csSumNot b n o)) (csSum b' n o)
      let r := 65535 - s
      writeB b' c (natBE 2 (if r = 0 then 65535 else r))

/-- Pushes an egress stamp (R327). -/
def Dev.txtsPush (d : Dev) (p t : Nat) (b : List Byte) (o : Nat) : Dev :=
  let l := sget d.tmu.txts p []
  if Nat.ble 16 l.length then (d.cntTmu 6).raiseMs EV_TMU_TXTS_FULL
  else
    let e : TxTs := ⟨2 ^ 63 + stampSec t % 2 ^ 48, stampNs t * 2 ^ 32 + stampFrac t,
      byteAt b (o + 4) * 2 ^ 20 + byteAt b o % 16 * 2 ^ 16 + beAt b (o + 30) 2⟩
    { d with tmu.txts := sset d.tmu.txts p (l ++ [e]) [] }

/-- The egress actions of Table 13.1 on the bytes of a frame whose egress stamp is `t`. -/
def Dev.ptpEgress (d : Dev) (p : Nat) (k : Pkt) (t : Nat) (b : List Byte) : Dev × List Byte :=
  let x := d.setOf 104 k.epoch
  match (if Nat.ble p 256 then d.ptpFind x p b else none) with
  | none => (d, b)
  | some a =>
    let ty := byteAt b a.off % 16
    let cf := beAt b (a.off + 8) 8
    let (d, b') :=
      if d.is (TMU.PTP.TC x p) && k.stamped then
        let c := (cf + toWord 64 (((t : Int) - k.stamp) / 65536)) % 2 ^ 64
        let d := d.cntTmu 8
        ((if k.stepsIn = d.get TMU.STAT.STEPS then d else d.cntTmu 9), ptpWrite b a (a.off + 8) 4 c)
      else if d.is (TMU.PTP.ONE_STEP x p) && ty == 0 && !bit (byteAt b (a.off + 6)) 1 && !k.stamped && Nat.ble (a.off + 44) b.length then
        let b1 := ptpWrite b a (a.off + 34) 5 (stampSec t % 2 ^ 48 * 2 ^ 32 + stampNs t)
        (d.cntTmu 7, ptpWrite b1 a (a.off + 8) 4 ((cf + stampFrac t / 65536) % 2 ^ 64))
      else (d, b)
    ((if d.is (TMU.PTP.TWO_STEP x p) then d.txtsPush p t b a.off else d), b')

-- Transmission (R66 to R69, R302, R457).

/-- K(m) of R68: the FCS of m zero bytes. -/
def fcsZero (m : Nat) : Nat := fcsOf (List.replicate m 0)

/-- The carried-through FCS: the received FCS with the changes between the frame as received and as sent (R67, R68). -/
def carryFcs (rx sent : List Byte) (f : Nat) : Nat :=
  let n := rx.length
  let m := sent.length
  let delta := xorBytes (List.replicate (m - n) 0 ++ rx) (List.replicate (n - m) 0 ++ sent)
  let g := Nat.xor f (crcRaw delta)
  if n = m then g else Nat.xor (Nat.xor g (fcsZero n)) (fcsZero m)

/-- The FCS that a frame leaves with. -/
def Pkt.txFcs (k : Pkt) (sent : List Byte) : Nat :=
  let c := fcsOf sent
  if (k.bad || k.lateBad) && (k.ct || k.trunc) then Nat.xor c 0xFFFFFFFF
  else if k.fresh || k.trunc then c
  else carryFcs k.rx sent k.fcs

/-- Counts a sent frame and shows it on the wire. -/
def Dev.sent (d : Dev) (p : Nat) (body : List Byte) (fcs : Nat) : Dev :=
  let n := body.length + 4
  let d := (((d.cntMac p 12 1).cntMac p 13 n).bwAdd p n true)
  let d := if fcs = Nat.xor (fcsOf body) 0xFFFFFFFF then d.cntMac p 14 1 else d
  { d with mac.wire := sset d.mac.wire p (body ++ natLE 4 fcs) [] }

/-- The PAUSE or PFC frame for priority `k` (8 the link), quanta 0xFFFF or 0 (R292, R457). -/
def Dev.pauseFrame (d : Dev) (p k : Nat) (on : Bool) : List Byte :=
  let sa := if p = 256 then d.mac48 GLB.MGT_DEV_MAC_LO.MAC GLB.MGT_DEV_MAC_HI.MAC
    else (d.mac48 (MAC.PAUSE_SA_LO.SA (p / 32)) (MAC.PAUSE_SA_HI.SA (p / 32)) + p % 32) % 2 ^ 48
  let q := if on then 0xFFFF else 0
  let b := natBE 6 0x0180C2000001 ++ natBE 6 sa ++ natBE 2 0x8808 ++
    (if k = 8 then natBE 2 1 ++ natBE 2 q else natBE 2 0x0101 ++ natBE 2 (2 ^ k) ++ List.replicate (2 * k) 0 ++ natBE 2 q)
  b ++ List.replicate (60 - b.length) 0

/-- The MAC sends the first pause frame asked of port `p`. -/
def Dev.sendPause (d : Dev) (p : Nat) : Dev :=
  match takeFirst (fun r => r.1 == p) d.swc.pauseReq with
  | none => d
  | some ((_, k, on), rest) =>
    let d := { d with swc.pauseReq := rest }
    let b := d.pauseFrame p k on
    (d.sent p b (fcsOf b)).cntMac p (if k = 8 then 16 else 17) 1

/-- The MAC sends the frame it holds. `ph`: the phase of its stamp. `und`: 0, or the bytes a cut-through frame had when the rest did not arrive in time (R302). -/
def Dev.sendFrame (d : Dev) (p : Nat) (e : QEnt) (ph und : Nat) : Dev :=
  let k := { e.pkt with bad := e.pkt.bad || e.pkt.lateBad, lateBad := false }
  let d := { d with mac.tx := sset d.mac.tx p none none }
  let d := if k.ct then d.cntSwc (portSlice p) 0 else d
  let b := k.routed
  let d := if k.launch.isSome then (if k.late then d.cntTmu 1 else d.cntTmu 0) else d
  if Nat.ble 257 p then
    let d := (((d.cntMac p 12 1).cntMac p 13 (b.length + 4)).bwAdd p (b.length + 4) true).freeBufs k
    { d with mac.recirc := sset d.mac.recirc (p - 257) (sget d.mac.recirc (p - 257) [] ++ [{ k with body := b, nh := none, bufs := [], launch := none, late := false }]) [] }
  else
    let t := match e.start with
      | some t => t
      | none => d.txStamp p ph
    let (d, b) := d.ptpEgress p k t b
    if und != 0 && k.ct && Nat.blt und b.length then
      let c := b.take und
      let d := (d.sent p c (Nat.xor (fcsOf c) 0xFFFFFFFF)).cntSwc (portSlice p) 1
      ((d.raiseMs (EV_SWC_CT_UNDERRUN (portSlice p))).late k).freeBufs k
    else
      let d := (d.sent p b (k.txFcs b)).freeBufs k
      if k.bad && k.ct then d.late k else d

/-- Whether a pause frame of port `p`, of the least length, has left with its gap before a buoy at the launch stage starts (Table 13.3, step 3). -/
def Dev.pauseFits (d : Dev) (p : Nat) : Bool := (d.stagedStart p).all (fun t => decide (((d.now + d.wireTime p 64 : Nat) : Int) ≤ t))

/-- TX_FRAME of port `p`: the frame in transmission, else a pause frame that is asked for. No MAC transmits while the gate is closed (R346). -/
def execTxFrame (p ph und : Nat) (s : State) : Out :=
  act s (fun d => Nat.ble p 264 && d.gateOpen && d.linkUp p && d.is (MAC.PORT_CFG.TX_EN p)) (fun d =>
    match sget d.mac.tx p none with
    | some e => d.sendFrame p e ph und
    | none => if d.pauseFits p then d.sendPause p else d)

end Sys2Proof.Machine
end

