-- ==== Sys2Proof/Machine/Parser.lean ====
section
/-! DEFINITION. The parser: path choice, pre-selector, extraction profiles, the parse graph and the extracted key (spec/04). -/

namespace Sys2Proof.Machine

open Sys2Proof

-- Frames by port and stage (R95, R122, R130).

/-- How far a stage is from the parser. -/
def stageRank : Stage → Nat
  | .parse => 0
  | .graph => 1
  | .keyed => 2
  | .scanned => 3
  | .classified => 4
  | .forwarded => 5
  | _ => 6

/-- The first frame of pass port `p` that has not gone past rank `r`. -/
def Dev.frameAt (d : Dev) (p r : Nat) : Option Pkt :=
  d.pipe.find? (fun k => k.port == p && Nat.ble (stageRank k.stage) r)

/-- Puts a frame back where it stood. -/
def Dev.putFrame (d : Dev) (k : Pkt) : Dev := d.pipeSet (fun x => x.id == k.id) (fun _ => k)

/-- Takes a frame out of the pipe. -/
def Dev.takeFrame (d : Dev) (k : Pkt) : Dev := d.pipeDel (fun x => x.id == k.id)

/-- A frame that goes on past the classifier takes its cells; without cells it is discarded and counted (R111, R291). What the classifier counted before stays counted (log entry 124). -/
def Dev.withCells (d : Dev) (k : Pkt) (f : Pkt → Dev → Dev) : Dev :=
  match d.takeCells k.slice k.cells [] with
  | (none, d) => (d.takeFrame k).cntSwc k.slice 2
  | (some xs, d) => f { k with bufs := xs, bufSlice := k.slice } (d.fillCells (k.slice / 4) xs (k.body ++ natLE 4 k.fcs))

-- Words with parity (R96).

/-- The error state of the register word of `n` bytes that holds a field. -/
def Dev.fldBad (d : Dev) (f : Fld) (n : Nat) : Bool := d.badAt (bar0W (f.key / (8 * n) * n)) != 0

/-- Slice offset of the word that holds a field. -/
def sliceOff (f : Fld) (n s : Nat) : Nat := f.key / (8 * n) * n - (0x1000000 + 0x400000 * s)

/-- A parser word with a parity error: the event, and the count against the word. -/
def Dev.prsParity (d : Dev) (s : Nat) (f : Fld) (n : Nat) : Dev :=
  (d.raise (EV_PRS_PARITY s)).err 4 (s + sliceOff f n s * 8)

-- The pre-selector (R82, R83).

/-- Whether an EtherType is an enabled TPID of set `x`. -/
def Dev.isTpid (d : Dev) (s x t : Nat) : Bool :=
  (List.range 4).any (fun k => d.is (PRS.TPID.EN s x k) && d.get (PRS.TPID.TPID s x k) == t)

/-- The selector key of Table 4.2. -/
def Dev.selector (d : Dev) (s x : Nat) (k : Pkt) : Nat :=
  let n := if d.isTpid s x (k.win16 12) then (if d.isTpid s x (k.win16 16) then 2 else 1) else 0
  k.port % 512 + n * 2 ^ 9 + (if n = 0 then 0 else k.win16 14 % 4096 * 2 ^ 16) +
    (if n = 2 then k.win16 18 % 4096 * 2 ^ 32 else 0) + k.win16 (12 + 4 * n) * 2 ^ 48

/-- The first of the pre-selector entries from `i` on that matches; entries with a parity error do not match, and entries after the one that matches are not read (log entry 115). -/
def Dev.presel (d : Dev) (s x sel : Nat) : Nat → Nat → Option Nat × Dev
  | 0, _ => (none, d)
  | n + 1, i =>
    let fs := [PRS.PRESEL_KEY.W s x i, PRS.PRESEL_MASK.W s x i, PRS.PRESEL_RESULT.VALID s x i]
    match fs.find? (fun f => d.fldBad f 8) with
    | some f => (d.prsParity s f 8).presel s x sel n (i + 1)
    | none =>
      let m := d.get (PRS.PRESEL_MASK.W s x i)
      if d.is (PRS.PRESEL_RESULT.VALID s x i) && Nat.land sel m == Nat.land (d.get (PRS.PRESEL_KEY.W s x i)) m then (some i, d)
      else d.presel s x sel n (i + 1)

-- Commands (R85, R86).

/-- What a command does to the key: failure, the end of the list, or the key to go on with. -/
inductive CmdRes where
  | fail
  | stop
  | next (key : List Byte)

/-- Runs one command over the filled window `w` with the cursor at `cur`. -/
def runCmd (w : List Byte) (cur c : Nat) (key : List Byte) : CmdRes :=
  let src := cur + bits c 7 0
  match bits c 31 30 with
  | 0 =>
    let n := bits c 11 8 + 1
    let dst := bits c 18 12
    if Nat.blt w.length (src + n) || Nat.blt dst 16 || Nat.blt 128 (dst + n) then .fail
    else .next (writeB key dst (sliceB w src n))
  | 1 =>
    let n := bits c 8 8 + 1
    let v := if n = 1 then bits c 21 14 else bits c 29 14
    if Nat.blt w.length (src + n) then .fail
    else if (beAt w src n == v) == bit c 9 then .fail else .next key
  | 2 =>
    let lsb := bits c 10 8
    let nb := bits c 13 11 + 1
    let dst := bits c 20 14
    if Nat.ble w.length src || Nat.blt dst 16 || Nat.blt 127 dst || Nat.blt 8 (lsb + nb) then .fail
    else .next (writeB key dst [BitVec.ofNat 8 (byteAt w src / 2 ^ lsb % 2 ^ nb)])
  | _ => .stop

/-- Runs commands until END or the last one; `none`: a command failed. -/
def runCmds (w : List Byte) (cur : Nat) : List Nat → List Byte → Option (List Byte)
  | [], key => some key
  | c :: cs, key => match runCmd w cur c key with
    | .fail => none
    | .stop => some key
    | .next key => runCmds w cur cs key

-- The key (R90, Table 4.7).

/-- Writes the metadata bytes 0 to 15. -/
def keyMeta (k : Pkt) (graph noclaim : Bool) (id kt flags nodes : Nat) (offs : List Nat) (key : List Byte) : List Byte :=
  writeB key 0 (natBE 2 (k.port % 512 + k.epoch.getD 0 % 8 * 2 ^ 9 + b2n graph * 2 ^ 12 + b2n k.bad * 2 ^ 13 + b2n noclaim * 2 ^ 14) ++
    natBE 2 (id % 512 + kt * 2 ^ 9) ++ natBE 1 flags ++ natBE 1 nodes ++ (offs.map (fun o => BitVec.ofNat 8 o)).take 6 ++
    natBE 2 (k.frameLen % 2 ^ 14) ++ [0, 0])

/-- The key is built: the frame waits for the classifier. -/
def Dev.keyed (d : Dev) (k : Pkt) (key : List Byte) : Dev :=
  d.putFrame { k with key := key, stage := .keyed, l3 := byteAt key 6 }

/-- Every byte 0. -/
def zeroKey : List Byte := List.replicate 128 0

/-- The frame waits for a graph walker, or is discarded when the queue is full (R89). -/
def Dev.toGraph (d : Dev) (s : Nat) (k : Pkt) (node : Nat) : Dev :=
  if Nat.blt (d.pipe.filter (fun x => x.slice == s && x.stage == .graph)).length 256 then
    d.putFrame { k with stage := .graph, startNode := node }
  else (((d.takeFrame k).freeBufs k).cntPrs s 5).raise (EV_PRS_GRAPH_OVERRUN s)

/-- The 30 commands of profile `p`, and the words that hold them. -/
def Dev.profileCmds (d : Dev) (s p : Nat) : List Nat :=
  (List.range 30).map (fun i => if i % 2 = 0 then d.get (PRS.PROFILE_CMD.LO s p (i / 2)) else d.get (PRS.PROFILE_CMD.HI s p (i / 2)))

/-- The number of commands that run before the list ends or fails. -/
def cmdsRun (w : List Byte) : List Nat → List Byte → Nat
  | [], _ => 0
  | c :: cs, key => match runCmd w 0 c key with
    | .next key => 1 + cmdsRun w cs key
    | _ => 1

/-- Runs profile `p` (R84, R86): the key where it claims the frame. The words read are the header and those of the commands that ran (R96, log entry 115). -/
def Dev.runProfile (d : Dev) (s p : Nat) (k : Pkt) : Option (List Byte) × Dev :=
  let w := k.window
  let cs := d.profileCmds s p
  let n := cmdsRun w cs zeroKey
  let fs := PRS.PROFILE_HDR.L3_OFF s p :: ((List.range ((n + 1) / 2)).map (fun i => PRS.PROFILE_CMD.LO s p i))
  match fs.find? (fun f => d.fldBad f 8) with
  | some f => (none, d.prsParity s f 8)
  | none =>
    match runCmds w 0 cs zeroKey with
    | none => (none, d)
    | some key =>
      let offs := [d.get (PRS.PROFILE_HDR.L3_OFF s p), d.get (PRS.PROFILE_HDR.L4_OFF s p), d.get (PRS.PROFILE_HDR.INNER_OFF s p),
        d.get (PRS.PROFILE_HDR.INNER_L3_OFF s p), d.get (PRS.PROFILE_HDR.INNER_L4_OFF s p), d.get (PRS.PROFILE_HDR.PAY_OFF s p)]
      (some (keyMeta k false false p (d.get (PRS.PROFILE_HDR.KEYTYPE s p)) (d.get (PRS.PROFILE_HDR.FLAGS s p)) 0 offs key), d)

/-- The path choice of Table 4.1 for a frame that reaches the parser. -/
def parseEff (k : Pkt) (d : Dev) : Dev :=
  let s := k.slice
  let k := { k with epoch := some (k.epoch.getD (d.get GLB.EPOCH_CUR.CUR)) }
  let x := d.setOf s k.epoch
  let root := d.get (PRS.GRAPH_CFG.ROOT s x)
  if d.is (PRS.PROF_CTL.PROFILE_OFF s) then d.toGraph s k root
  else
    match d.presel s x (d.selector s x k) 64 0 with
    | (none, d) => (d.cntPrs s 6).toGraph s k root
    | (some i, d) =>
      if d.is (PRS.PRESEL_RESULT.GRAPH s x i) then d.toGraph s k (d.get (PRS.PRESEL_RESULT.START_NODE s x i))
      else match d.runProfile s (d.get (PRS.PRESEL_RESULT.PROFILE s x i)) k with
        | (some key, d) => (d.cntPrs s 0).keyed k key
        | (none, d) => (d.cntPrs s 3).toGraph s k root

/-- PARSE_FRAME: the next frame of pass port `p` reaches the parser; `ups`: errors in the words it reads. -/
def execParseFrame (p : Nat) (ups : List (Nat × Nat)) (s : State) : Out :=
  act s (fun d => match d.frameAt p 0 with
      | some k => k.stage == .parse && d.blockOn k.slice 9
      | none => false)
    (fun d => match d.frameAt p 0 with
      | some k => parseEff k (d.upset ups)
      | none => d)

-- The parse graph (R87, R88).

/-- The state of a walk. -/
structure Walk where
  cur : Nat := 0
  node : Nat
  last : Nat
  visits : Nat := 0
  offs : List Nat := [0, 0, 0, 0, 0, 0]
  flags : Nat := 0
  kt : Nat := 0
  key : List Byte

/-- Bits of a KEYTYPE half replace those set before where they are not 0. -/
def mergeKeytype (old new : Nat) : Nat :=
  (if new % 4 = 0 then old % 4 else new % 4) + (if new / 4 % 4 = 0 then old / 4 % 4 else new / 4 % 4) * 4

/-- The selector of a node at the cursor; `none`: a byte that SEL_MASK selects lies beyond the window. -/
def selRead (w : List Byte) (o mask : Nat) : Option Nat :=
  if (Nat.ble 256 mask && Nat.ble w.length o) || (mask % 256 != 0 && Nat.ble w.length (o + 1)) then none
  else some (Nat.land (beAt w o 2) mask)

/-- The first transition from `t` on that matches `v`, among `n`; a parity error ends the search with its word. -/
def Dev.transFind (d : Dev) (s x base v : Nat) : Nat → Nat → Option (Nat ⊕ Fld)
  | 0, _ => none
  | n + 1, t =>
    let i := (base + t) % 1024
    let f := PRS.TRANS.VALID s x i
    if d.fldBad f 4 then some (.inr f)
    else if d.is f && d.get (PRS.TRANS.VALUE s x i) == v then some (.inl (d.get (PRS.TRANS.NEXT s x i)))
    else d.transFind s x base v n (t + 1)

/-- One walk (R88): claimed or not, with its last state. `n` is the node limit left. (Log entry 115.) -/
def Dev.walk (d : Dev) (s x : Nat) (w : List Byte) : Nat → Walk → Bool × Walk × Dev
  | 0, g => (false, g, d)
  | n + 1, g =>
    let i := g.node
    let f0 := PRS.NODE_W0.VALID s x i
    let f1 := PRS.NODE_W1.KEYTYPE s x i
    if d.fldBad f0 8 then (false, g, d.prsParity s f0 8)
    else if d.fldBad f1 8 then (false, g, d.prsParity s f1 8)
    else if !d.is f0 || d.get (PRS.NODE_W0.ADV_MODE s x i) == 3 || d.get (PRS.NODE_W0.ADV_PART s x i) == 3 then (false, g, d)
    else
      let lay := d.get (PRS.NODE_W0.LAYER s x i)
      let g := { g with visits := g.visits + 1, last := i,
                        offs := if Nat.ble 1 lay && Nat.ble lay 6 then setNth g.offs (lay - 1) g.cur else g.offs,
                        flags := Nat.lor g.flags (d.get (PRS.NODE_W0.FLAGS_SET s x i)),
                        kt := mergeKeytype g.kt (d.get (PRS.NODE_W1.KEYTYPE s x i)) }
      let cs := (List.range (d.get (PRS.NODE_W1.EXT_CNT s x i))).map (fun j => PRS.GCMD.W s x ((d.get (PRS.NODE_W1.EXT_BASE s x i) + j) % 1024))
      match cs.find? (fun f => d.fldBad f 4) with
      | some f => (false, g, d.prsParity s f 4)
      | none =>
        match runCmds w g.cur (cs.map d.get) g.key with
        | none => (false, g, d)
        | some key =>
          let g := { g with key := key }
          if d.get (PRS.NODE_W0.ADV_MODE s x i) = 2 then (true, g, d)
          else
            let ao := g.cur + d.get (PRS.NODE_W0.ADV_OFF s x i)
            let scaled := d.get (PRS.NODE_W0.ADV_MODE s x i) == 1
            match selRead w (g.cur + d.get (PRS.NODE_W0.SEL_OFF s x i)) (d.get (PRS.NODE_W0.SEL_MASK s x i)) with
            | none => (false, g, d)
            | some v =>
              if scaled && Nat.ble w.length ao then (false, g, d)
              else
                let b := byteAt w ao
                let part := match d.get (PRS.NODE_W0.ADV_PART s x i) with
                  | 0 => b
                  | 1 => b % 16
                  | _ => b / 16
                let adv := d.get (PRS.NODE_W0.ADV_CONST s x i) + (if scaled then part * 2 ^ d.get (PRS.NODE_W0.ADV_SCALE s x i) else 0)
                let go := fun (next : Nat) (n : Nat) (k : Walk → Bool × Walk × Dev) =>
                  if Nat.blt 255 (g.cur + adv) then (false, g, d) else (fun _ => k { g with cur := g.cur + adv, node := next }) n
                match d.transFind s x (d.get (PRS.NODE_W1.TRANS_BASE s x i)) v (min 16 (d.get (PRS.NODE_W1.TRANS_CNT s x i))) 0 with
                | some (.inr f) => (false, g, d.prsParity s f 4)
                | some (.inl next) => go next n (fun g => d.walk s x w n g)
                | none =>
                  if d.is (PRS.NODE_W1.DEF_STOP s x i) then (d.is (PRS.NODE_W1.DEF_CLAIM s x i), g, d)
                  else go (d.get (PRS.NODE_W1.DEF_NEXT s x i)) n (fun g => d.walk s x w n g)

/-- The walk of one frame, and what becomes of an unclaimed one (R91). GRAPH_FRAMES counts every walk that ends, unclaimed ones too, PROFILE_FRAMES claimed frames only (log entry 123; also 115). -/
def graphWalkEff (k : Pkt) (d : Dev) : Dev :=
  let s := k.slice
  let x := d.setOf s k.epoch
  let (claimed, g, d) := d.walk s x k.window (d.get (PRS.GRAPH_CFG.NODE_LIMIT s x)) { node := k.startNode, last := k.startNode, key := zeroKey }
  let d := (d.cntPrs s 1).cntPrsBy s 2 g.visits
  if claimed then d.keyed k (keyMeta k true false g.last g.kt g.flags g.visits g.offs g.key)
  else
    let d := (d.cntPrs s 4).raise (EV_PRS_NOCLAIM s)
    match d.get (PRS.GRAPH_CFG.NOCLAIM_ACT s x) with
    | 1 => d.withCells k (fun k d => (d.takeFrame k).punt k 0x04)
    | 2 => d.keyed k (keyMeta k true true g.last 0 g.flags g.visits g.offs zeroKey)
    | _ => (d.takeFrame k).freeBufs k

/-- Frame `j` of the graph queue of slice `s`; sixteen walkers take the oldest ones. -/
def Dev.graphFrame (d : Dev) (s j : Nat) : Option Pkt :=
  if Nat.blt j 16 then ((d.pipe.filter (fun k => k.slice == s && k.stage == .graph)).drop j).head? else none

/-- GRAPH_WALK: a walker of slice `sl` takes queued frame `j`; `ups`: errors in the words it reads. -/
def execGraphWalk (sl j : Nat) (ups : List (Nat × Nat)) (s : State) : Out :=
  act s (fun d => (d.graphFrame (sl % 8) j).isSome && d.blockOn (sl % 8) 10) (fun d =>
    match d.graphFrame (sl % 8) j with
    | some k => graphWalkEff k (d.upset ups)
    | none => d)

-- Profiles in use (R93).

/-- Whether an armed or retiring set counts beside the active one for partition `s`. -/
def Dev.otherSetLive (d : Dev) (n : Nat) : Bool := d.is (GLB.PART_CTL.RETIRING n) || d.is (GLB.PART_CTL.ARM n)

/-- Whether profile `p` of slice `s` is in use. -/
def Dev.profileUsed (d : Dev) (s p : Nat) : Bool :=
  let a := d.get (GLB.PART_CTL.ACTIVE s)
  (if d.otherSetLive s then [a, 1 - a] else [a]).any (fun x => (List.range 64).any (fun i =>
    d.is (PRS.PRESEL_RESULT.VALID s x i) && !d.is (PRS.PRESEL_RESULT.GRAPH s x i) && d.get (PRS.PRESEL_RESULT.PROFILE s x i) == p))

/-- A command as its register holds it: the reserved bits of its operation read 0 (Table 4.5). -/
def cmdHeld (c : Nat) : Nat :=
  match bits c 31 30 with
  | 0 => Nat.land c 0x0007FFFF
  | 1 => Nat.land c 0x7FFFC3FF
  | 2 => Nat.land c 0x801FFFFF
  | _ => c

/-- Writes word `w` of profile `p`. -/
def Dev.profileSet (d : Dev) (s p w v : Nat) : Dev :=
  let d := { d with bad := clearBad d.bad (bar0W ((PRS.PROFILE_HDR.L3_OFF s p).key / 8 + 8 * w)) 8 }
  if w = 0 then
    (((((((d.set (PRS.PROFILE_HDR.L3_OFF s p) (bits v 7 0)).set (PRS.PROFILE_HDR.L4_OFF s p) (bits v 15 8)).set
      (PRS.PROFILE_HDR.INNER_OFF s p) (bits v 23 16)).set (PRS.PROFILE_HDR.INNER_L3_OFF s p) (bits v 31 24)).set
      (PRS.PROFILE_HDR.INNER_L4_OFF s p) (bits v 39 32)).set (PRS.PROFILE_HDR.PAY_OFF s p) (bits v 47 40)).set
      (PRS.PROFILE_HDR.FLAGS s p) (bits v 55 48)).set (PRS.PROFILE_HDR.KEYTYPE s p) (bits v 59 56)
  else (d.set (PRS.PROFILE_CMD.LO s p (w - 1)) (cmdHeld (bits v 31 0))).set (PRS.PROFILE_CMD.HI s p (w - 1)) (cmdHeld (bits v 63 32))

/-- A write to word `w` of profile `p`; a host's write to a profile in use is refused (R93), an image record's (`img`) is not. -/
def Dev.profileWrite (d : Dev) (img : Bool) (s p w v : Nat) : Dev :=
  if !img && !d.is (PRS.PROF_CTL.PROFILE_OFF s) && d.profileUsed s p then
    (d.set (PRS.PROF_CTL.PROFILE_BUSY s) 1).raise (EV_PRS_PROFILE_BUSY s)
  else d.profileSet s p w v

/-- PROFILE_WRITE. -/
def execProfileWrite (sl p w v : Nat) (s : State) : Out :=
  hostAct s (if w % 16 = 0 then PRS.PROFILE_HDR.L3_OFF (sl % 8) (p % 64) else PRS.PROFILE_CMD.LO (sl % 8) (p % 64) (w % 16 - 1))
    (fun d => d.profileWrite false (sl % 8) (p % 64) (w % 16) v)

end Sys2Proof.Machine
end

