-- ==== Sys2Proof/Machine/Classify.lean ====
section
/-! DEFINITION. The classifier: key assembly, the associative search with its verification, actions, payload scan, scrub, entry updates and the host probe (spec/05). -/

namespace Sys2Proof.Machine

open Sys2Proof

-- Where entries, patterns and hit counters lie (Tables 5.9, 19.8).

def entA (s i w : Nat) : Nat := tblA s (0x2000000 + 0x80 * i + 8 * w)
def patA (s p w : Nat) : Nat := tblA s (0x1C80000 + 0x40 * p + 8 * w)
def hitA (s i : Nat) : Nat := tblA s (0x1C20000 + 8 * i)

-- The control word (Table 5.4).

def ecVALID (c : Nat) : Bool := bit c 0
def ecWIDE (c : Nat) : Bool := bit c 1
def ecSETS (c x : Nat) : Bool := bit c (2 + x)
def ecKPROF (c : Nat) : Nat := bits c 7 4
def ecPRIORITY (c : Nat) : Nat := bits c 23 8
def ecRETIRED (c : Nat) : Bool := bit c 24
def ecSUSPECT (c : Nat) : Bool := bit c 25

/-- Shadow copy of word `w` of entry `i`. -/
def Dev.entW (d : Dev) (s i w : Nat) : Nat := d.rd64 (entA s i w)

/-- Match-array copy of word `w` of entry `i`. -/
def Dev.arrW (d : Dev) (s i w : Nat) : Nat := Nat.xor (d.entW s i w) (sget d.mxor (entA s i w) 0 % 2 ^ 64)

/-- Disturbs match-array words: (address, mask). -/
def Dev.arrUpset (d : Dev) (fl : List (Nat × Nat)) : Dev :=
  { d with mxor := fl.foldl (fun m e => sset m e.1 (Nat.xor (sget m e.1 0) e.2 % 2 ^ 64) 0) d.mxor }

/-- Makes the match-array copy of an entry equal to its shadow copy. -/
def Dev.arrRepair (d : Dev) (s i : Nat) : Dev :=
  { d with mxor := d.mxor.filter (fun e => Nat.blt e.1 (entA s i 0) || Nat.ble (entA s (i + 1) 0) e.1) }

/-- A list without a second occurrence of an element. -/
def dedupNat : List Nat → List Nat
  | [] => []
  | a :: as => a :: (dedupNat as).filter (fun b => b != a)

/-- Entries that can have VALID 1 in the match array: every other control word reads 0 in its lowest byte. In index order. -/
def Dev.arrLive (d : Dev) (s : Nat) : List Nat :=
  let b := entA s 0 10
  let idx := fun (a : Nat) => if Nat.ble b a && Nat.blt a (b + 0x600000) && (a - b) % 128 == 0 then some ((a - b) / 128) else none
  (dedupNat (d.mem.filterMap (fun e => idx e.1) ++ d.mxor.filterMap (fun e => idx e.1))).mergeSort Nat.ble

/-- The conditions of R103 on a control word. -/
def ctlFits (c x kp : Nat) (wide : Bool) : Bool :=
  ecVALID c && !ecRETIRED c && !ecSUSPECT c && ecKPROF c == kp && ecWIDE c == wide && ecSETS c x

/-- Compares a search key with value and mask words read by `f`; a wide pair takes the odd entry's words as well. -/
def keyFits (f : Nat → Nat → Nat) (i : Nat) (wide : Bool) (key : Nat) : Bool :=
  (List.range (if wide then 10 else 5)).all (fun w =>
    let j := i + w / 5
    let m := f j (5 + w % 5)
    Nat.land (bits key (64 * w + 63) (64 * w)) m == Nat.land (f j (w % 5)) m)

/-- An odd entry of a valid pair never matches on its own, and a retired odd entry takes its pair out (R102, R107). -/
def pairFits (f : Nat → Nat → Nat) (i : Nat) (wide : Bool) : Bool :=
  if i % 2 = 1 then !wide && !ecWIDE (f (i - 1) 10)
  else !wide || !ecRETIRED (f (i + 1) 10)

/-- WIDE has effect on an even entry only (Table 5.4). -/
def ctlOf (f : Nat → Nat → Nat) (i : Nat) : Nat := if i % 2 = 1 then clrBit (f i 10) 1 else f i 10

/-- Whether entry `i` matches by the words that `f` reads. -/
def entryFits (f : Nat → Nat → Nat) (x kp : Nat) (wide : Bool) (key i : Nat) : Bool :=
  ctlFits (ctlOf f i) x kp wide && pairFits f i wide && keyFits f i wide key

/-- What a search found: the candidate, the number of matches, a tie. -/
structure Found where
  win : Option Nat
  count : Nat
  tie : Bool

/-- One search of the match array, without the entries of `ex` (R104). -/
def Dev.searchOnce (d : Dev) (s x kp : Nat) (wide : Bool) (key : Nat) (ex : List Nat) : Found :=
  let ms := (d.arrLive s).filter (fun i => !ex.contains i && entryFits (d.arrW s) x kp wide key i)
  let pri := fun i => ecPRIORITY (d.arrW s i 10)
  let best := ms.foldl (fun (b : Option Nat) i => match b with
    | none => some i
    | some j => if Nat.blt (pri j) (pri i) then some i else some j) none
  match best with
  | none => ⟨none, 0, false⟩
  | some i => ⟨some i, min 255 ms.length, ms.any (fun j => j != i && pri j == pri i)⟩

/-- Writes the control word of an entry in both copies, keeping what disturbs the match array. -/
def Dev.setCtl (d : Dev) (s i c : Nat) : Dev := d.wr64 (entA s i 10) c

/-- Sets SUSPECT and raises EV_CLS_PARITY. -/
def Dev.suspect (d : Dev) (s i : Nat) : Dev := (d.setCtl s i (setBit (d.entW s i 10) 25)).raise (EV_CLS_PARITY s)

/-- Counts an error against an entry; a lasting fault retires it (R107). -/
def Dev.entryErr (d : Dev) (s i : Nat) : Dev :=
  match d.errCount 1 (s + 8 * i) 0 with
  | (d, true) => d.setCtl s i (clrBit (setBit (d.entW s i 10) 24) 0)
  | (d, false) => d

/-- Whether the shadow copy of an entry, or of a pair, shows a parity error. -/
def Dev.shadowBad (d : Dev) (s i : Nat) (wide : Bool) : Bool :=
  (List.range 11).any (fun w => d.badAt (entA s i w) != 0 || (wide && Nat.blt w 10 && d.badAt (entA s (i + 1) w) != 0))

/-- The outcome of a verified search. -/
structure Verdict where
  win : Option Nat := none
  count : Nat := 0
  tie : Bool := false
  falseHit : Bool := false

/-- Searches and verifies the winner, with `n` searches left (R106, Table 5.6a). `cnt`: the frame counts FALSE_HITS. -/
def Dev.searchVerified (d : Dev) (s x kp : Nat) (wide : Bool) (key : Nat) (cnt : Bool) : Nat → List Nat → Bool → Verdict × Dev
  | 0, _, fh => ({ falseHit := fh }, d)
  | n + 1, ex, fh =>
    let r := d.searchOnce s x kp wide key ex
    match r.win with
    | none => ({ falseHit := fh }, d)
    | some i =>
      let again := fun (d : Dev) (fh : Bool) =>
        if n = 0 then ({ count := r.count, falseHit := fh }, d)
        else d.searchVerified s x kp wide key cnt n (i :: ex) fh
      let count := fun (d : Dev) => if cnt then d.cntCls s 4 else d
      if d.shadowBad s i wide then again ((count (d.suspect s i)).entryErr s i) true
      else if !(ctlFits (ctlOf (d.entW s) i) x kp wide && pairFits (d.entW s) i wide) then again d fh
      else if !keyFits (d.entW s) i wide key then
        let d := d.arrRepair s i
        let d := if wide then d.arrRepair s (i + 1) else d
        again ((count (d.raise (EV_CLS_FALSE_HIT s))).entryErr s i) true
      else ({ win := some i, count := r.count, tie := r.tie, falseHit := fh }, d)

/-- The result word of Table 5.5. -/
def resultWord (v : Verdict) (kp : Nat) (scanDone : Bool) (first count : Nat) : Nat :=
  (match v.win with
    | some i => i + 2 ^ 24
    | none => 0xFFFF) + v.count * 2 ^ 16 + b2n v.tie * 2 ^ 25 + b2n v.falseHit * 2 ^ 26 + b2n scanDone * 2 ^ 27 +
    kp * 2 ^ 28 + first * 2 ^ 32 + count * 2 ^ 44

-- Key assembly (R98, R99).

/-- The key profile of a frame in set `x`. -/
def Dev.kprofOf (d : Dev) (x : Nat) (k : Pkt) : Nat :=
  let t := bits (beAt k.key 2 2) 12 9
  bits (d.get (CLS.KMAP.W k.slice x)) (4 * t + 3) (4 * t)

/-- The byte that a selector supplies (Table 5.2). -/
def selByte (k : Pkt) (v : Nat) : Nat :=
  if Nat.ble v 0x7F then byteAt k.key v
  else if Nat.ble v 0x87 then bits k.scanGroups (8 * (v - 0x80) + 7) (8 * (v - 0x80))
  else if v = 0x88 then bits k.scanFirst 7 0
  else if v = 0x89 then b2n k.scanHit * 128 + bits k.scanFirst 11 8
  else if v = 0x8A then k.scanCount
  else 0

/-- The search key of a frame by key profile `kp`. -/
def Dev.searchKey (d : Dev) (x kp : Nat) (k : Pkt) : Nat :=
  let n := if d.is (CLS.KPROF_HDR.WIDE k.slice x kp) then 80 else 40
  leNat ((List.range n).map (fun j =>
    BitVec.ofNat 8 (selByte k (bits (d.get (CLS.KPROF_SEL.W k.slice x kp (j / 8))) (8 * (j % 8) + 7) (8 * (j % 8))))))

-- The payload scan (R114 to R117).

/-- First byte and length of the payload window of a frame; length 0: no scan. -/
def Dev.scanWindow (d : Dev) (x kp : Nat) (k : Pkt) : Nat × Nat :=
  let pay := byteAt k.key 11
  let start := pay + d.get (CLS.KPROF_HDR.SCAN_START k.slice x kp)
  let len := min 256 (d.get (CLS.KPROF_HDR.SCAN_LEN k.slice x kp))
  if pay = 0 || !d.is (CLS.KPROF_HDR.SCAN k.slice x kp) then (start, 0)
  else (start, min (start + len) k.body.length - start)

/-- Whether the frame is scanned before its search: not where it is not searched (R100, R114, log entry 126). -/
def Dev.needScan (d : Dev) (k : Pkt) : Bool :=
  let x := d.setOf k.slice k.epoch
  let kp := d.kprofOf x k
  d.is (CLS.CTL.EN k.slice) && d.is (CLS.KPROF_HDR.VALID k.slice x kp) && (d.scanWindow x kp k).2 != 0

/-- A letter without its case. -/
def lowerByte (b : Nat) : Nat := if Nat.ble 0x41 b && Nat.ble b 0x5A then b + 0x20 else b

/-- Whether pattern bytes stand at the head of a window. -/
def patAtHead (nocase : Bool) : List Byte → List Byte → Bool
  | [], _ => true
  | _ :: _, [] => false
  | p :: ps, b :: bs =>
    (if nocase then lowerByte p.toNat == lowerByte b.toNat else p == b) && patAtHead nocase ps bs

/-- Positions from `i` on at which a pattern matches. -/
def patHits (nocase : Bool) (pat : List Byte) : List Byte → Nat → List Nat
  | [], _ => []
  | b :: bs, i => if patAtHead nocase pat (b :: bs) then i :: patHits nocase pat bs (i + 1) else patHits nocase pat bs (i + 1)

/-- Patterns that can be valid, in number order. -/
def Dev.patLive (d : Dev) (s : Nat) : List Nat :=
  let b := patA s 0 4
  (dedupNat (d.mem.filterMap (fun e => if Nat.ble b e.1 && Nat.blt e.1 (b + 0x40000) && (e.1 - b) % 64 == 0 then some ((e.1 - b) / 64) else none))).mergeSort Nat.ble

/-- Counts a pattern's parity error; a lasting fault retires it (R117). -/
def Dev.patErr (d : Dev) (s p : Nat) : Dev :=
  match (d.raise (EV_CLS_PARITY s)).errCount 2 (s + 8 * p) 0 with
  | (d, true) => d.wr64 (patA s p 4) (clrBit (setBit (d.rd64 (patA s p 4)) 16) 0)
  | (d, false) => d

/-- Matches of one pattern in a window. -/
def Dev.patMatches (d : Dev) (s p : Nat) (w : List Byte) : List Nat :=
  let c := d.rd64 (patA s p 4)
  let pat := d.rdBytes (patA s p 0) (bits c 7 3 + 1)
  let l := patHits (bit c 8) pat w 0
  if bit c 9 then l.filter (fun i => i == 0) else l

/-- The effect of a scan on a frame. (Log entry 23.) -/
def scanEff (k : Pkt) (d : Dev) : Dev :=
  let s := k.slice
  let x := d.setOf s k.epoch
  let (a, n) := d.scanWindow x (d.kprofOf x k) k
  let w := sliceB k.body a n
  let live := (d.patLive s).filter (fun p =>
    let c := d.rd64 (patA s p 4)
    bit c 0 && bit c (1 + x) && !bit c 16)
  let bad := fun p => (List.range 5).any (fun v => d.badAt (patA s p v) != 0)
  let hits : List (Nat × Nat × Nat) := (live.filter (fun p => !bad p)).flatMap (fun p =>
    let c := d.rd64 (patA s p 4)
    (d.patMatches s p w).map (fun i => (i + bits c 7 3, p, bits c 15 10)))
  let first := hits.foldl (fun (m : Option (Nat × Nat)) h => match m with
    | none => some (h.1, h.2.1)
    | some (e, p) => if Nat.blt h.1 e || (h.1 == e && Nat.blt h.2.1 p) then some (h.1, h.2.1) else some (e, p)) none
  let d := (live.filter bad).foldl (fun d p => d.patErr s p) d
  let d := (d.cntCls s 6).cntClsBy s 7 hits.length
  d.putFrame { k with stage := .scanned, scanDone := true, scanHit := !hits.isEmpty, scanCount := min 255 hits.length,
                      scanFirst := match first with
                        | some (_, p) => p
                        | none => 0,
                      scanGroups := hits.foldl (fun g h => setBit g h.2.2) 0 }

/-- PAYLOAD_SCAN of the next frame of pass port `p`; `ups`: errors in pattern words. -/
def execPayloadScan (p : Nat) (ups : List (Nat × Nat)) (s : State) : Out :=
  act s (fun d => match d.frameAt p 2 with
      | some k => k.stage == .keyed && d.needScan k && d.blockOn k.slice 11
      | none => false)
    (fun d => match d.frameAt p 2 with
      | some k => scanEff k (d.upset ups)
      | none => d)

-- Actions (R109 to R112).

/-- The action word that applies: fields of the entry where it enables them, else of the default action. -/
def mergeAction (a dflt : Nat) : Nat :=
  let f := fun (hi lo en : Nat) (w : Nat) => if bit a en then setBits w hi lo (bits a hi lo) else w
  let w := f 39 24 40 (f 14 13 15 (f 11 8 12 (f 6 5 7 (f 3 0 4 dflt))))
  setBits (setBits (setBits (setBits w 17 16 (bits a 17 16)) 20 18 (bits a 20 18)) 21 21 (bits a 21 21)) 22 22 (bits a 22 22)

def actDISP (a : Nat) : Nat := bits a 17 16
def actSKIP (a : Nat) : Bool := bit a 21
def actNOLEARN (a : Nat) : Bool := bit a 22

/-- D3 as the action starts it (R112). -/
def d3OfAct (a : Nat) : Nat :=
  bits a 3 0 + bits a 6 5 * 2 ^ 4 + bits a 11 8 * 2 ^ 6 + bits a 14 13 * 2 ^ 10 + bits a 39 24 * 2 ^ 22

/-- Counts a hit of entry `i` (R113). -/
def Dev.hit (d : Dev) (s i : Nat) : Dev := d.wr64 (hitA s i) ((d.rd64 (hitA s i) + 1) % 2 ^ 40)

/-- Applies the action to a classified frame (R111): DISP 1 discards it before its cells are taken. PUNTS counts before the cells are taken (R124, log entry 124). -/
def Dev.applyAction (d : Dev) (k : Pkt) (a : Nat) : Dev :=
  let s := k.slice
  let k := { k with act := a, d3 := d3OfAct a, stage := .classified,
                    mirSess := if actDISP a = 1 || actDISP a = 2 then 0 else bits a 20 18 }
  match actDISP a with
  | 1 => (d.takeFrame k).cntCls s 8
  | 2 => (d.cntCls s 9).withCells k (fun k d => (d.takeFrame k).punt k 0x00)
  | 3 => (d.cntCls s 9).withCells k (fun k d => (d.puntCopy k 0x00).putFrame k)
  | _ => d.withCells k (fun k d => d.putFrame k)

/-- CLASSIFY on one frame. -/
def classifyEff (k : Pkt) (d : Dev) : Dev :=
  let s := k.slice
  let x := d.setOf s k.epoch
  let kp := d.kprofOf x k
  let dflt := d.get (CLS.DEFAULT.W s x)
  if !d.is (CLS.CTL.EN s) || !d.is (CLS.KPROF_HDR.VALID s x kp) then
    d.applyAction { k with clsRes := resultWord {} kp k.scanDone k.scanFirst k.scanCount } dflt
  else
    let (v, d) := (d.cntCls s 0).searchVerified s x kp (d.is (CLS.KPROF_HDR.WIDE s x kp)) (d.searchKey x kp k) true 3 [] false
    let k := { k with clsRes := resultWord v kp k.scanDone k.scanFirst k.scanCount }
    match v.win with
    | some i =>
      let d := (d.cntCls s 1).hit s i
      let d := if v.tie then d.cntCls s 3 else d
      d.applyAction k (mergeAction (d.entW s i 11) dflt)
    | none => (d.cntCls s 2).applyAction k dflt

/-- CLASSIFY of the next frame of pass port `p`; `ups`: errors in shadow words, `fl`: bits disturbed in the match array. -/
def execClassify (p : Nat) (ups fl : List (Nat × Nat)) (s : State) : Out :=
  act s (fun d => match d.frameAt p 3 with
      | some k => ((k.stage == .keyed && !d.needScan k) || k.stage == .scanned) && d.blockOn k.slice 11
      | none => false)
    (fun d => match d.frameAt p 3 with
      | some k => classifyEff k ((d.upset ups).arrUpset fl)
      | none => d)

-- Scrub (R108).

/-- The scrub visits entry `i`. An error in the odd half of a wide pair marks that entry only (R108, log entry 125). -/
def scrubEff (s i : Nat) (d : Dev) : Dev :=
  if d.shadowBad s i false then (d.suspect s i).entryErr s i
  else if (List.range 11).any (fun w => sget d.mxor (entA s i w) 0 != 0) then
    ((d.arrRepair s i).cntCls s 5).raise (EV_CLS_SCRUB_FIX s)
  else d

/-- CLS_SCRUB of entry `i` of slice `sl`. -/
def execClsScrub (sl i : Nat) (ups fl : List (Nat × Nat)) (s : State) : Out :=
  act s (fun d => d.sliceOn (sl % 8) && d.is (CLS.CTL.SCRUB_EN (sl % 8)) && Nat.blt i 49152) (fun d => scrubEff (sl % 8) i ((d.upset ups).arrUpset fl))

-- Updates (R110, R118, R119).

/-- Whether an action word may be written (R110). -/
def actionOk (v : Nat) : Bool := bits v 6 5 != 3 && Nat.blt (bits v 11 8) 12 && bits v 23 23 == 0 && bits v 63 41 == 0

/-- A refusal while RETIRING (R41, R118). -/
def Dev.partRefuse (d : Dev) (n : Nat) : Dev := (d.set (GLB.PART_CTL.WRITE_REFUSED n) 1).raise EV_PART_WRITE_REFUSED

/-- A host write of word `w` of entry `i`. A reserved word and a retired entry ignore it, also while RETIRING (R118, log entry 127). -/
def Dev.clsEntryWrite (d : Dev) (s i w v : Nat) : Dev :=
  let own := d.entW s i 10
  let even := d.entW s (i - i % 2) 10
  let odd := i % 2 == 1 && ecWIDE even
  let x := 1 - d.get (GLB.PART_CTL.ACTIVE s)
  let live := if odd then ecVALID even else ecVALID own
  let put := fun (d : Dev) (v : Nat) => { d.wr64 (entA s i w) v with mxor := sset d.mxor (entA s i w) 0 0 }
  if Nat.ble 12 w || Nat.ble 49152 i || ecRETIRED own then d
  else if d.is (GLB.PART_CTL.RETIRING s) && (ecSETS (if odd then even else own) x || (w == 10 && ecSETS v x)) then d.partRefuse s
  else if w = 10 then put d (v % 2 ^ 24)
  else if live then d.set (CLS.CTL.WRITE_LIVE s) 1
  else if w = 11 && !actionOk v then d.set (CLS.CTL.ACTION_REFUSED s) 1
  else put d v

/-- A host write of word `w` of pattern `p`. (Log entry 127.) -/
def Dev.clsPatternWrite (d : Dev) (s p w v : Nat) : Dev :=
  let c := d.rd64 (patA s p 4)
  let x := 1 - d.get (GLB.PART_CTL.ACTIVE s)
  if Nat.ble 5 w || Nat.ble 4096 p || bit c 16 then d
  else if d.is (GLB.PART_CTL.RETIRING s) && (bit c (1 + x) || (w == 4 && bit v (1 + x))) then d.partRefuse s
  else if w = 4 then d.wr64 (patA s p 4) (v % 2 ^ 16)
  else if bit c 0 then d.set (CLS.CTL.WRITE_LIVE s) 1
  else d.wr64 (patA s p w) v

/-- A host write of CLS.DEFAULT_x. (Log entry 24.) -/
def Dev.clsDefaultWrite (d : Dev) (s x v : Nat) : Dev :=
  if !actionOk v then d.set (CLS.CTL.ACTION_REFUSED s) 1
  else d.partWrite s x (fun d => d.set (CLS.DEFAULT.W s x) v)

/-- CLS_ENTRY_WRITE: `kind` 0 an entry's word, 1 a pattern's word, 2 the default action of set `i`. -/
def execClsEntryWrite (sl kind i w v : Nat) (s : State) : Out :=
  match kind with
  | 0 => hostAct2 s (entA (sl % 8) (i % 49152) (w % 16)) (fun d => d.clsEntryWrite (sl % 8) (i % 49152) (w % 16) (v % 2 ^ 64))
  | 1 => hostAct2 s (patA (sl % 8) (i % 4096) (w % 8)) (fun d => d.clsPatternWrite (sl % 8) (i % 4096) (w % 8) (v % 2 ^ 64))
  | _ => hostAct s (CLS.DEFAULT.W (sl % 8) (i % 2)) (fun d => d.clsDefaultWrite (sl % 8) (i % 2) (v % 2 ^ 64))

-- The host probe (R123).

/-- A write of CLS.PROBE_CTL. -/
def Dev.clsProbeWrite (d : Dev) (s v : Nat) : Dev :=
  let put := fun (d : Dev) => (d.set (CLS.PROBE_CTL.SET s) (bits v 5 5)).set (CLS.PROBE_CTL.KPROF s) (bits v 4 1)
  if !bit v 0 then put d
  else if !d.is (CLS.PROBE_CTL.DONE s) then d
  else
    let key := (List.range 10).foldl (fun k w => k + d.get (CLS.PROBE_KEY.W s w) * 2 ^ (64 * w)) 0
    let d := (put d).set (CLS.PROBE_CTL.DONE s) 0
    { d with tbl.probe := sset d.tbl.probe s (some key) none }

/-- CLS_PROBE: a write `v` of CLS.PROBE_CTL with GO = 1. -/
def execClsProbe (sl v : Nat) (s : State) : Out := hostAct s (CLS.PROBE_CTL.GO (sl % 8)) (fun d => d.clsProbeWrite (sl % 8) (setBit v 0))

/-- The probe's search. (Log entry 116.) -/
def probeDoneEff (s key : Nat) (d : Dev) : Dev :=
  let x := d.get (CLS.PROBE_CTL.SET s)
  let kp := d.get (CLS.PROBE_CTL.KPROF s)
  let (v, d) := d.searchVerified s x kp (d.is (CLS.KPROF_HDR.WIDE s x kp)) key false 3 [] false
  let d := (d.set (CLS.PROBE_RES.W s) (resultWord v kp false 0 0)).set (CLS.PROBE_CTL.DONE s) 1
  { d with tbl.probe := sset d.tbl.probe s none none }

/-- CLS_PROBE_DONE. -/
def execClsProbeDone (sl : Nat) (ups fl : List (Nat × Nat)) (s : State) : Out :=
  act s (fun d => (sget d.tbl.probe (sl % 8) none).isSome) (fun d =>
    match sget d.tbl.probe (sl % 8) none with
    | some key => probeDoneEff (sl % 8) key ((d.upset ups).arrUpset fl)
    | none => d)

end Sys2Proof.Machine
end

