-- ==== Sys2Proof/Machine/Forward.lean ====
section
/-! DEFINITION. The forwarding stage: MAC, host-route, prefix and next-hop tables, lookup order, learning, aging and the table commands (spec/06), and the host writes of the log rings (R137). -/

namespace Sys2Proof.Machine

open Sys2Proof

-- Tables (R125, Table 19.8): 0 MAC, 1 host route, 2 prefix, 3 next hop.

/-- Offset of a table in the table space of a slice. -/
def fwdBase (t : Nat) : Nat := if t = 0 then 0 else if t = 1 then 0x400000 else if t = 2 then 0xC00000 else 0x1C00000

/-- Address of word `w` of slot `k` of a table. -/
def fwdA (s t k w : Nat) : Nat := tblA s (fwdBase t + (if t = 3 then 8 * k else 16 * k + 8 * w))

def Dev.fwdW (d : Dev) (s t k w : Nat) : Nat := d.rd64 (fwdA s t k w)

def fwVALID (w : Nat) : Bool := bit w 62
def fwRETIRED (w : Nat) : Bool := bit w 63
def fwSETS (w x : Nat) : Bool := bit w (60 + x)
def fwV6 (w : Nat) : Bool := bit w 58
def fwLEN (w : Nat) : Nat := bits w 39 32
def fwVRF (w : Nat) : Nat := bits w 51 40

/-- FWD.NOW (R138). -/
def Dev.fwdNow (d : Dev) : Nat := d.tick / 62500000 % 65536

/-- A parity error met by a lookup (R141): log, count, event; a lasting fault retires the slot. -/
def Dev.fwdParity (d : Dev) (s t k w : Nat) : Dev :=
  let d := (((d.set (FWD.PARITY_LOG.TABLE s) t).set (FWD.PARITY_LOG.SLOT s) k).set (FWD.PARITY_LOG.WORD s) w)
  let d := (d.cntFwd s 12).raise (EV_FWD_PARITY s)
  match d.errCount 3 (s + 8 * t + 32 * k) 0 with
  | (d, true) => if t = 3 then d.wr64 (fwdA s 3 k 0) (setBit (d.fwdW s 3 k 0) 59) else d.wr64 (fwdA s t k 0) (setBit (d.fwdW s t k 0) 63)
  | (d, false) => d

/-- The first word of a slot, among `ws`, that shows a parity error. -/
def Dev.fwdBadWord (d : Dev) (s t k : Nat) (ws : List Nat) : Option Nat := ws.find? (fun w => d.badAt (fwdA s t k w) != 0)

-- Keys (R126, R127).

/-- Word 0 of a MAC key. -/
def macKey (vid mac : Nat) : Nat := mac % 2 ^ 48 + vid % 4096 * 2 ^ 48

/-- The MAC bucket (R126). -/
def Dev.macBucket (d : Dev) (s key : Nat) : Nat :=
  hashFrom (d.get (FWD.HASH_SEED.SEED s)) (natBE 2 (key / 2 ^ 48 % 4096) ++ natBE 6 key) % 65536

/-- The host-route bucket (R126). -/
def Dev.hostBucket (d : Dev) (s vrf : Nat) (v6 : Bool) (addr : Nat) : Nat :=
  hashFrom (d.get (FWD.HASH_SEED.SEED s)) (natBE 2 vrf ++ natBE (if v6 then 16 else 4) addr) % 131072

/-- Whether slot `k` is the second half of an IPv6 host entry. -/
def Dev.hostTail (d : Dev) (s k : Nat) : Bool := k % 2 == 1 && fwV6 (d.fwdW s 1 (k - 1) 0)

/-- Whether slot `k` belongs to the IPv6 prefix at the head of its group of four. -/
def Dev.prefixTail (d : Dev) (s k : Nat) : Bool := k % 4 != 0 && fwV6 (d.fwdW s 2 (k / 4 * 4) 0)

/-- The IPv6 address of an entry: words 2 and 3. -/
def Dev.fwdAddr6 (d : Dev) (s t k : Nat) : Nat := d.fwdW s t k 2 * 2 ^ 64 + d.fwdW s t k 3

/-- Whether slot `k` of table `t` holds this exact key, whatever its sets: MAC by word 0, host routes by (VRF, V6, address). -/
def Dev.macHolds (d : Dev) (s key k : Nat) : Bool :=
  let w := d.fwdW s 0 k 0
  fwVALID w && !fwRETIRED w && w % 2 ^ 60 == key

def Dev.hostHolds (d : Dev) (s vrf : Nat) (v6 : Bool) (addr k : Nat) : Bool :=
  let w := d.fwdW s 1 k 0
  fwVALID w && !fwRETIRED w && !d.hostTail s k && fwV6 w == v6 && fwVRF w == vrf &&
    (if v6 then k % 2 == 0 && d.fwdAddr6 s 1 k == addr else w % 2 ^ 32 == addr)

/-- The four slots of a bucket. -/
def bucketSlots (b : Nat) : List Nat := [4 * b, 4 * b + 1, 4 * b + 2, 4 * b + 3]

/-- The result of an exact search of a bucket: parity errors are handled, slots with one are absent; `bad` tells that there was one. `keys` are the words that the search compares in a slot; of the slot that holds the key the result word is read too. A retired slot takes no part (R141). -/
def Dev.bucketFind (d : Dev) (s t : Nat) (slots : List Nat) (holds : Dev → Nat → Bool) (keys : Dev → Nat → List Nat) : Option Nat × Bool × Dev :=
  slots.foldl (fun (r : Option Nat × Bool × Dev) k =>
    let (m, bad, d) := r
    if fwRETIRED (d.fwdW s t k 0) then (m, bad, d)
    else
      let hit := m.isNone && holds d k
      match d.fwdBadWord s t k (if hit then keys d k ++ [1] else keys d k) with
      | some w => (m, true, d.fwdParity s t k w)
      | none => (if hit then some k else m, bad, d)) (none, false, d)

/-- MAC lookup of (VID, address) among entries that meet `p`. -/
def Dev.macFind (d : Dev) (s key : Nat) (p : Nat → Bool) : Option Nat × Bool × Dev :=
  d.bucketFind s 0 (bucketSlots (d.macBucket s key)) (fun d k => d.macHolds s key k && p (d.fwdW s 0 k 0)) (fun _ _ => [0])

/-- Host-route lookup in set `x`; the address words of every IPv6 entry of its VRF are compared. -/
def Dev.hostFind (d : Dev) (s x vrf : Nat) (v6 : Bool) (addr : Nat) : Option Nat × Bool × Dev :=
  let slots := (bucketSlots (d.hostBucket s vrf v6 addr)).filter (fun k => !d.hostTail s k)
  d.bucketFind s 1 slots (fun d k => d.hostHolds s vrf v6 addr k && fwSETS (d.fwdW s 1 k 0) x)
    (fun d k => let w := d.fwdW s 1 k 0
      if v6 && fwVALID w && fwV6 w && fwVRF w == vrf then [0, 2, 3] else [0])

/-- Prefix slots whose VALID byte is listed, in slot order: every other slot is not valid. -/
def Dev.prefixLive (d : Dev) (s : Nat) : List Nat :=
  let b := fwdA s 2 0 0 + 7
  (d.mem.filterMap (fun e => if Nat.ble b e.1 && Nat.blt e.1 (b + 0x1000000) && (e.1 - b) % 16 == 0 then some ((e.1 - b) / 16) else none)).filter
    (fun k => fwVALID (d.fwdW s 2 k 0) && !fwRETIRED (d.fwdW s 2 k 0) && !d.prefixTail s k && (!fwV6 (d.fwdW s 2 k 0) || k % 4 == 0))

/-- Whether the prefix in slot `k` covers an address of a VRF. -/
def Dev.prefixCovers (d : Dev) (s vrf : Nat) (v6 : Bool) (addr k : Nat) : Bool :=
  let w := d.fwdW s 2 k 0
  let n := if v6 then 128 else 32
  let sh := 2 ^ (n - fwLEN w)
  fwV6 w == v6 && fwVRF w == vrf && Nat.ble (fwLEN w) n && (if v6 then d.fwdAddr6 s 2 k else w % 2 ^ 32) / sh == addr / sh

/-- Longest-prefix lookup in set `x`; any error among the prefixes that cover the address makes it a miss (R141). -/
def Dev.prefixFind (d : Dev) (s x vrf : Nat) (v6 : Bool) (addr : Nat) : Option Nat × Dev :=
  let l := (d.prefixLive s).filter (fun k => d.prefixCovers s vrf v6 addr k && fwSETS (d.fwdW s 2 k 0) x)
  let ws := if v6 then [0, 1, 2, 3] else [0, 1]
  match l.find? (fun k => (d.fwdBadWord s 2 k ws).isSome) with
  | some k => (none, d.fwdParity s 2 k ((d.fwdBadWord s 2 k ws).getD 0))
  | none =>
    (l.foldl (fun (b : Option Nat) k => match b with
      | none => some k
      | some j => if Nat.blt (fwLEN (d.fwdW s 2 j 0)) (fwLEN (d.fwdW s 2 k 0)) then some k else some j) none, d)

-- Learning (R134, R135, R137).

/-- What the source lookup of a frame asks for (Table 6.6): `off` is an entry that its set does not use, `none_` a bad slot in the bucket (R141). -/
inductive SrcOut where
  | none_
  | off
  | insert (slot : Nat)
  | full
  | refresh (slot : Nat)
  | move (slot : Nat)
  | clash
deriving DecidableEq, Repr

/-- A free slot of a MAC bucket: neither valid nor retired. -/
def Dev.macFree (d : Dev) (s key : Nat) : List Nat :=
  (bucketSlots (d.macBucket s key)).filter (fun k => !fwVALID (d.fwdW s 0 k 0) && !fwRETIRED (d.fwdW s 0 k 0))

/-- The outcome of Table 6.6 with the table as it stands; a bad slot in the bucket gives none (R141). -/
def Dev.srcOutcome (d : Dev) (s x vid sa port : Nat) : SrcOut × Dev :=
  let key := macKey vid sa
  match d.macFind s key (fun _ => true) with
  | (_, true, d) => (.none_, d)
  | (none, false, d) => match d.pick (d.macFree s key) with
    | (some k, d) => (.insert k, d)
    | (none, d) => (.full, d)
  | (some k, false, d) =>
    let r := d.fwdW s 0 k 1
    if !fwSETS (d.fwdW s 0 k 0) x then (.off, d)
    else if bits r 22 21 != 0 || bits r 8 0 == port then (.refresh k, d)
    else if bit r 23 then (.clash, d)
    else (.move k, d)

/-- Appends a learn-log record: `kind` 0 learned, 1 moved, 2 aged (R137); PORT of a host route's record is 0 (log entry 128). -/
def Dev.learnRec (d : Dev) (s t k kind w0 res : Nat) : Dev :=
  let w1 := (if t = 0 then bits res 8 0 else 0) + kind * 2 ^ 9 + t * 2 ^ 11 + k * 2 ^ 12 + bits res 39 24 * 2 ^ 31
  d.ringAppend (learnLog s) (natLE 8 w0 ++ natLE 8 w1) (fun d => d.cntFwd s 14)

/-- The source lookup of a frame at step 3: it becomes pending in the table unit, whatever it has found, since the table at its turn decides (R134); one that meets a bad slot ends here (R141), one that finds 64 pending is skipped (R135). -/
def Dev.learnAsk (d : Dev) (k : Pkt) (x vid : Nat) : Dev :=
  let s := k.slice
  let sa := beAt k.window 6 6
  let ok := d.is (FWD.CTL.LEARN_EN s) && d.is (FWD.PORT_CFG.LEARN_EN s x (portIdx k.port)) && d.is (FWD.VLAN.LEARN_EN s x vid) &&
    !actNOLEARN k.act && !k.bad && byteAt k.window 6 % 2 == 0
  if !ok then d
  else
    match d.srcOutcome s x vid sa k.port with
    | (.none_, d) => d
    | (o, d) =>
      if Nat.ble 64 (d.tbl.learns.filter (fun l => l.slice == s)).length then
        match o with
        | .refresh _ | .off => d
        | .clash => d.cntFwd s 16
        | .full => (d.cntFwd s 8).raise (EV_FWD_LEARN_FULL s)
        | _ => d.cntFwd s 9
      else { d with tbl.learns := d.tbl.learns ++ [⟨s, vid, sa, k.port, x, k.lateBad⟩] }

/-- The table unit applies a pending source lookup (Table 6.6). -/
def learnApplyEff (l : Learn) (d : Dev) : Dev :=
  let s := l.slice
  let now := d.fwdNow
  if l.bad then d
  else match d.srcOutcome s l.set l.vid l.sa l.port with
    | (.none_, d) | (.off, d) => d
    | (.insert k, d) =>
      let w0 := macKey l.vid l.sa + 3 * 2 ^ 60 + 2 ^ 62
      let r := l.port % 512 + now * 2 ^ 24
      (((d.wr64 (fwdA s 0 k 0) w0).wr64 (fwdA s 0 k 1) r).cntFwd s 6).learnRec s 0 k 0 w0 r
    | (.full, d) => (d.cntFwd s 8).raise (EV_FWD_LEARN_FULL s)
    | (.refresh k, d) => d.wr64 (fwdA s 0 k 1) (setBits (d.fwdW s 0 k 1) 39 24 now)
    | (.move k, d) =>
      let r := setBits (setBits (d.fwdW s 0 k 1) 8 0 l.port) 39 24 now
      ((d.wr64 (fwdA s 0 k 1) r).cntFwd s 7).learnRec s 0 k 1 (d.fwdW s 0 k 0) r
    | (.clash, d) => d.cntFwd s 16

/-- Pending operation `j` of slice `s`, if none for the same address stands before it. -/
def Dev.learnAt (d : Dev) (s j : Nat) : Option (Learn × Dev) :=
  let mine := d.tbl.learns.filter (fun l => l.slice == s)
  match mine.drop j with
  | [] => none
  | l :: ls =>
    if (mine.take j).any (fun m => m.vid == l.vid && m.sa == l.sa) then none
    else some (l, { d with tbl.learns := d.tbl.learns.filter (fun m => m.slice != s) ++ mine.take j ++ ls })

/-- LEARN_APPLY of pending operation `j` of slice `sl`; `ups`: errors in the words it reads. -/
def execLearnApply (sl j : Nat) (ups : List (Nat × Nat)) (s : State) : Out :=
  act s (fun d => d.sliceOn (sl % 8) && (d.learnAt (sl % 8) j).isSome) (fun d => match (d.upset ups).learnAt (sl % 8) j with
    | some (l, d) => learnApplyEff l d
    | none => d)

-- The lookup (R128 to R130).

/-- What a lookup decides. -/
inductive FwdOut where
  | dest (x : Dest) (res : Nat)
  | route (nh res : Nat)
  | miss
deriving DecidableEq, Repr

/-- A next hop that resolves: its word, unless it is not valid, retired or bad (R130, R141). -/
def Dev.nextHop (d : Dev) (s n : Nat) : Option Nat × Dev :=
  if d.badAt (fwdA s 3 n 0) != 0 then (none, d.fwdParity s 3 n 0)
  else
    let w := d.fwdW s 3 n 0
    if bit w 58 && !bit w 59 then (some w, d) else (none, d)

/-- The result of a route entry (Table 6.3). -/
def routeOut (r : Nat) : FwdOut :=
  match bits r 15 14 with
  | 0 => .route (bits r 13 0) r
  | 1 => .dest .drop r
  | 2 => .dest (.punt 0x02) r
  | _ => .miss

/-- Step 4 of Table 6.5: the winner among host route and prefix, which are searched at the same time, so that errors of either search count (R141). -/
def Dev.routeFind (d : Dev) (s x vrf : Nat) (v6 : Bool) (addr : Nat) : FwdOut × Bool × Dev :=
  match d.hostFind s x vrf v6 addr with
  | (some k, _, d) =>
    let (_, d) := d.prefixFind s x vrf v6 addr
    (routeOut (d.fwdW s 1 k 1), true, d)
  | (none, _, d) => match d.prefixFind s x vrf v6 addr with
    | (some k, d) => (routeOut (d.fwdW s 2 k 1), false, d)
    | (none, d) => (.miss, false, d)

/-- The hop limit of a frame: IPv4 TTL or IPv6 hop limit. -/
def Pkt.hops (k : Pkt) : Nat := if byteAt k.body k.l3 / 16 = 4 then byteAt k.body (k.l3 + 8) else byteAt k.body (k.l3 + 7)

/-- Marks a frame as routed to a next hop with address `rmac` as its source (R128). -/
def Pkt.routeTo (k : Pkt) (w rmac : Nat) : Pkt :=
  { k with nh := some (bits w 47 0), rmac := rmac, decTtl := bit w 57, dest := .port (bits w 56 48) }

/-- D3 with the egress of a destination. -/
def d3To (w : Nat) : Dest → Nat
  | .port p => setBits (setBits w 20 12 p) 21 21 0
  | .group g => setBits (setBits w 20 12 g) 21 21 1
  | _ => w

/-- The frame goes on to the Quarry, or ends here. -/
def Dev.forwarded (d : Dev) (k : Pkt) (x : Dest) (res : Nat) : Dev :=
  let k := { k with dest := x, fwdRes := res, stage := .forwarded, d3 := d3To k.d3 x }
  match x with
  | .drop => (d.takeFrame k).freeBufs k
  | .punt r => (d.takeFrame k).punt k r
  | _ => d.putFrame k

/-- A routed frame with a next hop that resolves: step 7. -/
def Dev.routed (d : Dev) (k : Pkt) (x w res : Nat) : Dev :=
  let s := k.slice
  if bit w 57 && Nat.ble k.hops 1 then
    let d := d.cntFwd s 13
    d.forwarded k (if d.is (FWD.CTL.TTL_PUNT s) then .punt 0x03 else .drop) res
  else
    let k := k.routeTo w (d.get (FWD.RMAC.MAC s x))
    d.forwarded k k.dest res

/-- An L3 miss (R130). -/
def Dev.l3Miss (d : Dev) (k : Pkt) (x : Nat) : Dev :=
  let s := k.slice
  let d := d.cntFwd s 5
  match d.get (FWD.MISS.ACT s x) with
  | 1 => d.forwarded k (.punt 0x02) 0
  | 2 => match d.nextHop s (d.get (FWD.MISS.NH s x)) with
    | (some w, d) => d.routed k x w 0
    | (none, d) => d.forwarded k .drop 0
  | _ => d.forwarded k .drop 0

/-- Steps 4 to 7 of Table 6.5. -/
def Dev.lookup (d : Dev) (k : Pkt) (x vid : Nat) : Dev :=
  let s := k.slice
  let i := portIdx k.port
  let da := beAt k.window 0 6
  let kt := bits (beAt k.key 2 2) 12 9
  let l3 := kt % 4
  if d.is (FWD.RMAC.EN s x) && da == d.get (FWD.RMAC.MAC s x) && d.is (FWD.PORT_CFG.L3_EN s x i) && (l3 == 1 || l3 == 2) then
    let v6 := l3 == 2
    let addr := if v6 then beAt k.key 32 16 else beAt k.key 44 4
    let (o, host, d) := d.routeFind s x (d.get (FWD.PORT_CFG.VRF s x i)) v6 addr
    let hit := fun (d : Dev) => d.cntFwd s (if host then 3 else 4)
    match o with
    | .miss => d.l3Miss k x
    | .dest t res => (hit d).forwarded k t res
    | .route n res => match d.nextHop s n with
      | (some w, d) => (hit d).routed k x w res
      | (none, d) => d.l3Miss k x
  else if da = 0xFFFFFFFFFFFF then (d.cntFwd s 2).forwarded k (.group (d.get (FWD.VLAN.FLOOD_GROUP s x vid))) 0
  else
    let (m, _, d) := d.macFind s (macKey vid da) (fun w => fwSETS w x)
    let d := d.cntFwd s 0
    match m with
    | some j =>
      let r := d.fwdW s 0 j 1
      let d := d.cntFwd s 1
      match bits r 22 21 with
      | 0 => d.forwarded k (.port (bits r 8 0)) r
      | 1 => d.forwarded k (.group (bits r 20 9)) r
      | 2 => d.forwarded k .drop r
      | _ => d.forwarded k (.punt 0x02) r
    | none => match d.get (FWD.VLAN.UNKNOWN_ACT s x vid) with
      | 0 => (d.cntFwd s 2).forwarded k (.group (d.get (FWD.VLAN.FLOOD_GROUP s x vid))) 0
      | 2 => d.forwarded k (.punt 0x02) 0
      | _ => d.forwarded k .drop 0

/-- FORWARD_LOOKUP on one frame. -/
def forwardEff (k : Pkt) (d : Dev) : Dev :=
  let s := k.slice
  let x := d.setOf s k.epoch
  let kt := bits (beAt k.key 2 2) 12 9
  let vid := if bits kt 3 2 = 1 then beAt k.key 54 2 % 4096 else d.get (FWD.PORT_CFG.PVID s x (portIdx k.port))
  if !d.is (FWD.CTL.EN s) then d.forwarded k (.port 511) 0
  else if !d.is (FWD.VLAN.VALID s x vid) then (d.cntFwd s 15).forwarded k .drop 0
  else (d.learnAsk k x vid).lookup k x vid

/-- FORWARD_LOOKUP of the next frame of pass port `p`; `ups`: errors in the words it reads. -/
def execForwardLookup (p : Nat) (ups : List (Nat × Nat)) (s : State) : Out :=
  act s (fun d => match d.frameAt p 4 with
      | some k => k.stage == .classified && d.blockOn k.slice 12
      | none => false)
    (fun d => match d.frameAt p 4 with
      | some k => forwardEff k (d.upset ups)
      | none => d)

-- Aging (R138 to R140).

/-- The table unit carries out a compare-and-delete with the word `w` that the sweep read (R139); the record has word 0 as it was before (log entry 128). -/
def Dev.ageDelete (d : Dev) (s t k w : Nat) : Dev :=
  match d.fwdBadWord s t k [0, 1] with
  | some b => d.fwdParity s t k b
  | none =>
    let w0 := d.fwdW s t k 0
    if d.fwdW s t k 1 = w then ((d.wr64 (fwdA s t k 0) (clrBit w0 62)).cntFwd s 10).learnRec s t k 2 w0 w
    else d.cntFwd s 11

/-- Whether the sweep visits a slot: a good MAC entry that is not static, a good host-route entry that ages. -/
def Dev.ageVisits (d : Dev) (s t k : Nat) : Bool :=
  let r := d.fwdW s t k 1
  d.is (FWD.AGE_CFG.AGE_EN s) && fwVALID (d.fwdW s t k 0) && !fwRETIRED (d.fwdW s t k 0) && !(t == 1 && d.hostTail s k) &&
    (if t = 0 then !bit r 23 else bit r 16)

/-- The sweep reads a slot: a word with an error is skipped and reported (R141); an entry of age AGE_MAX or more gets a compare-and-delete, which the table unit carries out at once or, with `later`, behind other operations. -/
def Dev.ageRead (d : Dev) (s t k : Nat) (later : Bool) : Dev :=
  match d.fwdBadWord s t k [0, 1] with
  | some b => d.fwdParity s t k b
  | none =>
    let w := d.fwdW s t k 1
    if Nat.blt ((d.fwdNow + 65536 - bits w 39 24) % 65536) (d.get (FWD.AGE_CFG.AGE_MAX s)) then d
    else if later then { d with tbl.ageCas := d.tbl.ageCas ++ [⟨s, t, k, w⟩] }
    else d.ageDelete s t k w

/-- The compare-and-delete that waits for slot `k`. -/
def Dev.ageWaits (d : Dev) (s t k : Nat) : Option AgeCas := d.tbl.ageCas.find? (fun a => a.slice == s && a.table == t && a.slot == k)

/-- The visit of a slot ends the compare-and-delete that it left behind, or reads the slot. -/
def fwdAgeEff (s t k : Nat) (later : Bool) (d : Dev) : Dev :=
  match d.ageWaits s t k with
  | some a => { d with tbl.ageCas := d.tbl.ageCas.filter (fun b => b != a) }.ageDelete s t k a.word
  | none => d.ageRead s t k later

/-- FWD_AGE_VISIT of slot `k` of table `t` (0 MAC, 1 host route). `w.1`: the compare-and-delete that it issues still waits when the visit ends, and the next visit of the slot carries it out (log entry 112); `w.2`: errors in the words that it reads. -/
def execFwdAgeVisit (sl t k : Nat) (w : Bool × List (Nat × Nat)) (s : State) : Out :=
  let sl := sl % 8
  act s (fun d => d.sliceOn sl && Nat.blt t 2 && Nat.blt k (if t = 0 then 262144 else 524288) && (d.ageVisits sl t k || (d.ageWaits sl t k).isSome))
    (fun d => fwdAgeEff sl t k w.1 (d.upset w.2))

-- Commands (R132, R133).

/-- The command's key: VRF, V6, LEN and address, or the MAC key. -/
def Dev.cmdAddr (d : Dev) (s : Nat) (v6 : Bool) : Nat :=
  if v6 then d.get (FWD.CMD_KEY.W s 1) * 2 ^ 64 + d.get (FWD.CMD_KEY.W s 2) else d.get (FWD.CMD_KEY.W s 0) % 2 ^ 32

/-- The slot that holds the command's key, whatever its sets. -/
def Dev.cmdFind (d : Dev) (s t : Nat) : Option Nat :=
  let w := d.get (FWD.CMD_KEY.W s 0)
  let v6 := fwV6 w
  let addr := d.cmdAddr s v6
  if t = 0 then (bucketSlots (d.macBucket s (w % 2 ^ 60))).find? (fun k => d.macHolds s (w % 2 ^ 60) k)
  else if t = 1 then (bucketSlots (d.hostBucket s (fwVRF w) v6 addr)).find? (fun k => d.hostHolds s (fwVRF w) v6 addr k)
  else (d.prefixLive s).find? (fun k =>
    let e := d.fwdW s 2 k 0
    fwV6 e == v6 && fwVRF e == fwVRF w && fwLEN e == fwLEN w && (if v6 then d.fwdAddr6 s 2 k else e % 2 ^ 32) == addr)

/-- Whether a slot can take a part of an entry: neither valid, retired nor part of a valid IPv6 entry. -/
def Dev.slotFree (d : Dev) (s t k : Nat) : Bool :=
  let w := d.fwdW s t k 0
  let h := if t = 1 then k / 2 * 2 else k / 4 * 4
  let head := d.fwdW s t h 0
  if t != 0 && k != h && fwV6 head then !fwVALID head && !fwRETIRED head
  else !fwVALID w && !fwRETIRED w

/-- The first free place for a prefix from place `i` on, over `n` places of `g` slots. -/
def Dev.prefixPlace (d : Dev) (s g : Nat) : Nat → Nat → Option Nat
  | 0, _ => none
  | n + 1, i =>
    let k := i * g % 1048576
    if (List.range g).all (fun j => d.slotFree s 2 (k + j)) then some k else d.prefixPlace s g n (i + 1)

/-- A free slot for the command's key. -/
def Dev.cmdPlace (d : Dev) (s t : Nat) : Option Nat × Dev :=
  let w := d.get (FWD.CMD_KEY.W s 0)
  let v6 := fwV6 w
  if t = 0 then d.pick (d.macFree s (w % 2 ^ 60))
  else if t = 1 then
    let l := bucketSlots (d.hostBucket s (fwVRF w) v6 (d.cmdAddr s v6))
    d.pick (l.filter (fun k => d.slotFree s 1 k && (!v6 || (k % 2 == 0 && d.slotFree s 1 (k + 1)))))
  else
    let g := if v6 then 4 else 1
    let (r, d) := d.fresh
    (d.prefixPlace s g (1048576 / g) (r % (1048576 / g)), d)

/-- Clears what a deleted IPv6 entry left in the slots beside slot `k`, so that a new entry may use its place. -/
def Dev.reclaim (d : Dev) (s t k : Nat) : Dev :=
  let g := if t = 1 then 2 else 4
  let h := k / g * g
  if t = 0 || !fwV6 (d.fwdW s t h 0) then d
  else forN g d (fun j d => (d.wr64 (fwdA s t (h + j) 0) 0).wr64 (fwdA s t (h + j) 1) 0)

/-- Reserved bits of a result word read 0. -/
def resMask (t w : Nat) : Nat := if t = 0 then w % 2 ^ 40 else w % 2 ^ 17 + bits w 39 24 * 2 ^ 24

/-- Writes the command's entry into a slot; the reserved words of an IPv6 prefix are 0 (R127). -/
def Dev.cmdPut (d : Dev) (s t k : Nat) : Dev :=
  let d := d.reclaim s t k
  let w := d.get (FWD.CMD_KEY.W s 0)
  let w0 := (if t = 0 then w % 2 ^ 60 else (if fwV6 w then 0 else w % 2 ^ 32) + (if t = 2 then fwLEN w * 2 ^ 32 else 0) + fwVRF w * 2 ^ 40 + b2n (fwV6 w) * 2 ^ 58) +
    d.get (FWD.CMD_CTL.SETS s) * 2 ^ 60 + 2 ^ 62
  let d := d.wr64 (fwdA s t k 1) (resMask t (d.get (FWD.CMD_RES.W s)))
  let d := if t != 0 && fwV6 w then (d.wr64 (fwdA s t k 2) (d.get (FWD.CMD_KEY.W s 1))).wr64 (fwdA s t k 3) (d.get (FWD.CMD_KEY.W s 2)) else d
  let d := if t == 2 && fwV6 w then forN 4 d (fun j d => d.wr64 (fwdA s t k (4 + j)) 0) else d
  d.wr64 (fwdA s t k 0) w0

/-- Whether a prefix command's arguments are wrong (R132). -/
def Dev.cmdBadPrefix (d : Dev) (s : Nat) : Bool :=
  let w := d.get (FWD.CMD_KEY.W s 0)
  let n := if fwV6 w then 128 else 32
  Nat.blt n (fwLEN w) || d.cmdAddr s (fwV6 w) % 2 ^ (n - fwLEN w) != 0

/-- A refusal while RETIRING (R133). -/
def Dev.cmdRefuse (d : Dev) (s : Nat) : HostCmd × Dev := ({ status := 4 }, d.partRefuse s)

/-- Whether RETIRING guards the non-active bit of SETS value `v`. -/
def Dev.setsGuard (d : Dev) (s v : Nat) : Bool := d.is (GLB.PART_CTL.RETIRING s) && bit v (1 - d.get (GLB.PART_CTL.ACTIVE s))

def fwdInsert (s : Nat) (d : Dev) : HostCmd × Dev :=
  let t := d.get (FWD.CMD_CTL.TABLE s)
  if t = 3 || (t == 2 && d.cmdBadPrefix s) then ({ status := 5 }, d)
  else if d.setsGuard s (d.get (FWD.CMD_CTL.SETS s)) then d.cmdRefuse s
  else if (d.cmdFind s t).isSome then ({ status := 2 }, d)
  else match d.cmdPlace s t with
    | (some k, d) => ({ status := 0, data := [k] }, d.cmdPut s t k)
    | (none, d) => ({ status := 1 }, d)

def fwdDelete (s : Nat) (d : Dev) : HostCmd × Dev :=
  let t := d.get (FWD.CMD_CTL.TABLE s)
  if t = 3 then ({ status := 5 }, d)
  else match d.cmdFind s t with
    | none => ({ status := 3 }, d)
    | some k =>
      let w := d.fwdW s t k 0
      if d.setsGuard s (bits w 61 60) then d.cmdRefuse s
      else ({ status := 0, data := [k] }, d.wr64 (fwdA s t k 0) (clrBit w 62))

def fwdSetSets (s : Nat) (d : Dev) : HostCmd × Dev :=
  let t := d.get (FWD.CMD_CTL.TABLE s)
  let v := d.get (FWD.CMD_CTL.SETS s)
  if t = 3 then ({ status := 5 }, d)
  else match d.cmdFind s t with
    | none => ({ status := 3 }, d)
    | some k =>
      let w := d.fwdW s t k 0
      if d.setsGuard s (Nat.xor (bits w 61 60) v) then d.cmdRefuse s
      else ({ status := 0, data := [k] }, d.wr64 (fwdA s t k 0) (setBits w 61 60 v))

def fwdLookupCmd (s : Nat) (d : Dev) : HostCmd × Dev :=
  let t := d.get (FWD.CMD_CTL.TABLE s)
  if t = 3 then ({ status := 5 }, d)
  else match d.cmdFind s t with
    | none => ({ status := 3 }, d)
    | some k => ({ status := 0, data := [k] }, d)

/-- A write of FWD.CMD_CTL: ignored while DONE is 0; GO runs the operation. -/
def Dev.fwdCmdWrite (d : Dev) (s v : Nat) : Dev :=
  if !d.is (FWD.CMD_CTL.DONE s) then d
  else
    let d := (((d.set (FWD.CMD_CTL.SETS s) (bits v 6 5)).set (FWD.CMD_CTL.TABLE s) (bits v 4 3)).set (FWD.CMD_CTL.OP s) (bits v 2 1))
    if !bit v 0 then d
    else
      let d := d.set (FWD.CMD_CTL.DONE s) 0
      let (c, d) := match bits v 2 1 with
        | 0 => fwdInsert s d
        | 1 => fwdDelete s d
        | 2 => fwdSetSets s d
        | _ => fwdLookupCmd s d
      { d with tbl.fwdCmd := sset d.tbl.fwdCmd s (some c) none }

/-- FWD_INSERT: a write of FWD.CMD_CTL with GO and OP 0; so the three below with their OP. -/
def execFwdInsert (sl v : Nat) (s : State) : Out := hostAct s (FWD.CMD_CTL.GO (sl % 8)) (fun d => d.fwdCmdWrite (sl % 8) (setBit (setBits v 2 1 0) 0))

/-- FWD_DELETE. -/
def execFwdDelete (sl v : Nat) (s : State) : Out := hostAct s (FWD.CMD_CTL.GO (sl % 8)) (fun d => d.fwdCmdWrite (sl % 8) (setBit (setBits v 2 1 1) 0))

/-- FWD_SET_SETS. -/
def execFwdSetSets (sl v : Nat) (s : State) : Out := hostAct s (FWD.CMD_CTL.GO (sl % 8)) (fun d => d.fwdCmdWrite (sl % 8) (setBit (setBits v 2 1 2) 0))

/-- FWD_LOOKUP. -/
def execFwdLookup (sl v : Nat) (s : State) : Out := hostAct s (FWD.CMD_CTL.GO (sl % 8)) (fun d => d.fwdCmdWrite (sl % 8) (setBit (setBits v 2 1 3) 0))

/-- A forwarding command publishes its outcome. -/
def fwdCmdDoneEff (s : Nat) (c : HostCmd) (d : Dev) : Dev :=
  let d := match c.data with
    | k :: _ => d.set (FWD.CMD_SLOT.SLOT s) k
    | [] => d
  let d := (d.set (FWD.CMD_CTL.STATUS s) c.status).set (FWD.CMD_CTL.DONE s) 1
  { d with tbl.fwdCmd := sset d.tbl.fwdCmd s none none }

/-- FWD_CMD_DONE. -/
def execFwdCmdDone (sl : Nat) (s : State) : Out :=
  act s (fun d => (sget d.tbl.fwdCmd (sl % 8) none).isSome) (fun d => match sget d.tbl.fwdCmd (sl % 8) none with
    | some c => fwdCmdDoneEff (sl % 8) c d
    | none => d)

-- Direct table writes (R131, R133).

/-- A host write of the 64-bit word at offset `o` of a slice's forwarding tables. -/
def Dev.tableWrite (d : Dev) (s o v : Nat) : Dev :=
  if Nat.ble 0x1C00000 o then
    let a := tblA s o
    let w := d.rd64 a
    if Nat.ble 0x1C20000 o || bit w 59 then d else d.wr64 a (v % 2 ^ 59)
  else
    let t := if Nat.blt o 0x400000 then 0 else if Nat.blt o 0xC00000 then 1 else 2
    let k := (o - fwdBase t) / 16
    let tail := if t = 1 then d.hostTail s k else if t = 2 then d.prefixTail s k else false
    let w0 := d.fwdW s t k 0
    if o % 16 = 0 || tail then d.set (FWD.CTL.KEY_WRITE s) 1
    else if fwRETIRED w0 then d
    else if d.setsGuard s (bits w0 61 60) then d.partRefuse s
    else d.wr64 (fwdA s t k 1) (resMask t v)

/-- TABLE_WORD_WRITE. -/
def execTableWordWrite (sl o v : Nat) (s : State) : Out :=
  hostAct2 s (tblA (sl % 8) (o % 0x1C20000 / 8 * 8)) (fun d => d.tableWrite (sl % 8) (o % 0x1C20000 / 8 * 8) (v % 2 ^ 64))

-- Log rings (R137).

/-- The rings by number: 0 to 7 learn logs, 8 and 9 end logs, 10 and 11 quarantine lists. -/
def ringNo (r : Nat) : RingDef := if Nat.blt r 8 then learnLog r else if Nat.blt r 10 then endLog (r - 8) else quarList (r % 2)

/-- The largest SIZE of a ring, and the alignment of its BASE. -/
def ringLimits (r : Nat) : Nat × Nat := if Nat.blt r 8 then (1048576, 64) else if Nat.blt r 10 then (1048576, 256) else (65536, 64)

/-- A write of a ring's BASE (`size` false) or SIZE; a quarantine list's are ignored while the pools are enabled (R270). -/
def Dev.ringCfgWrite (d : Dev) (r : Nat) (size : Bool) (v : Nat) : Dev :=
  let g := ringNo r
  let (m, al) := ringLimits r
  if Nat.ble 10 r && d.is (BPM.CTL.EN g.half) then d
  else if size then
    if (Rule.p2 64 m).ok (v % 2 ^ 32) then (d.set g.size v).ringEmpty g else d
  else if v % 2 ^ 36 % al = 0 then (d.set g.base v).ringEmpty g
  else d

/-- RING_RD_WRITE of ring `r`. -/
def execRingRdWrite (r v : Nat) (s : State) : Out := hostAct s (ringNo (r % 12)).rd (fun d => d.ringRd (ringNo (r % 12)) (v % 2 ^ 32))

/-- RING_BASE_SIZE_WRITE of ring `r`. -/
def execRingBaseSizeWrite (r : Nat) (size : Bool) (v : Nat) (s : State) : Out := hostAct s (if size then (ringNo (r % 12)).size else (ringNo (r % 12)).base) (fun d => d.ringCfgWrite (r % 12) size v)

end Sys2Proof.Machine
end

