-- ==== Sys2Proof/Machine/Face.lean ====
section
/-! DEFINITION. Flow records, the flow key and hash, Face lines, ways, misses and transactions (spec/07 R143 to R163). -/

namespace Sys2Proof.Machine

open Sys2Proof

-- Record words (Tables 7.4 and 7.5).

def rVER (w : Nat) : Nat := bits w 7 0
def rGEN (w : Nat) : Nat := bits w 11 8
def rFULL (w : Nat) : Bool := bit w 12
def rPROG (w : Nat) : Bool := bit w 13
def rLOGEND (w : Nat) : Bool := bit w 15
def rAGE (w : Nat) : Nat := bits w 17 16
def rVERDICT (w : Nat) : Nat := bits w 19 18
def rRWEN (w : Nat) : Bool := bit w 20
def rSIDE (w : Nat) : Bool := bit w 21
def rNHEN (w : Nat) : Bool := bit w 22
def rCACHED (w : Nat) : Nat := bits w 63 56

/-- Number of words of a record. -/
def recLen (full : Bool) : Nat := if full then 16 else 8

/-- The STATE-class bits of word `i` of a record. -/
def stateMask (full : Bool) (i : Nat) : Nat :=
  match i with
  | 0 => 2 ^ 13 + (2 ^ 48 - 2 ^ 15) - (if full then 0 else 2 ^ 23)
  | 4 => 2 ^ 62 - 1
  | 7 => if full then 0 else 2 ^ 64 - 2 ^ 32
  | 10 => if full then 2 ^ 64 - 2 ^ 32 else 0
  | 11 | 12 | 13 | 14 | 15 => if full then 2 ^ 64 - 1 else 0
  | _ => 0

/-- `old` with the bits of `mask` taken from `new`. -/
def maskIn (mask old new : Nat) : Nat := old - Nat.land old mask + Nat.land new mask

/-- The record with the STATE fields of `new`. -/
def mergeState (full : Bool) (old new : List Nat) : List Nat :=
  (List.range old.length).map (fun i => maskIn (stateMask full i) (nthD old i 0) (nthD new i 0))

/-- Stamp `a` is later than stamp `b` (R152). -/
def later (a b : Nat) : Bool := Nat.blt (subMod 32 a b) (2 ^ 31)

/-- The record with ADD and MAX deltas merged (R152). -/
def mergeDelta (ws : List Nat) (dPkts dBad dOct : Nat) (dLast : Option Nat) : List Nat :=
  let w1 := nthD ws 1 0
  let w2 := nthD ws 2 0
  let w3 := nthD ws 3 0
  let ws := setNth ws 1 (setBits (setBits w1 39 0 (w1 + dPkts)) 55 40 (min 0xFFFF (bits w1 55 40 + dBad)))
  let ws := setNth ws 2 (setBits w2 47 0 (w2 + dOct))
  match dLast with
  | some l => if later l (bits w3 31 0) then setNth ws 3 (setBits w3 31 0 l) else ws
  | none => ws

/-- The bytes of words. -/
def wordBytes (ws : List Nat) : List Byte := ws.flatMap (natLE 8)

/-- The flow key stored in a record, from record byte 40 on (R151). -/
def recKey (ws : List Nat) : List Byte :=
  let b := (wordBytes ws).drop 40
  b.take (if byteAt b 0 % 4 = 2 then 44 else 20)

/-- QRY.NOW: 2 units in every 1,953,125 ticks (R169). -/
def Dev.qryNow (d : Dev) : Nat := (2 * (d.tick / 1953125) + b2n (Nat.ble 976562 (d.tick % 1953125))) % 2 ^ 32

-- Flow keys and hashes (R144 to R147).

/-- KEYTYPE of a frame's key. -/
def keyType (k : Pkt) : Nat := bits (beAt k.key 2 2) 12 9

/-- SRC, SRC_PORT and DST, DST_PORT strings of a key (R145). -/
def keySides (k : Pkt) : List Byte × List Byte :=
  if keyType k % 4 = 2 then (sliceB k.key 16 16 ++ sliceB k.key 48 2, sliceB k.key 32 16 ++ sliceB k.key 50 2)
  else (sliceB k.key 28 4 ++ sliceB k.key 48 2, sliceB k.key 44 4 ++ sliceB k.key 50 2)

/-- QUAL of a key (Table 7.1). -/
def keyQual (k : Pkt) : List Byte :=
  match keyType k / 4 with
  | 2 => sliceB k.key 56 3
  | 1 => natBE 3 (beAt k.key 54 2 % 4096)
  | _ => [0, 0, 0]

/-- The flow key in canonical form, and DIR (R144, R145). -/
def flowKey (sym : Bool) (k : Pkt) : List Byte × Bool :=
  let (a, b) := keySides k
  let swap := sym && Nat.blt (beNat b) (beNat a)
  let (x, y) := if swap then (b, a) else (a, b)
  let n := x.length - 2
  (natBE 1 (keyType k) ++ sliceB k.key 52 1 ++ keyQual k ++ [0] ++ x.drop n ++ y.drop n ++ [0, 0] ++ x.take n ++ y.take n, swap)

/-- The 20-byte L2 key of R147. -/
def l2Key (k : Pkt) : List Byte := [0, 0] ++ natBE 3 (beAt k.key 54 2 % 4096) ++ [0] ++ sliceB k.window 0 12 ++ [0, 0]

def Dev.hash1 (d : Dev) (key : List Byte) : Nat := hashFrom (d.get QRY.SEED_1.SEED) key
def Dev.hash2 (d : Dev) (key : List Byte) : Nat := hashFrom (d.get QRY.SEED_2.SEED) key

-- Bench layout (R148 to R150).

def Dev.unitsLog (d : Dev) : Nat := d.get QRY.GCFG.UNITS_LOG2
def Dev.benchA (d : Dev) (h : Nat) : Nat := hbmA h (d.get (QRY.BENCH_BASE.GIB h) * 0x40000000)
def Dev.bucketA (d : Dev) (h b : Nat) : Nat := d.benchA h + 64 * b
def Dev.unitA (d : Dev) (h u : Nat) : Nat := d.benchA h + 2 ^ (d.unitsLog + 4) + 64 * u

/-- The candidate bucket of a hash. -/
def Dev.bucketOf (d : Dev) (x : Nat) : Nat := x % 2 ^ (d.unitsLog - 2)

def mkFlow (h gen u : Nat) : Nat := h % 2 * 2 ^ 31 + gen % 16 * 2 ^ 27 + u
def flowHalf (x : Nat) : Nat := x / 2 ^ 31 % 2
def flowGen (x : Nat) : Nat := x / 2 ^ 27 % 16
def flowUnit (x : Nat) : Nat := x % 2 ^ 27

/-- "No flow". -/
def noFlow : Nat := 0xFFFFFFFF

/-- The words of the record in unit `u`. -/
def Dev.recAt (d : Dev) (h u : Nat) : List Nat :=
  let a := d.unitA h u
  d.rdWords a (recLen (rFULL (d.rd64 a)))

-- Face lines (R153 to R155).

/-- The record of a line with the deltas it has gathered. -/
def lineNow (l : Line) : List Nat := mergeDelta l.words l.dPkts l.dBad l.dOct l.dLast

/-- The line of slice `s` that holds the record with this handle. -/
def Dev.lineOf (d : Dev) (s handle : Nat) : Option Line :=
  d.qry.lines.find? (fun l => l.slice == s && l.handle == handle && l.st != .filling)

/-- Whether a line stands in a retired way (R401). -/
def Dev.lineRetired (d : Dev) (l : Line) : Bool := l.ways.any (fun w => d.isRetired 0 (faceLoc l.slice l.set w))

/-- The line of slice `s` that holds the record of a key: fingerprint first, then the full key; a line in a retired way is not found (R153, R173). -/
def Dev.lineFor (d : Dev) (s h1 h2 : Nat) (key : List Byte) : Option Line :=
  d.qry.lines.find? (fun l => l.slice == s && l.set == h1 % 16384 && l.st != .filling && Nat.xor l.h1 l.h2 == Nat.xor h1 h2 && recKey l.words == key &&
    !d.lineRetired l)

/-- Changes the line of a handle. -/
def Dev.updLine (d : Dev) (s handle : Nat) (f : Line → Line) : Dev :=
  { d with qry.lines := mapFirst (fun l => l.slice == s && l.handle == handle && l.st != .filling) f d.qry.lines }

/-- Takes a line out: its ways are INVALID. -/
def Dev.dropLine (d : Dev) (l : Line) : Dev :=
  { d with qry.lines := d.qry.lines.filter (fun m => !(m.slice == l.slice && m.set == l.set && m.ways == l.ways)) }

/-- Deltas added to a line (R152). -/
def addDelta (now : Nat) (dPkts dBad dOct : Nat) (dLast : Option Nat) (l : Line) : Line :=
  { l with dPkts := l.dPkts + dPkts, dBad := l.dBad + dBad, dOct := l.dOct + dOct,
           dLast := dLast.orElse (fun _ => l.dLast), st := .dirty, dirtyAt := if l.st = .dirty then l.dirtyAt else now }

/-- A line whose deltas have been sent. -/
def cleanLine (l : Line) : Line := { l with words := lineNow l, st := .clean, dPkts := 0, dBad := 0, dOct := 0, dLast := none }

/-- The context of slice `s` that holds a record (R154). -/
def Dev.holder (d : Dev) (s handle : Nat) : Option Nat :=
  (d.eng.ctxs.find? (fun e => e.1 / 512 == s && (match e.2.held with
    | some r => r.handle == handle
    | none => false))).map (fun e => e.1)

/-- Whether a line is pinned: its record is held, or a frame stands before the flow-update unit for it. -/
def Dev.pinned (d : Dev) (l : Line) : Bool :=
  (d.holder l.slice l.handle).isSome || d.pipe.any (fun k => k.stage == .flowUpd && k.slice == l.slice && k.handle == l.handle)

/-- Whether a deletion of the record is under way and this slice has still to answer it (R170). -/
def Dev.dying (d : Dev) (s handle : Nat) : Bool :=
  d.qry.dels.any (fun x => x.started && x.handle == handle && x.waits.contains s)

/-- The flow status that a record on its way out has in this slice: 7 where it is poisoned, 6 where it is being deleted, none where it is neither (R170, R173). -/
def Dev.goneStatus (d : Dev) (s handle : Nat) : Option Nat :=
  if d.qry.dels.any (fun x => x.handle == handle && x.reason == 3 && (!x.started || x.waits.contains s)) then some 7
  else if d.dying s handle then some 6
  else none

/-- A transaction about a line's record, with its deltas. -/
def lineTxn (k : TxnKind) (l : Line) (ctx : Nat) : Txn :=
  { txn0 with kind := k, slice := l.slice, half := flowHalf l.handle, handle := l.handle, h1 := l.h1, h2 := l.h2, fkey := recKey l.words,
              dPkts := l.dPkts, dBad := l.dBad, dOct := l.dOct, dLast := l.dLast, words := l.words, ver := l.ver, ctx := ctx }

/-- Whether a transaction carries deltas of a record to Bench. -/
def Txn.brings (t : Txn) (x : Nat) : Bool := t.handle == x && !t.done && (t.kind == .writeBack || t.kind == .release || t.kind == .commit)

/-- The deltas of a line that has been read go to Bench; the line stays cached (R168). -/
def Dev.sendBack (d : Dev) (l : Line) (ctx : Nat) : Dev :=
  ((d.issue (lineTxn .writeBack l ctx)).cntQry l.slice 10).updLine l.slice l.handle cleanLine

/-- A line that has been read is released to Bench (R155, R168). -/
def Dev.sendRelease (d : Dev) (l : Line) : Dev := (d.issue (lineTxn .release l 0)).dropLine l

/-- Ways of a set in use. -/
def Dev.waysUsed (d : Dev) (s set : Nat) : List Nat :=
  (d.qry.lines.filter (fun l => l.slice == s && l.set == set)).flatMap (fun l => l.ways)

/-- Ways of a set that are free and in service. -/
def Dev.waysFree (d : Dev) (s set : Nat) : List Nat :=
  let u := d.waysUsed s set
  (List.range 16).filter (fun w => !u.contains w && !d.isRetired 0 (faceLoc s set w))

/-- The lines of a set that may be evicted; a retired way is not to be had (R401). -/
def Dev.victims (d : Dev) (s set : Nat) : List Line :=
  d.qry.lines.filter (fun l => l.slice == s && l.set == set && l.st != .filling && !d.pinned l && !d.lineRetired l)

/-- The least recently hit of some lines. -/
def oldestLine : List Line → Option Line
  | [] => none
  | l :: ls => match oldestLine ls with
    | none => some l
    | some m => if Nat.ble l.hitAt m.hitAt then some l else some m

/-- Whether `n` ways of a set can be had. -/
def Dev.waysOk (d : Dev) (s set n : Nat) : Bool :=
  Nat.ble n ((d.waysFree s set).length + ((d.victims s set).flatMap (fun l => l.ways)).length)

-- Face words (R173).

/-- An error counts against a Face way. A way that it retires gives up its line, if that can be read: it goes to Bench, or, while a thread holds its record, its deltas do (Table 17.2); such a line goes when the thread lets go (`vacate`). -/
def Dev.faceErr (d : Dev) (s set way : Nat) (readable : Bool) : Dev :=
  match d.errCount 0 (faceLoc s set way) 0 with
  | (d, false) => d
  | (d, true) =>
    match readable, d.qry.lines.find? (fun l => l.slice == s && l.set == set && l.ways.contains way && l.st != .filling) with
    | true, some l => if (d.holder s l.handle).isNone then d.sendRelease l else if l.st = .dirty then d.sendBack l 0 else d
    | _, _ => d

/-- Reads `n` words of a Face way under ECC from word `w`: the answer says whether one is uncorrectable. -/
def Dev.faceWords (d : Dev) (s set way w : Nat) : Nat → Bool × Dev
  | 0 => (false, d)
  | n + 1 =>
    let a := faceA s set way w
    let (b, d) := match d.badAt a with
      | 0 => (false, d)
      | e =>
        let d := { d with bad := sset d.bad a 0 0 }
        if e = 1 then (false, (((d.cntH (s / 4) 5).raise (EV_QRY_ECC_CORR (s / 4))).faceErr s set way true))
        else (true, ((d.raise (EV_QRY_ECC_UNCORR (s / 4))).faceErr s set way false))
    let (b', d) := d.faceWords s set way (w + 1) n
    (b || b', d)

/-- A Face tag with a parity error is INVALID (R173). -/
def Dev.faceTags (d : Dev) (s set : Nat) : List Line → Dev
  | [] => d
  | l :: ls =>
    let d := match l.ways.find? (fun w => d.badAt (faceA s set w 8) != 0) with
      | some w => (({ d with bad := sset d.bad (faceA s set w 8) 0 0 }).dropLine l).faceErr s set w false
      | none => d
    d.faceTags s set ls

/-- Reads a line's words under ECC: the answer says whether one is uncorrectable. -/
def Dev.lineWords (d : Dev) (l : Line) : Bool × Dev :=
  l.ways.foldl (fun (r : Bool × Dev) w =>
    let (b, d) := r.2.faceWords l.slice l.set w 0 8
    (r.1 || b, d)) (false, d)

/-- A line that is to be sent and cannot be read: it is INVALID, its deltas are discarded, and Bench hears that the slice has it no longer; who needs the record fetches it again (R173, log entry 130). -/
def Dev.lostLine (d : Dev) (l : Line) : Dev :=
  (d.issue (lineTxn .release { l with dPkts := 0, dBad := 0, dOct := 0, dLast := none } 0)).dropLine l

/-- Reads a line that is to be sent, and sends it by `send` if it can be read and has not gone meanwhile. -/
def Dev.sendRead (d : Dev) (l : Line) (send : Dev → Line → Dev) : Dev :=
  let (bad, d) := d.lineWords l
  if bad then d.lostLine l
  else match d.lineOf l.slice l.handle with
    | some l => send d l
    | none => d

/-- Sends a line's deltas; the line stays cached (R168). -/
def Dev.writeBack (d : Dev) (l : Line) (ctx : Nat) : Dev := d.sendRead l (fun d l => d.sendBack l ctx)

/-- Releases a line to Bench (R155, R168). -/
def Dev.releaseLine (d : Dev) (l : Line) : Dev := d.sendRead l Dev.sendRelease

/-- Takes `n` ways of a set, evicting where it must (R155). -/
def Dev.takeWays (d : Dev) (s set n : Nat) : Nat → List Nat × Dev
  | 0 => ((d.waysFree s set).take n, d)
  | f + 1 =>
    let w := d.waysFree s set
    if Nat.ble n w.length then (w.take n, d)
    else match oldestLine (d.victims s set) with
      | some l => ((d.releaseLine l).cntQry s 12).takeWays s set n f
      | none => (w, d)

/-- A line in a retired way that no thread holds any longer goes to Bench. -/
def Dev.vacate (d : Dev) (s handle : Nat) : Dev :=
  match d.lineOf s handle with
  | some l => if d.lineRetired l && (d.holder s handle).isNone then d.releaseLine l else d
  | none => d

/-- The line of a record, read under ECC: an uncorrectable line is dropped with its deltas and must be fetched again; one in a retired way is not found (R153, R173). -/
def Dev.lineRead (d : Dev) (s handle : Nat) : Option Line × Dev :=
  let d := d.vacate s handle
  match d.lineOf s handle with
  | none => (none, d)
  | some l =>
    if d.lineRetired l then (none, d)
    else
      let (bad, d) := d.lineWords l
      if bad then (none, d.dropLine l) else (d.lineOf s handle, d)

/-- The line that a lookup finds, with its words readable. -/
def Dev.faceFind (d : Dev) (s h1 h2 : Nat) (key : List Byte) : Option Line × Dev :=
  let set := h1 % 16384
  let d := d.faceTags s set (d.qry.lines.filter (fun l => l.slice == s && l.set == set && l.st != .filling))
  match d.lineFor s h1 h2 key with
  | none => (none, d)
  | some l => d.lineRead s l.handle

-- Misses (R155, R160, R162).

/-- Ways a miss reserves. -/
def missWays (m : Miss) : Nat :=
  match m.byHandle with
  | some _ => 1
  | none => if m.full || byteAt m.fkey 0 % 4 == 2 then 2 else 1

/-- Whether the slice and the device may have another transaction outstanding (R162). -/
def Dev.txnRoom (d : Dev) (s : Nat) : Bool := Nat.blt (d.txnsOf s) 2048 && Nat.blt d.qry.txns.length 16384

/-- Whether a miss can be sent now. -/
def Dev.canSend (d : Dev) (m : Miss) : Bool := d.txnRoom m.slice && d.waysOk m.slice (m.h1 % 16384) (missWays m)

/-- Sends a miss: its ways are FILLING and its LOOKUP is issued. -/
def Dev.sendMiss (d : Dev) (m : Miss) : Dev :=
  let (ws, d) := d.takeWays m.slice (m.h1 % 16384) (missWays m) 16
  let l : Line := { slice := m.slice, set := m.h1 % 16384, ways := ws, st := .filling, handle := noFlow, h1 := m.h1, h2 := m.h2, words := [],
                    ver := 0, dPkts := 0, dBad := 0, dOct := 0, dLast := none, dirtyAt := 0, hitAt := d.tick, missId := m.id }
  let d := { d with qry.lines := d.qry.lines ++ [l], qry.misses := mapFirst (fun x => x.id == m.id) (fun x => { x with sent := true }) d.qry.misses }
  let half := match m.byHandle with
    | some x => flowHalf x
    | none => m.h1 / 2 ^ 31
  d.issue { txn0 with kind := .lookup, slice := m.slice, half := half, handle := m.byHandle.getD noFlow, h1 := m.h1, h2 := m.h2, fkey := m.fkey,
                      missId := m.id, ins := m.ins, full := m.full, w0 := m.w0, ctx := m.ctx }

/-- A new miss: sent at once if it can be and no earlier miss of the slice could go first; else it waits, and PIN_WAITS counts a wait for a way. -/
def Dev.addMiss (d : Dev) (m : Miss) : Dev :=
  let first := d.qry.misses.all (fun x => x.sent || x.slice != m.slice || !d.waysOk x.slice (x.h1 % 16384) (missWays x))
  let ways := d.waysOk m.slice (m.h1 % 16384) (missWays m)
  let d' := { d with qry.misses := d.qry.misses ++ [m] }
  if first && d.canSend m then d'.sendMiss m
  else if ways then d'
  else d'.cntQry m.slice 13

/-- Word 0 fields that INS_CFG_t and the USER_TAG give a new record (R164). -/
def Dev.insWord0 (d : Dev) (s t tag : Nat) : Nat :=
  d.get (QRY.INS_CFG.PROG s t) * 2 ^ 13 + d.get (QRY.INS_CFG.LOG_END s t) * 2 ^ 15 + d.get (QRY.INS_CFG.AGE_CLASS s t) * 2 ^ 16 +
    d.get (QRY.INS_CFG.VERDICT s t) * 2 ^ 18 + tag * 2 ^ 32

/-- The miss that packet `k` waits for: the one outstanding for its flow, or a new one (R160). -/
def Dev.missFor (d : Dev) (k : Pkt) : Nat × Dev :=
  let s := k.slice
  match d.qry.misses.find? (fun m => m.slice == s && m.byHandle == none && m.h1 == k.h1 && m.h2 == k.h2) with
  | some m => (m.id, d)
  | none =>
    let t := keyType k
    let syn := byteAt k.key 52 == 6 && bit (byteAt k.key 53) 1
    let ins := d.is (QRY.INS_CFG.INS_EN s t) && !k.bad && (!d.is (QRY.INS_CFG.TCP_SYN_ONLY s t) || syn)
    let (i, d) := d.newId
    (i, d.addMiss { id := i, slice := s, h1 := k.h1, h2 := k.h2, fkey := k.fkey, byHandle := none, ctx := 0, pktId := k.id, ins := ins,
                    full := d.is (QRY.INS_CFG.FULL s t) || t % 4 == 2, w0 := d.insWord0 s t (d3Tag k.d3), sent := false })

/-- The hashes of the record that a handle names, by the key its unit stores. -/
def Dev.handleHash (d : Dev) (x : Nat) : Nat × Nat :=
  let key := recKey (d.recAt (flowHalf x) (flowUnit x))
  (d.hash1 key, d.hash2 key)

/-- The miss of a QTAKE by context `n` (R155, R225). -/
def Dev.missTake (d : Dev) (n handle : Nat) : Nat × Dev :=
  let (h1, h2) := d.handleHash handle
  let (i, d) := d.newId
  (i, d.addMiss { id := i, slice := n / 512, h1 := h1, h2 := h2, fkey := [], byHandle := some handle, ctx := n + 1, pktId := 0, ins := false,
                  full := false, w0 := 0, sent := false })

-- Transactions at the Bench unit (R161).

/-- Takes a transaction out of the list. -/
def Dev.endTxn (d : Dev) (id : Nat) : Dev := { d with qry.txns := d.qry.txns.filter (fun t => t.id != id) }

/-- Records the Bench unit's answer to a transaction. -/
def Dev.answer (d : Dev) (id status handle : Nat) (ws : List Nat) : Dev :=
  let f := fun (t : Txn) => { t with done := true, rStatus := status, rHandle := handle, rWords := ws }
  { d with qry.txns := mapFirst (fun t => t.id == id) f d.qry.txns }

end Sys2Proof.Machine
end

