-- ==== Sys2Proof/Machine/Operands.lean ====
section
/-! DEFINITION. The microword's fields, its operand selectors and descriptor words, the check for illegal content, and where a microword stands in the control store (spec/08 Table 8.2, spec/09 R210 to R216). A context of the device has the number n = 64 c + t, an engine 8 c + e = n / 8. -/

namespace Sys2Proof.Machine

open Sys2Proof

-- Contexts (R178).

def Dev.ctx (d : Dev) (n : Nat) : Ctx := sget d.eng.ctxs n {}

def Ctx.cond (x : Ctx) (i : Nat) : Bool := bit x.conds i
def Ctx.setCond (x : Ctx) (i : Nat) (b : Bool) : Ctx := { x with conds := if b then setBit x.conds i else clrBit x.conds i }

/-- Private register P(i). -/
def Ctx.p (x : Ctx) (i : Nat) : Word64 := sget x.regs (i % 32) 0
def Ctx.setP (x : Ctx) (i : Nat) (v : Word64) : Ctx := { x with regs := sset x.regs (i % 32) v 0 }

-- Microword fields (Table 9.1).

def uALU (w : Nat) : Nat := bits w 5 0
def uDST (w : Nat) : Nat := bits w 11 6
def uA (w : Nat) : Nat := bits w 17 12
def uB (w : Nat) : Nat := bits w 23 18
def uSHAMT (w : Nat) : Nat := bits w 29 24
def uFLAGS (w : Nat) : Bool := bit w 30
def uIMM (w : Nat) : Nat := bits w 63 32
def uMEM (w : Nat) : Nat := bits w 68 64
def uREG (w : Nat) : Nat := bits w 73 69
def uADDR (w : Nat) : Nat := bits w 79 74
def uOFF (w : Nat) : Nat := bits w 95 80
def uSIZE (w : Nat) : Nat := bits w 99 96
def uFENCE (w : Nat) : Nat := bits w 101 100
def uSEQ (w : Nat) : Nat := bits w 105 102
def uTARGET (w : Nat) : Nat := bits w 118 106
/-- Condition selector `i` of the word. -/
def uCOND (w i : Nat) : Nat := bits w (124 + 6 * i) (119 + 6 * i)
def uNEG (w : Nat) : Bool := bit w 143
def uCOPY (w : Nat) : Nat := bits w 145 144
def uBRK (w : Nat) : Bool := bit w 146

-- Which parts of a word use which fields (R214: a selector counts only where the word uses it).

/-- ALU operations that read no operand B: MOV, SHL, SHR, SAR, POPCNT, FFS. -/
def aluAOnly (op : Nat) : Bool := [7, 8, 9, 10, 19, 20].contains op

/-- Memory operations without an address operand: NOP, TXGEN, QRD, QWR, QADD, QREL, QINS, QDEL, CPUT, CCOMMIT, CABORT, and PKT sub-operations 0 to 3. -/
def memUsesAddr (m size : Nat) : Bool :=
  !([0, 0x11, 0x12, 0x13, 0x14, 0x15, 0x17, 0x18, 0x1A, 0x1B, 0x1C].contains m || (m == 0x1E && Nat.ble size 3) || (m == 0x1F && size == 0))

/-- Registers after MEM_REG that the operation reads as data, itself included. -/
def memDataRegs (m size : Nat) : Nat :=
  match m with
  | 0x02 | 0x05 | 0x07 | 0x0A | 0x0B | 0x13 | 0x14 | 0x1A => 1
  | 0x08 => if size % 4 = 2 then 2 else 1
  | 0x10 => 2
  | 0x11 => 3
  | 0x17 => 6
  | 0x1E => if size = 4 || size = 5 then 1 else 0
  | 0x1F => if size = 1 || size = 6 || size = 8 then 1 else 0
  | _ => 0

/-- Reserved condition selectors 0x13 to 0x1F (Table 9.4). -/
def condReserved (s : Nat) : Bool := Nat.ble 0x13 s && Nat.ble s 0x1F

/-- Sub-operation codes that are reserved (Table 9.6, R227, R230). -/
def subReserved (m size : Nat) : Bool :=
  (m == 0x08 && size % 4 == 3) || (m == 0x14 && Nat.blt 2 size) || (m == 0x1E && Nat.blt 5 size) || (m == 0x1F && Nat.blt 9 size)

/-- The ALU part of a word is illegal. -/
def aluIllegal (w : Nat) : Bool :=
  let op := uALU w
  Nat.blt 0x14 op ||
    (op != 0 && ((Nat.ble 0x28 (uDST w) && uDST w != 0x2B) || Nat.ble 0x30 (uA w) || (!aluAOnly op && Nat.ble 0x30 (uB w))))

/-- The memory part of a word is illegal. -/
def memIllegal (w : Nat) (keeper : Bool) : Bool :=
  let m := uMEM w
  subReserved m (uSIZE w) || (memUsesAddr m (uSIZE w) && Nat.ble 0x30 (uADDR w)) || (m == 0x1F && !keeper)

/-- The sequencer part of a word is illegal. -/
def seqIllegal (w : Nat) (keeper : Bool) : Bool :=
  let q := uSEQ w
  Nat.blt 0xA q ||
    (q == 2 && condReserved (uCOND w 0)) ||
    (q == 3 && ((List.range 4).any (fun i => condReserved (uCOND w i)) || uTARGET w % 16 != 0)) ||
    ([6, 7, 8, 0xA].contains q && uMEM w != 0) ||
    (q == 6 && Nat.blt 5 (uSIZE w)) ||
    (q == 0xA && !keeper) || (q == 9 && keeper)

/-- The check for illegal content (R214). -/
def uIllegal (w : Nat) (keeper : Bool) : Bool :=
  bit w 31 || bits w 159 147 != 0 || aluIllegal w || memIllegal w keeper || seqIllegal w keeper

-- Words of the control store (R211, Table 19.8).

/-- Device address of control-store word `a` of bank `x` of cluster `c`. -/
def ucodeA (c x a : Nat) : Nat := tblA (c / 8) (0x2800000 + 0x80000 * (c % 8) + 0x40000 * x + 32 * a)

/-- The stored 168 bits. -/
def Dev.ucodeWord (d : Dev) (c x a : Nat) : Nat := d.rd 21 (ucodeA c x a)

/-- Bit g is 1 where group g of the stored word fails its odd parity. -/
def ucodeFails (w : Nat) : Nat :=
  (List.range 8).foldl (fun n g =>
    n + b2n ((popN 20 (bits w (20 * g + 19) (20 * g)) + b2n (bit w (160 + g))) % 2 == 0) * 2 ^ g) 0

/-- A 160-bit microword with the parity bits that the device computes. -/
def ucodeParity (w : Nat) : Nat :=
  let v := w % 2 ^ 160
  v + ucodeFails v * 2 ^ 160

/-- Writes a microword. -/
def Dev.ucodeWrite (d : Dev) (c x a w : Nat) : Dev := d.wrBytes (ucodeA c x a) (natLE 21 (ucodeParity w))

-- Descriptor words (Table 8.2, R179).

/-- D(i) of a thread. -/
def Dev.dword (x : Ctx) (i : Nat) : Nat :=
  match x.pkt with
  | none => if i = 0 then 0xFFFFFFFF else 0
  | some k =>
    match i with
    | 0 => k.handle % 2 ^ 32 + k.status % 16 * 2 ^ 32 + b2n k.dir * 2 ^ 36 + k.epoch.getD 0 % 8 * 2 ^ 37 + k.port % 512 * 2 ^ 40 +
        k.len % 2 ^ 14 * 2 ^ 49 + b2n k.bad * 2 ^ 63
    | 1 => k.clsRes % 2 ^ 64
    | 2 => k.fwdRes % 2 ^ 64
    | 3 => k.d3 % 2 ^ 38
    | 4 => stampNs k.stamp * 2 ^ 32 + stampFrac k.stamp
    | 5 => stampSec k.stamp % 2 ^ 48
    | 6 => k.bufs.headD 0xFFFFFFFF
    | _ => k.h1 % 2 ^ 32 + k.h2 % 2 ^ 32 * 2 ^ 32

/-- D3 after a write: only its RW fields, COLOUR 3 and UQUEUE 12 to 15 ignored. -/
def d3Write (old v : Nat) : Nat :=
  let r := setBits old 3 0 (bits v 3 0)
  let r := if bits v 5 4 = 3 then r else setBits r 5 4 (bits v 5 4)
  let r := if Nat.ble 12 (bits v 9 6) then r else setBits r 9 6 (bits v 9 6)
  setBits (setBits (setBits r 11 10 (bits v 11 10)) 20 12 (bits v 20 12)) 21 21 (bits v 21 21)

/-- The destination that the low bits of D3 name: a thread reaches groups 0 to 511 (R286). -/
def destOfD3 (d3 : Nat) : Dest := if d3Group d3 then .group (d3Egress d3) else .port (d3Egress d3)

/-- A thread writes D3: its packet goes where the word now says. A write with GROUP 1 sets GROUP, also where it was 1 (log entry 38). -/
def Pkt.writeD3 (k : Pkt) (v : Nat) : Pkt :=
  let w := d3Write k.d3 v
  { k with d3 := w, dest := destOfD3 w }

/-- Operand selector `s` of word `w` in context `n` (Table 9.2). -/
def Dev.operand (d : Dev) (n w s : Nat) : Word64 :=
  let x := d.ctx n
  if s < 0x20 then x.p s
  else if s < 0x28 then BitVec.ofNat 64 (Dev.dword x (s - 0x20))
  else match s with
    | 0x28 => BitVec.ofNat 64 (uIMM w)
    | 0x29 => (BitVec.ofNat 32 (uIMM w)).signExtend 64
    | 0x2A => BitVec.ofNat 64 (uIMM w * 2 ^ 32)
    | 0x2C => BitVec.ofNat 64 d.qryNow
    | 0x2D => BitVec.ofNat 64 (d.tmu.ns * 2 ^ 32 + d.tmu.frac)
    | 0x2E => BitVec.ofNat 64 (d.tmu.sec % 2 ^ 48)
    | 0x2F => BitVec.ofNat 64 n
    | _ => 0

-- Parity of context registers (Table 17.1).

/-- Key of register `i` of context `n` in the table of bad words: 0 to 31 the P registers, 32 to 39 the descriptor words. -/
def regKey (n i : Nat) : Nat := 0x4000000000000 + 64 * n + i

/-- Key of word `w` of channel `i` of cluster `c`. -/
def chanKey (c i w : Nat) : Nat := 0x4100000000000 + (16 * c + i) * 8 + w

/-- The registers of a context that takes a new thread are fresh (R178). -/
def Dev.cleanRegs (d : Dev) (n : Nat) : Dev :=
  { d with bad := d.bad.filter (fun e => Nat.blt e.1 (regKey n 0) || Nat.ble (regKey n 64) e.1) }

/-- Whether reading operand selector `s` meets a parity error. -/
def Dev.selBad (d : Dev) (n s : Nat) : Bool := Nat.blt s 0x28 && d.badAt (regKey n s) != 0

/-- Whether a word's operands, address and data registers hold a parity error. -/
def Dev.operandsBad (d : Dev) (n w : Nat) : Bool :=
  let op := uALU w
  (op != 0 && (d.selBad n (uA w) || (!aluAOnly op && d.selBad n (uB w)))) ||
    (memUsesAddr (uMEM w) (uSIZE w) && d.selBad n (uADDR w)) ||
    (List.range (memDataRegs (uMEM w) (uSIZE w))).any (fun i => d.badAt (regKey n ((uREG w + i) % 32)) != 0)

end Sys2Proof.Machine
end

