-- ==== Sys2Proof/Machine/Flags.lean ====
section
/-! DEFINITION. What the ALU computes: results, flags, and the conditions that a sequencer tests (spec/09 R217, R218). -/

namespace Sys2Proof.Machine

open Sys2Proof

/-- Result, carry and signed overflow of an ALU operation on A, B and SHAMT (Table 9.3). -/
structure AluOut where
  val : Word64
  c : Bool := false
  v : Bool := false
deriving DecidableEq, Repr

/-- ADD: C is the carry out of bit 63, V the signed overflow. -/
def aluAdd (a b : Word64) : AluOut :=
  let r := a + b
  { val := r, c := Nat.ble (2 ^ 64) (a.toNat + b.toNat), v := a.msb == b.msb && r.msb != a.msb }

/-- SUB: C is 1 when A < B unsigned, V the signed overflow. -/
def aluSub (a b : Word64) : AluOut :=
  let r := a - b
  { val := r, c := Nat.blt a.toNat b.toNat, v := a.msb != b.msb && r.msb != a.msb }

/-- CSADD: one's-complement sum of the low 16 bits with end-around carry. -/
def aluCsadd (a b : Word64) : Word64 := BitVec.ofNat 64 (csAdd (a.toNat % 65536) (b.toNat % 65536))

/-- CRC32C of the 8 bytes of B, least significant first, from A [31:0], without final complement. -/
def aluCrc (a b : Word64) : Word64 := BitVec.ofNat 64 (crcRun 0x82F63B78 (a.toNat % 2 ^ 32) (natLE 8 b.toNat))

/-- The 64-bit product of the low halves. -/
def aluMul (a b : Word64) : Nat := a.toNat % 2 ^ 32 * (b.toNat % 2 ^ 32)

/-- Flags Z, N, C and V (conditions 0x02 to 0x05) of a result. -/
def Ctx.setFlags (x : Ctx) (r : AluOut) : Ctx :=
  (((x.setCond 2 (r.val == 0)).setCond 3 r.val.msb).setCond 4 r.c).setCond 5 r.v

/-- Condition selector `s` in context `n` with the word's ALU result (Table 9.4). -/
def Ctx.test (x : Ctx) (keeper : Bool) (alu : Option Word64) (s : Nat) : Bool :=
  if Nat.ble 0x20 s then (match alu with
    | some r => bit r.toNat (s - 0x20)
    | none => false)
  else match s with
    | 0 => false
    | 1 => true
    | 0x0E => x.pkt.isSome
    | 0x0F => x.held.isSome
    | 0x10 | 0x11 => keeper && x.cond s
    | _ => x.cond s

/-- The comparisons of WAITC (R220). -/
def waitcTest (k : Nat) (c imm : Nat) : Bool :=
  match k with
  | 0 => c == imm
  | 1 => c != imm
  | 2 => Nat.ble imm c
  | 3 => Nat.blt c imm
  | 4 => Nat.land c imm != 0
  | _ => Nat.land c imm == 0

end Sys2Proof.Machine
end

