-- ==== Sys2Proof/Machine/Thread.lean ====
section
/-! DEFINITION. Thread contexts: what a context holds, taking and releasing records, channels, shares, faults, halts and the end of a thread (spec/08). A context of the device has the number n = 64 c + t, an engine 8 c + e = n / 8. -/

namespace Sys2Proof.Machine

open Sys2Proof

-- Contexts (R178, R180).

/-- Whether engine `e` has a keeper (R200). -/
def Dev.keeperEn (d : Dev) (e : Nat) : Bool := bit (d.get (ENG.CL_CTL.KEEPER_EN (e / 8))) (e % 8) && !d.isRetired 6 e

/-- Whether context `n` is its engine's keeper. -/
def Dev.isKeeper (d : Dev) (n : Nat) : Bool := n % 8 == 0 && d.keeperEn (n / 8)

/-- States in which an engine may doze (R385). -/
def CtxSt.idle : CtxSt → Bool
  | .free | .waitEvent | .keeperIdle => true
  | _ => false

/-- A STEP command in progress on context `n` ends when its thread halts again, ends or faults (Table 15.10). -/
def Dev.stepEnd (d : Dev) (n : Nat) (st : CtxSt) : Dev :=
  let c := n / 64
  let fin := fun (code : Nat) =>
    { (d.set (DBG.CMD.STATUS c) code).set (DBG.CMD.DONE c) 1 with eng.stepCmd := sset d.eng.stepCmd c 0 0 }
  if sget d.eng.stepCmd c 0 = n + 1 then
    match st with
    | .halted => fin 0
    | .free => fin 4
    | .faulted => fin 5
    | _ => d
  else d

/-- Whether a context's change of state is an event for its engine's fog window (R205): any change of a worker, which leaves or enters WAIT_EVENT; of the keeper, one by which an event makes it READY (log entry 133). -/
def fogEvent (keeper : Bool) (old new : CtxSt) : Bool :=
  if keeper then (old == .waitEvent || old == .keeperIdle) && new == .ready else old != new

/-- Writes a context. An event for its engine's fog window starts that afresh (R205), a worker's change of state ends a fog redirection (R206); a context that leaves its wait wakes a dozing engine (R385). -/
def Dev.setCtx (d : Dev) (n : Nat) (x : Ctx) : Dev :=
  let d := d.stepEnd n x.st
  let old := (d.ctx n).st
  let q := if fogEvent (d.isKeeper n) old x.st then sset d.eng.fogQuiet (n / 8) 0 0 else d.eng.fogQuiet
  let r := if old = x.st || d.isKeeper n then d.eng.redir else sset d.eng.redir (n / 8) 0 0
  let a := if x.st.idle && !old.idle then sset d.eng.idleAt (n / 8) d.tick 0 else d.eng.idleAt
  let z := if x.st.idle then d.pwr.dozing else sset d.pwr.dozing (n / 8) 0 0
  { d with eng.ctxs := sset d.eng.ctxs n x {}, eng.fogQuiet := q, eng.redir := r, eng.idleAt := a, pwr.dozing := z }

/-- The active set of a cluster's control store and slot tables. -/
def Dev.clSet (d : Dev) (c : Nat) : Nat := d.get (GLB.PART_CTL.ACTIVE (8 + c))

/-- Slot `j` of engine `e` in set `x` (R181). -/
def Dev.slot (d : Dev) (e x j : Nat) : Nat :=
  bits (d.get (ENG.SLOT.W (e / 8) x (e % 8) (j / 16))) (4 * (j % 16) + 3) (4 * (j % 16))

/-- Whether engine `e` issues (R184, R402). -/
def Dev.engIssues (d : Dev) (e : Nat) : Bool :=
  (List.range 32).any (fun j => bit (d.slot e (d.clSet (e / 8)) j) 3) && !d.isRetired 6 e

/-- A FREE context; transmit entries stay counted until the switch core is done with them (R195). -/
def freeCtx (x : Ctx) : Ctx := { txe := x.txe }

-- Channels (R197, R198).

def Dev.chan (d : Dev) (c i : Nat) : Chan := sget d.eng.chans (16 * c + i) {}
def Dev.setChan (d : Dev) (c i : Nat) (x : Chan) : Dev := { d with eng.chans := sset d.eng.chans (16 * c + i) x {} }

/-- The context stops waiting on a channel. -/
def Dev.unwait (d : Dev) (n : Nat) : Dev :=
  let c := n / 64
  match (d.ctx n).wait with
  | .chanRecv i => d.setChan c i { d.chan c i with recvs := (d.chan c i).recvs.filter (fun m => m != n) }
  | .chanOpen i => d.setChan c i { d.chan c i with opens := (d.chan c i).opens.filter (fun m => m != n) }
  | _ => d

-- Faults (R201).

/-- The fault record of a context (Table 8.6). -/
def faultRec (n : Nat) (x : Ctx) (code detail : Nat) : Nat :=
  code % 256 + n % 8 * 2 ^ 8 + x.pc % 8192 * 2 ^ 11 + b2n x.pkt.isSome * 2 ^ 24 + b2n x.held.isSome * 2 ^ 25 +
    x.epoch.getD 0 % 8 * 2 ^ 26 + detail % 2 ^ 32 * 2 ^ 32

/-- A thread faults: it stops in FAULTED and keeps what it holds. -/
def Dev.fault (d : Dev) (n code detail : Nat) : Dev :=
  let d := d.unwait n
  let x := d.ctx n
  (d.setCtx n { x with st := .faulted, fault := faultRec n x code detail, delivered := false, faultAge := 0, wait := .none, waitH := noFlow,
                       cur := none, kickReq := false, stepping := false, haltReq := 0,
                       pkt := x.pkt.map (fun k => { k with miss := none }) }).cntEng (n / 64) 4

-- Shares (R195).

/-- Credits of the common remainder in use: each context's holding beyond its guarantee. -/
def Dev.shareUsed (d : Dev) (c lo : Nat) (held : Ctx → Nat) : Nat :=
  (List.range 64).foldl (fun n t => n + (held (d.ctx (64 * c + t)) - lo)) 0

/-- Whether context `n` may take one more handle. -/
def Dev.handleShare (d : Dev) (n : Nat) : Bool :=
  let c := n / 64
  let k := (d.ctx n).handles.length
  let lo := d.get (ENG.SHARE_CFG.BUF_MIN c)
  if d.is (ENG.SHARE_CFG.MODE c) then
    Nat.blt k lo || (Nat.blt k (d.get (ENG.SHARE_CFG.BUF_MAX c)) && Nat.blt (d.shareUsed c lo (fun x => x.handles.length)) (1024 - 64 * lo))
  else Nat.blt k 16

/-- Whether context `n` may take one more transmit entry. -/
def Dev.txShare (d : Dev) (n : Nat) : Bool :=
  let c := n / 64
  let k := (d.ctx n).txe
  let lo := d.get (ENG.SHARE_CFG.TX_MIN c)
  if d.is (ENG.SHARE_CFG.MODE c) then
    Nat.blt k lo || (Nat.blt k (d.get (ENG.SHARE_CFG.TX_MAX c)) && Nat.blt (d.shareUsed c lo (fun x => x.txe)) (256 - 64 * lo))
  else Nat.blt k 4

-- Completing a microword, halting (R216, R379).

/-- The thread that has waited longest for a channel to open now holds it. -/
def Dev.chanOpened (d : Dev) (c i n : Nat) : Dev :=
  let d := d.setChan c i { d.chan c i with st := 1, holder := n, staged := [], openAt := d.tick }
  let x := (((d.ctx n).setCond 0x08 false).setCond 0x09 false)
  d.setCtx n { x with chan := some i }

/-- The memory part of the context's microword is complete: the thread is READY for the rest of the word. -/
def Dev.memDone (d : Dev) (n : Nat) : Dev :=
  let x := d.ctx n
  let d := d.setCtx n { x with st := .ready, wait := .none, cur := x.cur.map (fun u => { u with memDone := true }) }
  if x.kickReq then d.fault n 0x09 0 else d

/-- A channel has become EMPTY: the longest waiting opener takes it. -/
def Dev.chanEmpty (d : Dev) (c i : Nat) : Dev :=
  let x := { d.chan c i with st := 0, holder := 0, staged := [] }
  match x.opens with
  | [] => d.setChan c i x
  | n :: ns => ((d.setChan c i { x with opens := ns }).chanOpened c i n).memDone n

/-- Aborts the channel that a context holds. -/
def Dev.chanAbort (d : Dev) (n : Nat) : Dev :=
  let x := d.ctx n
  match x.chan with
  | some i => (d.setCtx n { x with chan := none }).chanEmpty (n / 64) i
  | none => d

-- Handles (R196).

/-- The device releases every handle that a thread still owns. -/
def Dev.handlesBack (d : Dev) (n : Nat) : Dev :=
  let x := d.ctx n
  let d := d.setCtx n { x with handles := [] }
  (d.bfreeAll (n / 2048) (threadReq (n / 64) (n % 64)) x.handles).cntEngBy (n / 64) 12 x.handles.length

-- Records (R154, R157, R158, R187, R189).

/-- A packet that has no record: it counts NOFLOW. -/
def Dev.noflow (d : Dev) (k : Pkt) : Dev := d.cntQry k.slice 7

/-- Sends the COMMIT of a held record (R167): STATE fields and VER as taken, with the deltas of the line, if that can be read. -/
def Dev.commit (d : Dev) (n : Nat) (h : Held) : Dev :=
  let s := n / 512
  let d := match d.lineOf s h.handle with
    | some l => let (bad, d) := d.lineWords l; if bad then d.lostLine l else d
    | none => d
  let t := match d.lineOf s h.handle with
    | some l => lineTxn .commit l (n + 1)
    | none => { txn0 with kind := .commit, slice := s, half := flowHalf h.handle, handle := h.handle, ctx := n + 1 }
  let d := d.issue { t with words := h.words, ver := h.ver }
  d.updLine s h.handle (fun l =>
    let c := cleanLine l
    { c with words := mergeState (rFULL (nthD c.words 0 0)) c.words h.words })

/-- The thread holds its record no longer, with a COMMIT if `com` and a STATE field changed (R189); without lazy write-back its deltas go too (R168). -/
def Dev.unhold (d : Dev) (n : Nat) (com : Bool) : Dev :=
  let x := d.ctx n
  match x.held with
  | none => d
  | some h =>
    let s := n / 512
    let d := d.setCtx n { x with held := none }
    if com && h.changed then d.commit n h
    else match d.lineOf s h.handle with
      | some l => if !d.is (QRY.FACE_CFG.WB_EN s) && l.st == .dirty then d.writeBack l (n + 1) else d
      | none => d

/-- The context becomes READY where it stands; a kick or halt that was asked for takes it now (R379). A record that it has just been given and that the halt releases stands idle from then on (R168). -/
def Dev.goReady (d : Dev) (n : Nat) : Dev :=
  let x := { d.ctx n with wait := .none, waitH := noFlow }
  if x.kickReq then (d.setCtx n { x with st := .ready }).fault n 0x09 0
  else if x.haltReq = 0 || x.cur.isSome then d.setCtx n { x with st := .ready }
  else
    let rel := x.haltReq == 2
    let d := d.setCtx n { x with st := .halted, relHalt := rel, byBp := false, haltReq := 0 }
    match rel, x.held with
    | true, some h =>
      let d := (d.unhold n false).updLine (n / 512) h.handle (fun l => { l with hitAt := d.tick })
      d.setCtx n ((d.ctx n).setCond 0x0A true)
    | _, _ => d

/-- A dispatched packet, or a QTAKE, ends without a record: flow status `status` 2 to 8 (R157, R158, R225). -/
def Dev.noRecord (d : Dev) (n status : Nat) : Dev :=
  let x := d.ctx n
  match x.cur, x.pkt with
  | some _, _ => d.setCtx n { x.setCond 0x0D true with wait := .op, waitH := noFlow }
  | none, some k =>
    let k := { k with status := status, handle := noFlow, miss := none }
    if d.is (QRY.INS_CFG.NOFLOW_PROG k.slice (keyType k)) then (d.setCtx n { x with pkt := some k, pc := status }).goReady n
    else (d.setCtx n (freeCtx x)).sendOn k
  | none, none => d

/-- Whether the fast actions are all that a record asks for this packet (Table 7.7). -/
def fastOnly (w0 : Nat) (dir : Bool) : Bool := !rPROG w0 && (!rRWEN w0 || !dir)

/-- The thread takes the record of line `l` (R154, R187): a QTAKE completes; a dispatched packet is counted in the record and starts, or, where only the wait had sent it here, goes to the flow-update unit (R158). -/
def Dev.giveRecord (d : Dev) (n : Nat) (l : Line) (new : Bool) : Dev :=
  let x := d.ctx n
  let h : Held := ⟨l.handle, lineNow l, l.ver, false⟩
  match x.cur, x.pkt with
  | some _, _ => d.setCtx n { (x.setCond 0x0D false).setCond 0x0A false with held := some h, wait := .op, waitH := noFlow }
  | none, some k =>
    let k := { k with status := b2n new, handle := l.handle, miss := none }
    if k.recheck && !new && fastOnly (nthD l.words 0 0) k.dir then
      { d.setCtx n (freeCtx x) with pipe := d.pipe ++ [{ k with stage := .flowUpd }] }
    else
      let d := if k.counted then d else d.updLine l.slice l.handle (addDelta d.tick 1 0 k.len (some d.qryNow))
      (d.setCtx n { x with pkt := some { k with counted := true }, held := some h, pc := b2n new }).goReady n
  | none, none => d

/-- The context waits for a miss. -/
def Dev.waitMiss (d : Dev) (n id : Nat) : Dev :=
  let x := d.ctx n
  d.setCtx n { x with st := .waitMem, wait := if x.cur.isSome then .bench else .fill, waitH := noFlow,
                      pkt := if x.cur.isSome then x.pkt else x.pkt.map (fun k => { k with miss := some id }) }

/-- The record is not in the Face: it is fetched for this context. -/
def Dev.refetch (d : Dev) (n handle : Nat) : Dev :=
  let x := d.ctx n
  match x.cur, x.pkt with
  | none, some k =>
    let (i, d) := d.missFor k
    d.waitMiss n i
  | _, _ =>
    let (i, d) := d.missTake n handle
    d.waitMiss n i

/-- The context of slice `s` that has waited longest for a record (R154). -/
def Dev.recWaiter (d : Dev) (s handle : Nat) : Option Nat :=
  (d.eng.ctxs.foldl (fun (b : Option (Nat × Nat)) e =>
    if e.1 / 512 == s && e.2.wait == .record && e.2.waitH == handle then
      match b with
      | some (_, q) => if Nat.blt e.2.waitSeq q then some (e.1, e.2.waitSeq) else b
      | none => some (e.1, e.2.waitSeq)
    else b) none).map (fun r => r.1)

/-- A record of slice `s` is no longer held: the waiting threads take it in order; `f` bounds the waiters. A line left without holder begins its idle time (R168). -/
def Dev.serve (d : Dev) (s handle : Nat) : Nat → Dev
  | 0 => d
  | f + 1 =>
    if (d.holder s handle).isSome then d
    else match d.recWaiter s handle with
      | none => (d.updLine s handle (fun l => { l with hitAt := d.tick })).vacate s handle
      | some n =>
        match d.goneStatus s handle with
        | some st => (d.noRecord n st).serve s handle f
        | none => match d.lineRead s handle with
          | (some l, d) => (d.giveRecord n l ((d.ctx n).pkt.any (fun k => k.status == 1))).serve s handle f
          | (none, d) => (d.refetch n handle).serve s handle f

/-- The context waits for a record that another thread holds. -/
def Dev.waitRecord (d : Dev) (n handle : Nat) : Dev :=
  let (i, d) := d.newId
  let x := d.ctx n
  d.setCtx n { x with st := .waitMem, wait := .record, waitH := handle, waitSeq := i }

/-- Context `n` asks for a record of its slice by handle: it takes it, waits for it, or fetches it. -/
def Dev.wantRecord (d : Dev) (n handle : Nat) (new : Bool) : Dev :=
  let s := n / 512
  match d.goneStatus s handle with
  | some st => d.noRecord n st
  | none => match d.lineRead s handle with
    | (some l, d) => if (d.holder s handle).isSome || (d.recWaiter s handle).isSome then d.waitRecord n handle else d.giveRecord n l new
    | (none, d) => d.refetch n handle

/-- The thread lets its record go (`unhold`), and those that wait for it take it. -/
def Dev.relRecord (d : Dev) (n : Nat) (com : Bool) : Dev :=
  match (d.ctx n).held with
  | none => d
  | some h => (d.unhold n com).serve (n / 512) h.handle 64

-- Halts (R207, R379).

/-- The context halts; with `rel`, its channel is aborted and its record released without COMMIT, and it will see them lost. -/
def Dev.doHalt (d : Dev) (n : Nat) (rel byBp : Bool) : Dev :=
  let d := d.unwait n
  let x := d.ctx n
  let d := d.setCtx n { x with st := .halted, wait := .none, waitH := noFlow, cur := none, relHalt := rel, byBp := byBp, haltReq := 0, stepping := false }
  let d := if byBp then d.raise (EV_DBG_HALT (n / 512)) else d
  if rel then
    let lost := (if x.chan.isSome then setBit x.conds 0x09 else x.conds)
    let lost := (if x.held.isSome then setBit lost 0x0A else lost)
    let d := (d.chanAbort n).relRecord n false
    d.setCtx n { d.ctx n with conds := lost }
  else d

/-- A READY context between two microwords: a halt that was asked for, or the end of a STEP, takes it. -/
def Dev.settle (d : Dev) (n : Nat) : Dev :=
  let x := d.ctx n
  if x.st = .ready && x.cur.isNone && (x.haltReq != 0 || x.stepping) then d.doHalt n (x.haltReq == 2 || (x.stepping && x.relHalt)) false
  else d

/-- The last part of a microword (R216): the ALU result and then the loaded values are written. -/
def Dev.retireWord (d : Dev) (n : Nat) : Dev :=
  let x := d.ctx n
  match x.cur with
  | none => d
  | some u =>
    let dst := uDST u.word
    let d := match u.alu with
      | none => d
      | some r =>
        if dst < 0x20 then (d.setCtx n (x.setP dst r)).mend (regKey n dst)
        else if dst = 0x23 then (d.setCtx n { x with pkt := x.pkt.map (fun k => k.writeD3 r.toNat) }).mend (regKey n dst)
        else d
    u.loads.foldl (fun (d : Dev) l => (d.setCtx n ((d.ctx n).setP l.1 l.2)).mend (regKey n (l.1 % 32))) d

/-- The microword is complete: its results are written and the thread goes on at `pc`. -/
def Dev.wordDone (d : Dev) (n pc : Nat) : Dev :=
  let d := d.retireWord n
  let x := d.ctx n
  let d := d.setCtx n { x with st := .ready, pc := pc % 8192, cur := none, wait := .none, skipBp := false }
  if x.kickReq then d.fault n 0x09 0 else d.settle n

-- Ends (R192, R196, R198, R202, R221).

/-- The parent of an ended thread has one live child fewer; a JOIN may complete. -/
def Dev.childGone (d : Dev) (x : Ctx) : Dev :=
  if x.parent = 0 then d
  else
    let p := d.ctx (x.parent - 1)
    if p.seq = x.parentSeq && p.st != .free then
      let p := { p with children := p.children - 1 }
      if p.children = 0 && p.wait == .join then (d.setCtx (x.parent - 1) p).wordDone (x.parent - 1) (p.pc + 1)
      else d.setCtx (x.parent - 1) p
    else d

/-- What is left of a thread is given back and its context is FREE. Its transactions and their PUSHes go on without it: no fence of a later thread waits for them (R36). -/
def Dev.endThread (d : Dev) (n : Nat) : Dev :=
  let d := ((d.unwait n).chanAbort n).handlesBack n
  let x := d.ctx n
  let d := { d.setCtx n (freeCtx x) with
    qry.txns := d.qry.txns.map (fun (t : Txn) => if t.ctx = n + 1 then { t with ctx := 0 } else t)
    qry.pushes := d.qry.pushes.map (fun (p : Push) => if p.ctx = n + 1 then { p with ctx := 0 } else p) }
  d.childGone x

/-- DROP (R202): the packet is discarded and counted, the record is released without COMMIT. -/
def Dev.dropThread (d : Dev) (n : Nat) : Dev :=
  let x := d.ctx n
  let d := match x.pkt with
    | some k => ((d.setCtx n { x with pkt := none }).discard k).cntEng (n / 64) 7
    | none => d
  (d.relRecord n false).endThread n

-- Dispatch (R187).

/-- Dispatch of a packet to context `n` (R187): it takes its record, waits for it, or starts without one. -/
def Dev.startPacket (d : Dev) (n : Nat) (k : Pkt) : Dev :=
  let (i, d) := d.newId
  let x : Ctx := { txe := (d.ctx n).txe, st := .waitMem, pkt := some { k with stage := .thread }, key := k.key, epoch := k.epoch, seq := i }
  let d := (d.cleanRegs n).setCtx n x
  match k.miss with
  | some i => (d.waitMiss n i).settle n
  | none =>
    if Nat.ble k.status 1 then (d.wantRecord n k.handle (k.status == 1)).settle n
    else if k.recheck then (d.noRecord n k.status).settle n
    else (d.setCtx n { x with st := .ready, pc := k.status }).settle n

end Sys2Proof.Machine
end

