-- ==== Sys2Proof/Machine/Bench.lean ====
section
/-! DEFINITION. The Bench: buckets and tags, units and free rings, insertion, relocation, commits, deletion and the end log (spec/07 R148 to R173). -/

namespace Sys2Proof.Machine

open Sys2Proof

-- Tags (Table 7.3).

def tFP (t : Nat) : Nat := bits t 31 0
def tINDEX (t : Nat) : Nat := bits t 58 32
def tVALID (t : Nat) : Bool := bit t 59
def tFULL (t : Nat) : Bool := bit t 60
def tDYING (t : Nat) : Bool := bit t 61
def tSTATIC (t : Nat) : Bool := bit t 62

/-- Address of tag `j` of bucket `b`. -/
def Dev.tagA (d : Dev) (h b j : Nat) : Nat := d.bucketA h b + 8 * j

/-- The candidate buckets of a flow: one where both indices are equal (R146). -/
def Dev.buckets (d : Dev) (h1 h2 : Nat) : List Nat :=
  if d.bucketOf h1 = d.bucketOf h2 then [d.bucketOf h1] else [d.bucketOf h1, d.bucketOf h2]

/-- Addresses of the tags of some buckets. -/
def Dev.tagSlots (d : Dev) (h : Nat) (bs : List Nat) : List Nat := bs.flatMap (fun b => (List.range 8).map (fun j => d.tagA h b j))

/-- The live tag of a flow: right fingerprint, then right key (R164). -/
def Dev.findTag (d : Dev) (h h1 h2 : Nat) (key : List Byte) : Option Nat :=
  (d.tagSlots h (d.buckets h1 h2)).find? (fun a =>
    let t := d.rd64 a
    tVALID t && tFP t == Nat.xor h1 h2 && recKey (d.recAt h (tINDEX t)) == key)

/-- The live tag that names unit `u`. -/
def Dev.tagOf (d : Dev) (h u : Nat) : Option Nat :=
  let key := recKey (d.recAt h u)
  (d.tagSlots h (d.buckets (d.hash1 key) (d.hash2 key))).find? (fun a => tVALID (d.rd64 a) && tINDEX (d.rd64 a) == u)

/-- Handle of the record in unit `u`. -/
def Dev.flowOf (d : Dev) (h u : Nat) : Nat := mkFlow h (rGEN (d.rd64 (d.unitA h u))) u

/-- What a handle finds: 0 a live record, 4 a stale handle, 6 a record being deleted, 7 a poisoned one. -/
def Dev.handleState (d : Dev) (x : Nat) : Nat :=
  let h := flowHalf x
  let u := flowUnit x
  match d.tagOf h u with
  | none => 4
  | some a =>
    if rGEN (d.rd64 (d.unitA h u)) != flowGen x then 4
    else if tDYING (d.rd64 a) then (if d.qry.dels.any (fun y => y.handle == x && y.reason == 3) then 7 else 6)
    else 0

/-- An uncorrectable record is deleted with end-log reason 3 (R173). -/
def Dev.poison (d : Dev) (h u : Nat) : Dev :=
  match d.tagOf h u with
  | none => d
  | some a =>
    if tDYING (d.rd64 a) then d
    else
      let (i, d) := d.newId
      let d := d.wr64 a (setBit (d.rd64 a) 61)
      { d with qry.dels := d.qry.dels ++ [{ id := i, handle := d.flowOf h u, reason := 3 }] }

/-- Reads the candidate buckets under ECC: an uncorrectable word clears all eight tags of its bucket (R173). The answer says whether one had such a word. -/
def Dev.readBuckets (d : Dev) (h : Nat) : List Nat → Bool × Dev
  | [] => (false, d)
  | b :: bs =>
    let (bad, d) := d.eccRead (d.bucketA h b) 8
    let (bad', d) := (if bad then d.wrWords (d.bucketA h b) [0, 0, 0, 0, 0, 0, 0, 0] else d).readBuckets h bs
    (bad || bad', d)

/-- Reads the record of unit `u` under ECC; the answer says whether it is poisoned. -/
def Dev.readRec (d : Dev) (h u : Nat) : Bool × Dev :=
  let a := d.unitA h u
  let (bad, d) := d.eccRead a (recLen (rFULL (d.rd64 a)))
  (bad, if bad then d.poison h u else d)

-- Units (R148, R150).

/-- Takes a unit from the free ring of a zone; units over withdrawn rows are left out (R403). `f` bounds the tries. -/
def Dev.takeUnit (d : Dev) (h : Nat) (full : Bool) : Nat → Option Nat × Dev
  | 0 => (none, d)
  | f + 1 =>
    let k := 2 * h + b2n full
    let r := sget d.qry.freeRings k []
    let n := runsLen r
    if n = 0 then (none, d)
    else
      let (c, d) := d.fresh
      let e := runsNth r (c % n)
      let d := { d with qry.freeRings := sset d.qry.freeRings k (runsDel r e) [] }
      let u := if full then 2 * e else e
      if d.rowGone (d.unitA h u) || (full && d.rowGone (d.unitA h (u + 1))) then d.takeUnit h full f
      else (some u, d)

/-- Returns a unit to the free ring of its zone; a unit over a withdrawn row is not returned (R403). -/
def Dev.freeUnit (d : Dev) (h u : Nat) (full : Bool) : Dev :=
  let k := 2 * h + b2n full
  if d.rowGone (d.unitA h u) || (full && d.rowGone (d.unitA h (u + 1))) then d
  else { d with qry.freeRings := sset d.qry.freeRings k (sget d.qry.freeRings k [] ++ [(if full then u / 2 else u, 1)]) [] }

-- Insertion (R164 to R166).

/-- The insertion limiter of half `h`, in 1/20 insertion: 3 units come back in each tick, at most 65,536 insertions. -/
def Dev.insLevel (d : Dev) (h : Nat) : Nat :=
  min (65536 * 20) (sget d.qry.insTok h (65536 * 20) + 3 * (d.tick - sget d.qry.insAt h 0))

/-- Takes one insertion from the allowance, if it holds one (R166). -/
def Dev.insAllow (d : Dev) (h : Nat) : Bool × Dev :=
  let l := d.insLevel h
  if Nat.blt l 20 then (false, d)
  else (true, { d with qry.insTok := sset d.qry.insTok h (l - 20) (65536 * 20), qry.insAt := sset d.qry.insAt h d.tick 0 })

/-- The first free tag slot of some buckets. -/
def Dev.freeTag (d : Dev) (h : Nat) (bs : List Nat) : Option Nat := (d.tagSlots h bs).find? (fun a => !tVALID (d.rd64 a))

/-- One relocation: a tag of a candidate bucket moves to its other bucket, if that has room; the destination is written first (R165). -/
def Dev.relocate (d : Dev) (h : Nat) (bs : List Nat) : Dev :=
  match d.pick (d.tagSlots h bs) with
  | (none, d) => d
  | (some a, d) =>
    let t := d.rd64 a
    let key := recKey (d.recAt h (tINDEX t))
    let b1 := d.bucketOf (d.hash1 key)
    let b2 := d.bucketOf (d.hash2 key)
    let here := (a - d.benchA h) / 64
    let other := if here = b1 then b2 else b1
    if other = here then d
    else match d.freeTag h [other] with
      | none => d
      | some a' => ((d.wr64 a' (setBits t 63 63 (b2n (other == b2)))).wr64 a 0).cntH h 3

/-- A tag slot for a flow: in its first bucket, else in its second, else after up to two relocations. -/
def Dev.roomFor (d : Dev) (h : Nat) (bs : List Nat) : Option Nat × Dev :=
  match d.freeTag h bs with
  | some a => (some a, d)
  | none =>
    let d := d.relocate h bs
    match d.freeTag h bs with
    | some a => (some a, d)
    | none =>
      let d := d.relocate h bs
      (d.freeTag h bs, d)

/-- `n` words of a key, from its first byte. -/
def keyWords (key : List Byte) (n : Nat) : List Nat := (List.range n).map (fun i => leNat (sliceB key (8 * i) 8))

/-- A new record without its GEN: word 0, FIRST and LAST, and the key. -/
def newRec (full : Bool) (w0 first last : Nat) (key : List Byte) : List Nat :=
  [w0 + b2n full * 2 ^ 12, 0, 0, last % 2 ^ 32 + first % 2 ^ 32 * 2 ^ 32, 0] ++ keyWords key (if full then 11 else 3)

/-- Places a new record: unit, record, then tag (R164). None if the zone is empty or no slot can be had. -/
def Dev.place (d : Dev) (h h1 h2 : Nat) (full static : Bool) (ws : List Nat) : Option Nat × Dev :=
  match d.takeUnit h full 64 with
  | (none, d) => (none, d)
  | (some u, d) =>
    let bs := d.buckets h1 h2
    match d.roomFor h bs with
    | (none, d) => (none, d.freeUnit h u full)
    | (some a, d) =>
      let g := rGEN (d.rd64 (d.unitA h u))
      let d := d.wrWords (d.unitA h u) (setNth ws 0 (setBits (nthD ws 0 0) 11 8 g))
      let alt := (a - d.benchA h) / 64 != d.bucketOf h1
      let t := Nat.xor h1 h2 + u * 2 ^ 32 + 2 ^ 59 + b2n full * 2 ^ 60 + b2n static * 2 ^ 62 + b2n alt * 2 ^ 63
      (some (mkFlow h g u), d.wr64 a t)

/-- Sets the CACHED bit of slice `s` in a record. -/
def Dev.setCached (d : Dev) (x s : Nat) (on : Bool) : Dev :=
  let a := d.unitA (flowHalf x) (flowUnit x)
  d.wr64 a (setBits (d.rd64 a) (56 + s) (56 + s) (b2n on))

/-- The record of a handle. -/
def Dev.recOf (d : Dev) (x : Nat) : List Nat := d.recAt (flowHalf x) (flowUnit x)

/-- Writes a record back. -/
def Dev.putRec (d : Dev) (x : Nat) (ws : List Nat) : Dev := d.wrWords (d.unitA (flowHalf x) (flowUnit x)) ws

/-- An insertion refused or failed for a slice (R165, R166). -/
def Dev.insFull (d : Dev) (h s : Nat) : Dev := (d.cntQry s 5).raise (EV_QRY_TABLE_FULL h)
def Dev.insRate (d : Dev) (h s : Nat) : Dev := (d.cntQry s 6).raiseMs (EV_QRY_INS_RATE h)

/-- Carries out a LOOKUP (R161, R164): flow status, handle, words. -/
def Dev.benchLookup (d : Dev) (t : Txn) : Nat × Nat × List Nat × Dev :=
  let h := t.half
  let hit := fun (d : Dev) (x st : Nat) =>
    let d := d.setCached x t.slice true
    (st, x, d.recOf x, d)
  if t.handle != noFlow then
    match d.readRec h (flowUnit t.handle) with
    | (true, d) => (7, noFlow, [], d)
    | (false, d) => match d.handleState t.handle with
      | 0 => hit d t.handle 0
      | 4 => (5, noFlow, [], d)
      | st => (st, noFlow, [], d)
  else
    let (lost, d) := d.readBuckets h (d.buckets t.h1 t.h2)
    match d.findTag h t.h1 t.h2 t.fkey with
    | some a =>
      let u := tINDEX (d.rd64 a)
      match d.readRec h u with
      | (true, d) => (7, noFlow, [], d)
      | (false, d) =>
        let x := d.flowOf h u
        match d.handleState x with
        | 0 => hit d x 0
        | st => (st, noFlow, [], d)
    | none =>
      if lost then (7, noFlow, [], d)
      else if !t.ins then (5, noFlow, [], d)
      else match d.insAllow h with
        | (false, d) => (4, noFlow, [], d.insRate h t.slice)
        | (true, d) => match d.place h t.h1 t.h2 t.full false (newRec t.full (t.w0 + 2 ^ (56 + t.slice)) d.qryNow d.qryNow t.fkey) with
          | (some x, d) => (1, x, d.recOf x, d.cntQry t.slice 4)
          | (none, d) => (3, noFlow, [], d.insFull h t.slice)

/-- Carries out a QINS (R225): 1 inserted, else 2 FULL, 3 RATE or 5 DUP, in the model's own coding. -/
def Dev.benchQins (d : Dev) (t : Txn) : Nat × Nat × Dev :=
  let h := t.half
  match d.insAllow h with
  | (false, d) => (3, noFlow, d.insRate h t.slice)
  | (true, d) =>
    let d := (d.readBuckets h (d.buckets t.h1 t.h2)).2
    match d.findTag h t.h1 t.h2 t.fkey with
    | some _ => (5, noFlow, d)
    | none => match d.place h t.h1 t.h2 t.full false (newRec t.full t.w0 d.qryNow d.qryNow t.fkey) with
      | (some x, d) => (1, x, d.cntQry t.slice 4)
      | (none, d) => (2, noFlow, d.insFull h t.slice)

/-- Merges the deltas of a transaction into its record. -/
def mergeTxn (t : Txn) (ws : List Nat) : List Nat := mergeDelta ws t.dPkts t.dBad t.dOct t.dLast

/-- FLUSH_BUSY falls when the last write-back of a FLUSH_ALL is done (Table 7.12). -/
def Dev.flushDone (d : Dev) (s : Nat) : Dev :=
  if d.is (QRY.FACE_CFG.FLUSH_BUSY s) && d.qry.txns.all (fun t => !(t.slice == s && t.kind == .writeBack && Nat.ble t.id (sget d.qry.flushAll s 0))) then
    d.set (QRY.FACE_CFG.FLUSH_BUSY s) 0
  else d

/-- Sends the STATE fields and VER of a record to every slice that caches it, but slice `s` (R167); `n` is the thread that committed, plus 1. -/
def Dev.push (d : Dev) (x s n : Nat) : Dev :=
  let ws := d.recOf x
  let dsts := (List.range 8).filter (fun i => i != s && bit (rCACHED (nthD ws 0 0)) i)
  { d with qry.pushes := d.qry.pushes ++ dsts.map (fun i => Push.mk i x ws n) }

/-- A versioned commit that is applied: STATE fields, VER, deltas, PUSHes. -/
def Dev.applyCommit (d : Dev) (x s n : Nat) (ws : List Nat) (merge : List Nat → List Nat) : Dev :=
  let old := d.recOf x
  let new := merge (mergeState (rFULL (nthD old 0 0)) old ws)
  (d.putRec x (setNth new 0 (setBits (nthD new 0 0) 7 0 (rVER (nthD old 0 0) + 1)))).push x s n

/-- A refused or applied COMMIT at the Bench unit (R167). -/
def benchCommitEff (t : Txn) (d : Dev) : Dev :=
  match d.readRec t.half (flowUnit t.handle) with
  | (true, d) => d.endTxn t.id
  | (false, d) =>
    if d.handleState t.handle != 0 then d.endTxn t.id
    else
      let ws := d.recOf t.handle
      let s := t.slice
      if rVER (nthD ws 0 0) = t.ver then
        let v := (t.ver + 1) % 256
        let d := (d.applyCommit t.handle s t.ctx t.words (mergeTxn t)).endTxn t.id
        let d := d.updLine s t.handle (fun l => { l with ver := v })
        match d.holder s t.handle with
        | some n =>
          let x := d.ctx n
          d.setCtx n { x with held := x.held.map (fun r => if r.ver = t.ver then { r with ver := v } else r) }
        | none => d
      else
        let d := d.putRec t.handle (mergeTxn t ws)
        ((d.cntQry s 11).raise (EV_QRY_STATE_CONFLICT s)).answer t.id 1 t.handle (d.recOf t.handle)

-- Deletion (R170).

/-- The end-log entry of a record (R171). -/
def endLogEntry (x reason now : Nat) (ws : List Nat) : List Byte :=
  natLE 8 (x + reason * 2 ^ 32 + b2n (rFULL (nthD ws 0 0)) * 2 ^ 34) ++ natLE 8 now ++ List.replicate 48 0 ++
    sliceB (wordBytes ws) 0 128 ++ List.replicate 64 0

/-- Steps 1 to 3 of a deletion whose record is live or poisoned. -/
def Dev.startDelete (d : Dev) (y : Del) : Dev :=
  let h := flowHalf y.handle
  let u := flowUnit y.handle
  let ws := d.recOf y.handle
  let d := match d.tagOf h u with
    | some a => d.wr64 a (setBit (d.rd64 a) 61)
    | none => d
  let d := if rLOGEND (nthD ws 0 0) then d.ringAppend (endLog h) (endLogEntry y.handle y.reason d.qryNow ws) (fun d => d.cntH h 4) else d
  let y := { y with started := true, cmp := none, waits := (List.range 8).filter (fun i => bit (rCACHED (nthD ws 0 0)) i) }
  { d with qry.dels := d.qry.dels.filter (fun z => z.id != y.id) ++ [y] }

/-- Takes a deletion off the list. -/
def Dev.dropDel (d : Dev) (id : Nat) : Dev := { d with qry.dels := d.qry.dels.filter (fun z => z.id != id) }

/-- BENCH_DELETE of a waiting deletion: the sweep's compare first (R169); a stale handle changes nothing (R171). -/
def benchDeleteEff (y : Del) (d : Dev) : Dev :=
  let h := flowHalf y.handle
  let ws := d.recOf y.handle
  let same := match y.cmp with
    | some (a, b) => nthD ws 0 0 == a && nthD ws 3 0 == b
    | none => true
  if y.reason = 3 then d.startDelete y
  else match d.readRec h (flowUnit y.handle) with
    | (true, d) => d.dropDel y.id
    | (false, d) =>
      if !same then (d.dropDel y.id).cntH h 1
      else if d.handleState y.handle != 0 then d.dropDel y.id
      else d.startDelete y

/-- Steps 4 and 5: the tag is cleared, GEN advances, the unit is free. AGED counts the sweep's deletions, DELETES every other (R176). -/
def deleteFinishEff (y : Del) (d : Dev) : Dev :=
  let h := flowHalf y.handle
  let u := flowUnit y.handle
  let w0 := d.rd64 (d.unitA h u)
  let d := match d.tagOf h u with
    | some a => d.wr64 a 0
    | none => d
  let d := (d.wr64 (d.unitA h u) (setBits w0 11 8 (rGEN w0 + 1))).freeUnit h u (rFULL w0)
  (d.dropDel y.id).cntH h (if y.reason = 0 then 0 else 2)

-- Transactions at the Bench unit (R161).

/-- The flow key of the record that a transaction is for: its own, or the one stored under its handle. -/
def Dev.txnKey (d : Dev) (t : Txn) : List Byte :=
  if t.fkey != [] then t.fkey else if t.handle != noFlow then recKey (d.recOf t.handle) else []

/-- Whether two transactions of one slice are for one record or one flow key. -/
def Dev.sameRec (d : Dev) (t u : Txn) : Bool :=
  t.slice == u.slice && ((t.handle != noFlow && t.handle == u.handle) || (d.txnKey t != [] && d.txnKey t == d.txnKey u))

/-- Addresses in the rows that a transaction reads: the buckets of its flow and its record. -/
def Dev.txnReads (d : Dev) (t : Txn) : List Nat :=
  let key := d.txnKey t
  let bs := (d.buckets (d.hash1 key) (d.hash2 key)).map (fun b => d.bucketA t.half b)
  if t.handle != noFlow then d.unitA t.half (flowUnit t.handle) :: bs
  else match d.findTag t.half t.h1 t.h2 t.fkey with
    | some a => d.unitA t.half (tINDEX (d.rd64 a)) :: bs
    | none => bs

/-- Addresses in the rows of a record: its unit and the buckets of its key. -/
def Dev.recRows (d : Dev) (x : Nat) : List Nat :=
  let key := recKey (d.recOf x)
  d.unitA (flowHalf x) (flowUnit x) :: (d.buckets (d.hash1 key) (d.hash2 key)).map (d.bucketA (flowHalf x))

/-- The transaction with this identity, if the Bench unit may carry it out now: it is outstanding (R162), no earlier one of its slice for the same record waits (R161), and no row that it reads is under repair (R403). -/
def Dev.txnReady (d : Dev) (id : Nat) : Option Txn :=
  match takeFirst (fun t => t.id == id) d.qry.txns with
  | none => none
  | some (t, _) =>
    let before := d.qry.txns.takeWhile (fun u => u.id != id)
    if !t.done && Nat.blt (before.filter (fun u => u.slice == t.slice)).length 2048 && Nat.blt before.length 16384 &&
        before.all (fun u => u.done || !d.sameRec t u) && d.is QRY.GCFG.READY && d.halfOn t.half && !d.anyWaits (d.txnReads t) &&
        (t.slice / 4 == t.half || (d.laneGroup 0).isSome) then some t
    else none

end Sys2Proof.Machine
end

