-- ==== Sys2Proof/Machine/Quarry.lean ====
section
/-! DEFINITION. The Quarry's commands: Face lookup, the flow-update unit, Bench transactions and their responses, flush and idle release, aging, deletion and the host commands (spec/07 R143 to R176). -/

namespace Sys2Proof.Machine

open Sys2Proof

-- FACE_LOOKUP (R143 to R162).

/-- A packet takes its place in the release order of its cluster, unless it has one (R29, R188). -/
def Dev.addOrd (d : Dev) (k : Pkt) : Dev :=
  let c := flowCluster k.slice k.h1
  let l := d.ordOf c
  if l.any (fun o => o.id == k.id) then d else d.setOrd c (l ++ [⟨k.h1, k.h2, k.id, none⟩])

/-- A packet enters the dispatch queue of its cluster, or is discarded (R185). -/
def Dev.toQueue (d : Dev) (k : Pkt) : Dev :=
  let d := d.takeFrame k
  let c := flowCluster k.slice k.h1
  let q := sget d.eng.dq c []
  if Nat.ble 256 q.length then ((d.discard k).cntEng c 1).raiseMs (EV_ENG_DISPATCH_OVERRUN k.slice)
  else
    { d.addOrd k with eng.dq := sset d.eng.dq c (q ++ [{ k with stage := .queued }]) [] }

/-- A packet that no program and no record takes goes on with its classifier and forwarding results. -/
def Dev.onward (d : Dev) (k : Pkt) : Dev := (d.takeFrame k).sendOn k

/-- A packet with flow status 2 to 8 (Table 7.7, last row). -/
def Dev.withoutFlow (d : Dev) (k : Pkt) (status : Nat) : Dev :=
  let k := { k with status := status, handle := noFlow }
  let d := d.noflow k
  if d.is (QRY.INS_CFG.NOFLOW_PROG k.slice (keyType k)) then d.toQueue k else d.onward k

/-- FACE_LOOKUP on one frame. -/
def faceLookupEff (k : Pkt) (d : Dev) : Dev :=
  let s := k.slice
  let t := keyType k
  let ip := t % 4 == 1 || t % 4 == 2
  let (key, dir) := if ip then flowKey (d.is (QRY.INS_CFG.SYM s t)) k else (l2Key k, false)
  let k := { k with fkey := key, dir := dir, h1 := d.hash1 key, h2 := d.hash2 key, counted := false }
  if !(d.is (QRY.CTL.EN s) && d.is QRY.GCFG.EN && ip && Nat.blt (t / 4) 3 && !actSKIP k.act) then d.withoutFlow k 2
  else
    let (m, d) := (d.cntQry s 0).faceFind s k.h1 k.h2 key
    match m with
    | some l =>
      let d := d.cntQry s 1
      match d.goneStatus s l.handle with
      | some st => d.withoutFlow k st
      | none =>
        let k := { k with status := 0, handle := l.handle }
        let d := d.updLine s l.handle (fun l => { l with hitAt := d.tick })
        if k.bad then (d.updLine s l.handle (addDelta d.tick 0 1 0 none)).onward { k with status := 9 }
        else
          let fast := fastOnly (nthD l.words 0 0) k.dir
          if (d.holder s l.handle).isSome then d.toQueue { k with recheck := true }
          else if fast then (d.addOrd k).putFrame { k with stage := .flowUpd }
          else d.toQueue { k with recheck := false }
    | none =>
      let d := d.cntQry s 2
      if k.bad then
        (d.issue { txn0 with kind := .late, slice := s, half := k.h1 / 2 ^ 31, h1 := k.h1, h2 := k.h2, fkey := key }).onward
          { k with status := 9, handle := noFlow }
      else
        let k := { k with status := 0, handle := noFlow, recheck := true }
        let (i, d) := d.missFor k
        d.toQueue { k with miss := some i }

/-- FACE_LOOKUP of the next frame of pass port `p`; `ups`: errors in the Face words it reads. -/
def execFaceLookup (p : Nat) (ups : List (Nat × Nat)) (s : State) : Out :=
  act s (fun d => match d.frameAt p 5 with
      | some k => k.stage == .forwarded && d.blockOn k.slice 9
      | none => false)
    (fun d => match d.frameAt p 5 with
      | some k => faceLookupEff k (d.upset ups)
      | none => d)

/-- The first waiting miss of slice `s` that can be sent. -/
def Dev.missToSend (d : Dev) (s : Nat) : Option Miss :=
  if d.txnRoom s then d.qry.misses.find? (fun m => !m.sent && m.slice == s && d.waysOk s (m.h1 % 16384) (missWays m)) else none

/-- FACE_MISS_RESUME of slice `sl`: the first miss in order that has its ways and a transaction slot issues its LOOKUP (R155, R162). -/
def execFaceMissResume (sl : Nat) (s : State) : Out :=
  act s (fun d => d.blockOn (sl % 8) 9 && (d.missToSend (sl % 8)).isSome) (fun d => match d.missToSend (sl % 8) with
    | some m => d.sendMiss m
    | none => d)

-- FLOW_UPDATE (R159, R258).

/-- The one's-complement update of a checksum at `o` for a word that changes from `m` to `m'` (R258). -/
def csPatch (b : List Byte) (o m m' : Nat) : List Byte :=
  writeB b o (natBE 2 (65535 - csAdd (csAdd (65535 - beAt b o 2) (65535 - m)) m'))

/-- Writes `new` over `b` at `o`, word by word, patching the checksums at `cs` for each word that changes. -/
def rewriteAt (b : List Byte) (o : Nat) (cs : List Nat) : Nat → List Byte → List Byte
  | 0, _ => b
  | n + 1, new =>
    let m := beAt b o 2
    let m' := beAt new 0 2
    let b := if m = m' then b else writeB (cs.foldl (fun b c => csPatch b c m m') b) o (natBE 2 m')
    rewriteAt b (o + 2) cs n (new.drop 2)

/-- The cached rewrite of a record on a frame; the frame itself where R159 skips it. Ports are rewritten for TCP and UDP only (log entry 32). -/
def fastRewrite (k : Pkt) (ws : List Nat) : List Byte :=
  let b := k.body
  let v6 := keyType k % 4 == 2
  let l3 := byteAt k.key 6
  let l4 := byteAt k.key 7
  let proto := byteAt k.key 52
  let side := b2n (rSIDE (nthD ws 0 0))
  let ports := proto == 6 || proto == 17
  let w4 := nthD ws 4 0
  let (ao, an) := if v6 then (l3 + 8 + 16 * side, natBE 8 (nthD ws 12 0) ++ natBE 8 (nthD ws 13 0)) else (l3 + 12 + 4 * side, natBE 4 (w4 % 2 ^ 32))
  let po := l4 + 2 * side
  let c4 := l4 + (if proto = 6 then 16 else 6)
  let ends := [ao + an.length] ++ (if v6 then [] else [l3 + 12]) ++ (if ports then [po + 2, c4 + 2] else [])
  if l3 = 0 || (ports && l4 == 0) || ends.any (fun e => Nat.blt (min b.length 256) e) then b
  else
    let noSum := proto == 17 && beAt b c4 2 == 0
    let cs4 := if ports && !noSum then [c4] else []
    let b := rewriteAt b ao ((if v6 then [] else [l3 + 10]) ++ cs4) (an.length / 2) an
    let b := if ports then rewriteAt b po cs4 1 (natBE 2 (bits w4 47 32)) else b
    if proto == 17 && !noSum && beAt b c4 2 == 0 then writeB b c4 (natBE 2 0xFFFF) else b

/-- The packet is routed to next hop `nh` in place of its forwarding result (R159, R128, R130). -/
def Dev.fastRoute (d : Dev) (k : Pkt) (nh : Nat) : Dev :=
  let s := k.slice
  let x := d.setOf s k.epoch
  let go := fun (d : Dev) (w : Nat) =>
    if bit w 57 && Nat.ble k.hops 1 then
      let d := d.cntFwd s 13
      if d.is (FWD.CTL.TTL_PUNT s) then d.punt k 0x03 else d.discard k
    else
      let k := k.routeTo w (d.get (FWD.RMAC.MAC s x))
      d.passOn { k with d3 := d3To k.d3 k.dest }
  match d.nextHop s nh with
  | (some w, d) => go d w
  | (none, d) =>
    let d := d.cntFwd s 5
    match d.get (FWD.MISS.ACT s x) with
    | 1 => d.punt k 0x02
    | 2 => match d.nextHop s (d.get (FWD.MISS.NH s x)) with
      | (some w, d) => go d w
      | (none, d) => d.discard k
    | _ => d.discard k

/-- The fast actions (R159). A line that an error has taken meanwhile is fetched again, and the packet waits for it (R173). -/
def flowUpdateEff (k : Pkt) (d : Dev) : Dev :=
  let s := k.slice
  match d.lineRead s k.handle with
  | (none, d) =>
    let k := { k with handle := noFlow, recheck := true }
    let (i, d) := d.missFor k
    d.toQueue { k with miss := some i }
  | (some l, d) =>
    let d := (d.takeFrame k).cntQry s 8
    let ws := l.words
    let w0 := nthD ws 0 0
    let d := d.updLine s k.handle (addDelta d.tick 1 0 k.len (some d.qryNow))
    let d := if d.is (QRY.FACE_CFG.WB_EN s) then d
      else match d.lineOf s k.handle with
        | some l => d.writeBack l 0
        | none => d
    let k := { k with counted := true }
    if rVERDICT w0 = 1 || rVERDICT w0 == 3 then (d.cntQry s 9).discard k
    else
      let k := if rRWEN w0 && !k.dir then { k with body := fastRewrite k ws } else k
      if rVERDICT w0 = 2 then d.punt k 0x01
      else if rNHEN w0 then d.fastRoute k (bits (nthD ws 4 0) 61 48)
      else d.sendOn k

/-- The frame before the flow-update unit of slice `s`. -/
def Dev.flowFrame (d : Dev) (s : Nat) : Option Pkt := d.pipe.find? (fun k => k.slice == s && k.stage == .flowUpd)

/-- FLOW_UPDATE of slice `sl`; `ups`: errors in the next-hop words it reads. -/
def execFlowUpdate (sl : Nat) (ups : List (Nat × Nat)) (s : State) : Out :=
  act s (fun d => d.blockOn (sl % 8) 9 && (d.flowFrame (sl % 8)).isSome) (fun d => match d.flowFrame (sl % 8) with
    | some k => flowUpdateEff k (d.upset ups)
    | none => d)

-- Bench transactions.

/-- A Bench command on transaction `id` of some kinds, which its unit may carry out now. -/
def benchCmd (id : Nat) (kinds : List TxnKind) (ups : List (Nat × Nat)) (f : Txn → Dev → Dev) (s : State) : Out :=
  act s (fun d => match d.txnReady id with
      | some t => kinds.contains t.kind
      | none => false)
    (fun d => match d.txnReady id with
      | some t => f t (d.upset ups)
      | none => d)

/-- BENCH_LOOKUP of transaction `id`, a LOOKUP or a QINS; `ups`: errors in the words it reads. -/
def execBenchLookup (id : Nat) (ups : List (Nat × Nat)) (s : State) : Out :=
  benchCmd id [.lookup, .qins] ups (fun t d =>
    if t.kind = .qins then
      let (st, x, d) := d.benchQins t
      d.answer id st x []
    else
      let (st, x, ws, d) := d.benchLookup t
      d.answer id st x ws) s

/-- Whether a packet that waits for miss `m` is of the miss's own flow, not of another with equal hashes (R160). -/
def missMine (m : Miss) (k : Pkt) : Bool := k.miss == some m.id && k.fkey == m.fkey

/-- Contexts that wait for what miss `m` brings, in the order of their dispatch. -/
def Dev.missCtxs (d : Dev) (m : Miss) : List Nat :=
  let l := d.eng.ctxs.filter (fun e => (e.2.wait == .fill && e.2.pkt.any (missMine m)) || (e.2.wait == .bench && e.1 + 1 == m.ctx))
  let ins := fun (l : List (Nat × Nat)) (e : Nat × Nat) => l.takeWhile (fun x => Nat.ble x.2 e.2) ++ [e] ++ l.dropWhile (fun x => Nat.ble x.2 e.2)
  (l.foldl (fun r e => ins r (e.1, e.2.seq)) []).map (fun e => e.1)

/-- The packets in the dispatch queues of slice `s`. -/
def Dev.sliceQueued (d : Dev) (s : Nat) : List Pkt := (List.range 8).flatMap (fun j => sget d.eng.dq (8 * s + j) [])

/-- Changes the packets of a slice's dispatch queues that meet `q`. -/
def Dev.missQueued (d : Dev) (s : Nat) (q : Pkt → Bool) (f : Pkt → Pkt) : Dev :=
  (List.range 8).foldl (fun (d : Dev) j =>
    let c := 8 * s + j
    { d with eng.dq := sset d.eng.dq c ((sget d.eng.dq c []).map (fun k => if q k then f k else k)) [] }) d

/-- Packets of another flow with equal hashes that shared the wait of miss `m`, which is over: a miss of their own begins (R160). -/
def Dev.missRest (d : Dev) (m : Miss) : Dev :=
  let mine := fun (k : Pkt) => k.miss == some m.id
  match (d.eng.ctxs.filterMap (fun e => e.2.pkt) ++ d.sliceQueued m.slice).find? mine with
  | none => d
  | some k =>
    let (i, d) := d.missFor k
    let rejoin := fun (k : Pkt) => { k with miss := some i }
    let fix := fun (e : Nat × Ctx) => (e.1, { e.2 with pkt := e.2.pkt.map (fun k => if mine k then rejoin k else k) })
    { d.missQueued m.slice mine rejoin with eng.ctxs := d.eng.ctxs.map fix }

/-- A miss ends without a record: its FILLING ways are free again, its packets get the status (R157, R158, R187). -/
def Dev.missFails (d : Dev) (m : Miss) (status : Nat) : Dev :=
  let d := { d with qry.lines := d.qry.lines.filter (fun (l : Line) => !(l.st == LineSt.filling && l.missId == m.id))
                    qry.misses := d.qry.misses.filter (fun x => x.id != m.id) }
  let cs := d.missCtxs m
  let n := ((d.sliceQueued m.slice).filter (missMine m)).length + (if m.byHandle.isSome then 0 else cs.length)
  let d := forN n d (fun _ d => d.cntQry m.slice 7)
  let d := d.missQueued m.slice (missMine m) (fun k => { k with status := status, handle := noFlow, miss := none, recheck := true })
  (cs.foldl (fun (d : Dev) c => d.noRecord c status) d).missRest m

/-- A miss ends with a record: the line is filled, and the waiting packets take it in the order in which they joined (R155, R160). -/
def Dev.missFills (d : Dev) (m : Miss) (t : Txn) (ws : List Nat) : Dev :=
  let s := m.slice
  let fill := fun (l : Line) => l.st == LineSt.filling && l.missId == m.id
  let key := recKey t.rWords
  let line : Line := { slice := s, set := m.h1 % 16384, ways := ws, st := .clean, handle := t.rHandle, h1 := d.hash1 key, h2 := d.hash2 key, words := t.rWords,
                       ver := rVER (nthD t.rWords 0 0), dPkts := 0, dBad := 0, dOct := 0, dLast := none, dirtyAt := 0, hitAt := d.tick, missId := 0 }
  let rest := d.qry.lines.filter (fun l => !fill l)
  let here := (d.lineOf s t.rHandle).isSome
  let d := { d with qry.lines := if here then rest else rest ++ [line], qry.misses := d.qry.misses.filter (fun x => x.id != m.id) }
  let mark := fun (k : Pkt) => { k with status := if t.rStatus = 1 && k.id == m.pktId then 1 else 0, handle := t.rHandle, miss := none }
  let cs := d.missCtxs m
  let d := d.missQueued s (missMine m) mark
  let d := cs.foldl (fun (d : Dev) c =>
    let x := d.ctx c
    (d.setCtx c { x with pkt := if x.cur.isSome then x.pkt else x.pkt.map mark }).waitRecord c t.rHandle) d
  (d.serve s t.rHandle 64).missRest m

/-- Ways of the line that a response fills: its reservation, one more for a full record, or only the first for a compact one (R155). -/
def Dev.fillWays (d : Dev) (m : Miss) (t : Txn) : Option (List Nat × Dev) :=
  match d.qry.lines.find? (fun l => l.st == .filling && l.missId == m.id) with
  | none => some ([], d)
  | some l =>
    if !rFULL (nthD t.rWords 0 0) then some (l.ways.take 1, d)
    else if l.ways.length = 2 || (d.lineOf m.slice t.rHandle).isSome then some (l.ways, d)
    else if d.waysOk m.slice l.set 1 then
      let (w, d) := d.takeWays m.slice l.set 1 16
      some (l.ways ++ w, d)
    else none

/-- The answered LOOKUP with this identity, and its miss. -/
def Dev.response (d : Dev) (id : Nat) : Option (Txn × Miss) :=
  match d.qry.txns.find? (fun t => t.id == id && t.kind == .lookup && t.done) with
  | none => none
  | some t => (d.qry.misses.find? (fun m => m.id == t.missId)).map (fun m => (t, m))

/-- Whether the result of a transaction that timed out is still to arrive. -/
def Dev.isLate (d : Dev) (id : Nat) (k : TxnKind) : Bool := d.qry.lates.any (fun t => t.id == id && t.kind == k)

/-- A result that arrives after its timer has fired is discarded and counted in the lower block: the link where it crossed, else the stack of the record (R410, log entry 100). -/
def Dev.lateDiscard (d : Dev) (id : Nat) : Dev :=
  match d.qry.lates.find? (fun t => t.id == id) with
  | none => d
  | some t =>
    let d := { d with qry.lates := d.qry.lates.filter (fun u => u.id != id) }
    if t.slice / 4 != t.half then d.cntD2d 3
    else d.cntHbc (locStack (hbmLoc (if t.handle = noFlow then d.bucketA t.half (d.bucketOf t.h1) else d.unitA t.half (flowUnit t.handle)))) 6

/-- LOOKUP_RESPONSE of transaction `id`: a record that needs a second way waits for it. -/
def execLookupResponse (id : Nat) (s : State) : Out :=
  act s (fun d => match d.response id with
      | some (t, m) => Nat.blt 1 t.rStatus || (d.fillWays m t).isSome
      | none => d.isLate id .lookup)
    (fun d => match d.response id with
      | none => d.lateDiscard id
      | some (t, m) =>
        if Nat.blt 1 t.rStatus then (d.endTxn id).missFails m t.rStatus
        else match d.fillWays m t with
          | some (ws, d) => (d.endTxn id).missFills m t ws
          | none => d)

/-- A transaction that merges deltas: WRITE_BACK, or RELEASE, which also clears the slice's CACHED bit. -/
def benchMergeEff (t : Txn) (d : Dev) : Dev :=
  match d.readRec t.half (flowUnit t.handle) with
  | (true, d) => (d.endTxn t.id).flushDone t.slice
  | (false, d) =>
    let d := if d.handleState t.handle != 0 then d
      else
        let d := d.putRec t.handle (mergeTxn t (d.recOf t.handle))
        if t.kind = .release then d.setCached t.handle t.slice false else d
    (d.endTxn t.id).flushDone t.slice

/-- BENCH_WRITE_BACK of transaction `id`. -/
def execBenchWriteBack (id : Nat) (ups : List (Nat × Nat)) (s : State) : Out := benchCmd id [.writeBack] ups benchMergeEff s

/-- BENCH_RELEASE of transaction `id`. -/
def execBenchRelease (id : Nat) (ups : List (Nat × Nat)) (s : State) : Out := benchCmd id [.release] ups benchMergeEff s

/-- BENCH_COMMIT of transaction `id`. -/
def execBenchCommit (id : Nat) (ups : List (Nat × Nat)) (s : State) : Out := benchCmd id [.commit] ups benchCommitEff s

/-- The Face takes the current record of a refused COMMIT; the committing thread's copy too, if it still holds the record (R167). -/
def commitResponseEff (t : Txn) (d : Dev) : Dev :=
  let ws := t.rWords
  let full := rFULL (nthD ws 0 0)
  let v := rVER (nthD ws 0 0)
  let d := (d.endTxn t.id).updLine t.slice t.handle (fun l => { l with words := mergeState full l.words ws, ver := v })
  if t.ctx = 0 then d
  else
    let x := d.ctx (t.ctx - 1)
    let fix := fun (r : Held) => if r.handle = t.handle then { r with words := mergeState full r.words ws, ver := v, changed := false } else r
    d.setCtx (t.ctx - 1) { x with conflict := true, held := x.held.map fix }

/-- COMMIT_RESPONSE of a refused COMMIT. -/
def execCommitResponse (id : Nat) (s : State) : Out :=
  act s (fun d => d.qry.txns.any (fun t => t.id == id && t.kind == .commit && t.done) || d.isLate id .commit)
    (fun d => match d.qry.txns.find? (fun t => t.id == id && t.kind == .commit && t.done) with
      | some t => commitResponseEff t d
      | none => d.lateDiscard id)

/-- A LATE transaction: by handle or by key (R157, R171). -/
def benchLateEff (t : Txn) (d : Dev) : Dev :=
  let bump := fun (d : Dev) (x : Nat) => d.putRec x (mergeDelta (d.recOf x) 0 1 0 none)
  let d := d.endTxn t.id
  if t.handle != noFlow then
    match d.readRec t.half (flowUnit t.handle) with
    | (true, d) => d.cntQry t.slice 14
    | (false, d) => if d.handleState t.handle = 0 then bump d t.handle else d.cntQry t.slice 14
  else
    let d := (d.readBuckets t.half (d.buckets t.h1 t.h2)).2
    match d.findTag t.half t.h1 t.h2 t.fkey with
    | none => d
    | some a =>
      let u := tINDEX (d.rd64 a)
      match d.readRec t.half u with
      | (true, d) => d.cntQry t.slice 14
      | (false, d) =>
        let x := d.flowOf t.half u
        if d.handleState x = 0 then bump d x else d.cntQry t.slice 14

/-- BENCH_LATE of transaction `id`. -/
def execBenchLate (id : Nat) (ups : List (Nat × Nat)) (s : State) : Out := benchCmd id [.late] ups benchLateEff s

/-- Whether an answered LOOKUP for this record is still on its way to the slice. -/
def Dev.fillOnWay (d : Dev) (s handle : Nat) : Bool :=
  d.qry.txns.any (fun t => t.slice == s && t.kind == .lookup && t.done && t.rHandle == handle)

/-- PUSH number `k`, if no earlier one for its slice and record stands before it. -/
def Dev.pushAt (d : Dev) (k : Nat) : Option (Push × List Push) :=
  match d.qry.pushes.drop k with
  | [] => none
  | p :: ps =>
    if (d.qry.pushes.take k).any (fun x => x.slice == p.slice && x.handle == p.handle) || d.fillOnWay p.slice p.handle then none
    else some (p, d.qry.pushes.take k ++ ps)

/-- PUSH_RECEIVE: the line takes the STATE fields and VER; a thread's copy stays (R168). -/
def execPushReceive (k : Nat) (s : State) : Out :=
  act s (fun d => (d.pushAt k).isSome) (fun d => match d.pushAt k with
    | some (p, r) => ({ d with qry.pushes := r }).updLine p.slice p.handle (fun l =>
        { l with words := mergeState (rFULL (nthD l.words 0 0)) l.words p.words, ver := rVER (nthD p.words 0 0) })
    | none => d)

/-- A transaction is given up; a result that is on its way to the slice will arrive late. -/
def Dev.abandon (d : Dev) (t : Txn) : Dev :=
  { (d.endTxn t.id).flushDone t.slice with qry.lates := if t.done then d.qry.lates ++ [t] else d.qry.lates }

/-- What the slice does about a transaction that it gives up (R163). -/
def benchLostEff (t : Txn) (d : Dev) : Dev :=
  let s := t.slice
  let d := d.abandon t
  match t.kind with
  | .lookup => match d.qry.misses.find? (fun m => m.id == t.missId) with
    | some m => d.missFails m 8
    | none => d
  | .writeBack | .commit | .release =>
    let d := match d.lineOf s t.handle with
      | some l => d.dropLine l
      | none => d
    if t.ctx != 0 && (d.ctx (t.ctx - 1)).wait == .fence then d.fault (t.ctx - 1) 0x02 t.handle else d
  | _ => d

/-- A transaction without response in time (R163). -/
def benchTimeoutEff (t : Txn) (d : Dev) : Dev :=
  benchLostEff t ((d.cntQry t.slice 15).raise (EV_QRY_BENCH_TIMEOUT t.slice))

/-- Whether a transaction crosses to the other half while the die-to-die link is down (Table 17.3). -/
def Dev.cutOff (d : Dev) (t : Txn) : Bool := t.slice / 4 != t.half && (d.laneGroup 0).isNone

/-- Whether a transaction has timed out: its own time, suspended for at most three times as long (R163, R407). -/
def Dev.timedOut (d : Dev) (t : Txn) : Bool :=
  let m := d.get QRY.GCFG.BENCH_TMO * 1000
  let el := d.tick - t.t0
  Nat.ble m (el - t.susp) || Nat.ble (4 * m) el

/-- A lower layer declares failure: the timer fires (R407); where it reaches its limit in the same cycle, only the lower layer counts (R410). -/
def benchFailEff (t : Txn) (d : Dev) : Dev := if d.timedOut t then benchLostEff t d else benchTimeoutEff t d

/-- BENCH_TIMEOUT of transaction `id`: BENCH_TMO has passed without a response, or the link that it needs is down; a result in the same cycle would be used (R410). -/
def execBenchTimeout (id : Nat) (s : State) : Out :=
  act s (fun d => d.qry.txns.any (fun t => t.id == id && (d.timedOut t || d.cutOff t)))
    (fun d => match d.qry.txns.find? (fun t => t.id == id) with
      | some t => if d.cutOff t then benchFailEff t d else benchTimeoutEff t d
      | none => d)

-- Flush and idle release (R168).

/-- FACE_FLUSH of the line of slice `sl` that holds record `x`. -/
def execFaceFlush (sl x : Nat) (s : State) : Out :=
  let sl := sl % 8
  act s (fun d => match d.lineOf sl x with
      | some l => l.st == .dirty && d.is (QRY.FACE_CFG.WB_EN sl) && Nat.ble (d.get (QRY.FACE_CFG.FLUSH_MS sl) * 1000000) (d.tick - l.dirtyAt)
      | none => false)
    (fun d => match d.lineOf sl x with
      | some l => d.writeBack l 0
      | none => d)

/-- Whether a packet waits for a line's record. -/
def Dev.awaited (d : Dev) (l : Line) : Bool :=
  (d.recWaiter l.slice l.handle).isSome ||
    (List.range 8).any (fun j => (sget d.eng.dq (8 * l.slice + j) []).any (fun k => k.handle == l.handle))

/-- FACE_IDLE_RELEASE of the line of slice `sl` that holds record `x`. -/
def execFaceIdleRelease (sl x : Nat) (s : State) : Out :=
  let sl := sl % 8
  act s (fun d => match d.lineOf sl x with
      | some l => !d.pinned l && !d.awaited l && Nat.ble (d.get (QRY.FACE_CFG.IDLE_MS sl) * 1000000) (d.tick - l.hitAt)
      | none => false)
    (fun d => match d.lineOf sl x with
      | some l => d.releaseLine l
      | none => d)

/-- A write of QRY.FACE_CFG (Table 7.12). -/
def Dev.faceCfgWrite (d : Dev) (s v : Nat) : Dev :=
  let d := if bits v 31 16 = 0 then d else d.set (QRY.FACE_CFG.IDLE_MS s) (bits v 31 16)
  let d := if bits v 15 8 = 0 then d else d.set (QRY.FACE_CFG.FLUSH_MS s) (bits v 15 8)
  let d := d.set (QRY.FACE_CFG.WB_EN s) (v % 2)
  if bit v 1 then
    let d := (d.qry.lines.filter (fun l => l.slice == s && l.st == .dirty)).foldl (fun (d : Dev) l => d.writeBack l 0) d
    (({ d with qry.flushAll := sset d.qry.flushAll s d.nextId 0 }).set (QRY.FACE_CFG.FLUSH_BUSY s) 1).flushDone s
  else d

/-- FACE_FLUSH_ALL: a write of QRY.FACE_CFG with FLUSH_ALL = 1. -/
def execFaceFlushAll (sl v : Nat) (s : State) : Out := hostAct s (QRY.FACE_CFG.WB_EN (sl % 8)) (fun d => d.faceCfgWrite (sl % 8) (setBit v 1))

-- Aging and deletion (R169, R170).

/-- The sweep's visit of a tag: it reads words 0 and 3 and may issue a compare-and-delete. -/
def ageVisitEff (h a : Nat) (d : Dev) : Dev :=
  let u := tINDEX (d.rd64 a)
  match d.readRec h u with
  | (true, d) => d
  | (false, d) =>
    let w0 := d.rd64 (d.unitA h u)
    let w3 := d.rd64 (d.unitA h u + 24)
    if rCACHED w0 = 0 && Nat.ble (d.get (QRY.AGE_MAX.MAX (rAGE w0))) (subMod 32 d.qryNow (bits w3 31 0)) then
      let (i, d) := d.newId
      { d with qry.dels := d.qry.dels ++ [{ id := i, handle := d.flowOf h u, reason := 0, cmp := some (w0, w3) }] }
    else d

/-- QRY_AGE_VISIT of tag `j` of bucket `b` of half `h`. -/
def execQryAgeVisit (h b j : Nat) (ups : List (Nat × Nat)) (s : State) : Out :=
  let h := h % 2
  act s (fun d => d.halfOn h && !d.anyWaits (d.tagA h b j :: d.recRows (d.flowOf h (tINDEX (d.rd64 (d.tagA h b j))))) && d.is QRY.AGE_CFG.AGE_EN && d.is QRY.GCFG.READY && Nat.blt b (2 ^ (d.unitsLog - 2)) && Nat.blt j 8 &&
      tVALID (d.rd64 (d.tagA h b j)) && !tSTATIC (d.rd64 (d.tagA h b j)) && !tDYING (d.rd64 (d.tagA h b j)))
    (fun d => ageVisitEff h (d.tagA h b j) (d.upset ups))

/-- BENCH_DELETE: `id` names a deletion that has not started, or a thread's delete transaction (reason 2). -/
def execBenchDelete (id : Nat) (ups : List (Nat × Nat)) (s : State) : Out :=
  act s (fun d => d.qry.dels.any (fun y => y.id == id && !y.started && d.halfOn (flowHalf y.handle) && !d.anyWaits (d.recRows y.handle)) || (match d.txnReady id with
      | some t => t.kind == .delete
      | none => false))
    (fun d =>
      let d := d.upset ups
      match d.qry.dels.find? (fun y => y.id == id && !y.started) with
      | some y => benchDeleteEff y d
      | none => match d.txnReady id with
        | some t => benchDeleteEff { id := id, handle := t.handle, reason := 2 } (d.endTxn id)
        | none => d)

/-- The deletion that waits for slice `sl`, if its line can go: it is not pinned, and no fill is on its way (R170). -/
def Dev.delFor (d : Dev) (id sl : Nat) : Option Del :=
  match d.qry.dels.find? (fun y => y.id == id && y.started && y.waits.contains sl) with
  | none => none
  | some y =>
    let free := match d.lineOf sl y.handle with
      | some l => !d.pinned l
      | none => true
    if free && (d.holder sl y.handle).isNone && !d.fillOnWay sl y.handle then some y else none

/-- DELETE_INVALIDATE: slice `sl` drops its line with its deltas and answers. -/
def execDeleteInvalidate (id sl : Nat) (s : State) : Out :=
  act s (fun d => (d.delFor id sl).isSome) (fun d => match d.delFor id sl with
    | none => d
    | some y =>
      let d := match d.lineOf sl y.handle with
        | some l => d.dropLine l
        | none => d
      { d with qry.dels := mapFirst (fun z => z.id == id) (fun z => { z with waits := z.waits.filter (fun i => i != sl) }) d.qry.dels })

/-- DELETE_FINISH: every slice has answered. -/
def execDeleteFinish (id : Nat) (s : State) : Out :=
  act s (fun d => d.qry.dels.any (fun y => y.id == id && y.started && y.waits.isEmpty))
    (fun d => match d.qry.dels.find? (fun y => y.id == id && y.started && y.waits.isEmpty) with
      | some y => deleteFinishEff y d
      | none => d)

-- Host commands (R174).

/-- The key of a command: CMD_KEY with KTYPE as its byte 0. -/
def Dev.qryCmdKey (d : Dev) : List Byte :=
  let kt := d.get QRY.CMD_CTL.KTYPE
  let b := wordBytes ((List.range 6).map (fun i => d.get (QRY.CMD_KEY.W i)))
  (natBE 1 kt ++ b.drop 1).take (if kt % 4 = 2 then 44 else 20)

/-- CMD_DATA. -/
def Dev.qryCmdData (d : Dev) : List Nat := (List.range 16).map (fun w => d.get (QRY.CMD_DATA.W w))

/-- The Bench holds flows: the Quarry is enabled and initialised (R175). -/
def Dev.benchUp (d : Dev) : Bool := d.is QRY.GCFG.EN && d.is QRY.GCFG.READY

/-- The record that a command addresses by its key: a status of Table 7.14, and the handle. Without an initialised Bench no key is found (log entry 101). -/
def Dev.cmdByKey (d : Dev) : Nat × Nat × Dev :=
  let key := d.qryCmdKey
  let h1 := d.hash1 key
  let h2 := d.hash2 key
  let h := h1 / 2 ^ 31
  let d := (d.readBuckets h (d.buckets h1 h2)).2
  if !d.benchUp then (1, noFlow, d)
  else match d.findTag h h1 h2 key with
  | none => (1, noFlow, d)
  | some a =>
    let u := tINDEX (d.rd64 a)
    match d.readRec h u with
    | (true, d) => (6, noFlow, d)
    | (false, d) =>
      let x := d.flowOf h u
      match d.handleState x with
      | 0 => (0, x, d)
      | 7 => (6, noFlow, d)
      | _ => (4, noFlow, d)

/-- The record of a DELETE, READ or WRITE: by handle, else by key. -/
def Dev.cmdTarget (d : Dev) : Nat × Nat × Dev :=
  let x := d.get QRY.CMD_HANDLE.HANDLE
  if x = noFlow then d.cmdByKey
  else if !d.benchUp then (4, noFlow, d)
  else match d.readRec (flowHalf x) (flowUnit x) with
    | (true, d) => (6, noFlow, d)
    | (false, d) => match d.handleState x with
      | 0 => (0, x, d)
      | 7 => (6, noFlow, d)
      | _ => (4, noFlow, d)

def qryLookup (d : Dev) : HostCmd × Dev :=
  let (st, x, d) := d.cmdByKey
  ({ status := st, addr := if st = 0 then x + 1 else 0 }, d)

def qryInsert (d : Dev) : HostCmd × Dev :=
  let key := d.qryCmdKey
  let full := d.is QRY.CMD_CTL.FULL || byteAt key 0 % 4 == 2
  let h1 := d.hash1 key
  let h2 := d.hash2 key
  let h := h1 / 2 ^ 31
  let data := d.qryCmdData
  let d := (d.readBuckets h (d.buckets h1 h2)).2
  if !d.benchUp then ({ status := 3 }, d)
  else match d.findTag h h1 h2 key with
  | some _ => ({ status := 2 }, d)
  | none =>
    let base := newRec full 0 (nthD data 3 0 / 2 ^ 32) d.qryNow key
    match d.place h h1 h2 full (d.is QRY.CMD_CTL.STATIC) (mergeState full base data) with
    | (some _, d) => ({ status := 0 }, d)
    | (none, d) => ({ status := 3 }, d.raise (EV_QRY_TABLE_FULL h))

def qryDelete (d : Dev) : HostCmd × Dev :=
  match d.cmdTarget with
  | (0, x, d) =>
    let (i, d) := d.newId
    ({ status := 0, waiting := true }, { d with qry.dels := d.qry.dels ++ [{ id := i, handle := x, reason := 1, byHost := true }] })
  | (st, _, d) => ({ status := st }, d)

/-- READ asks each caching slice for a write-back of that record's line (R174). -/
def qryRead (d : Dev) : HostCmd × Dev :=
  match d.cmdTarget with
  | (0, x, d) =>
    let d := (List.range 8).foldl (fun (d : Dev) s =>
      match d.lineOf s x with
      | some l => if bit (rCACHED (nthD (d.recOf x) 0 0)) s then d.writeBack l 0 else d
      | none => d) d
    ({ status := 0, addr := x + 1, at_ := d.nextId, waiting := true }, d)
  | (st, _, d) => ({ status := st }, d)

/-- The mark of a PUSH that a WRITE of the host sends: no context has it. -/
def hostPush : Nat := 2 ^ 20

/-- WRITE commits CMD_DATA's STATE fields with the current VER and pushes them; it is done when every slice has them (R174). -/
def qryWrite (d : Dev) : HostCmd × Dev :=
  match d.cmdTarget with
  | (0, x, d) => ({ status := 0, waiting := true }, d.applyCommit x 8 hostPush d.qryCmdData id)
  | (st, _, d) => ({ status := st }, d)

/-- A write of QRY.CMD_CTL: ignored while DONE is 0; GO runs the operation. -/
def Dev.qryCmdWrite (d : Dev) (v : Nat) : Dev :=
  if !d.is QRY.CMD_CTL.DONE then d
  else
    let d := (((d.set QRY.CMD_CTL.STATIC (bits v 16 16)).set QRY.CMD_CTL.KTYPE (bits v 15 12)).set QRY.CMD_CTL.FULL (bits v 4 4)).set QRY.CMD_CTL.OP (bits v 3 1)
    if !bit v 0 then d
    else
      let d := d.set QRY.CMD_CTL.DONE 0
      let (c, d) := match bits v 3 1 with
        | 0 => qryLookup d
        | 1 => qryInsert d
        | 2 => qryDelete d
        | 3 => qryRead d
        | 4 => qryWrite d
        | _ => ({ status := 5 }, d)
      { d with qry.qryCmd := some c }

/-- QRY_LOOKUP: a write of QRY.CMD_CTL with GO and OP 0; so the four below with their OP. -/
def execQryLookup (v : Nat) (ups : List (Nat × Nat)) (s : State) : Out := hostAct s QRY.CMD_CTL.GO (fun d => (d.upset ups).qryCmdWrite (setBit (setBits v 3 1 0) 0))

/-- QRY_INSERT. -/
def execQryInsert (v : Nat) (ups : List (Nat × Nat)) (s : State) : Out := hostAct s QRY.CMD_CTL.GO (fun d => (d.upset ups).qryCmdWrite (setBit (setBits v 3 1 1) 0))

/-- QRY_DELETE. -/
def execQryDelete (v : Nat) (ups : List (Nat × Nat)) (s : State) : Out := hostAct s QRY.CMD_CTL.GO (fun d => (d.upset ups).qryCmdWrite (setBit (setBits v 3 1 2) 0))

/-- QRY_READ. -/
def execQryRead (v : Nat) (ups : List (Nat × Nat)) (s : State) : Out := hostAct s QRY.CMD_CTL.GO (fun d => (d.upset ups).qryCmdWrite (setBit (setBits v 3 1 3) 0))

/-- QRY_WRITE. -/
def execQryWrite (v : Nat) (ups : List (Nat × Nat)) (s : State) : Out := hostAct s QRY.CMD_CTL.GO (fun d => (d.upset ups).qryCmdWrite (setBit (setBits v 3 1 4) 0))

/-- The words of HBM that the command in progress reads: the buckets of its key, or its record and the buckets of the record's. -/
def Dev.cmdRows (d : Dev) : List Nat :=
  let x := d.get QRY.CMD_HANDLE.HANDLE
  let key := d.qryCmdKey
  if x = noFlow then (d.buckets (d.hash1 key) (d.hash2 key)).map (d.bucketA (d.hash1 key / 2 ^ 31)) else d.recRows x

/-- Whether a command has nothing more to wait for: the repair of a row that it reads, its deletion, the PUSHes of the record it wrote, or the deltas of the record it reads that were under way when it asked for them. -/
def Dev.qryCmdReady (d : Dev) (c : HostCmd) : Bool :=
  (d.flt.repairs.isEmpty || !d.anyWaits d.cmdRows) && (!c.waiting || (if c.addr = 0 then d.qry.dels.all (fun y => !y.byHost) && d.qry.pushes.all (fun p => p.ctx != hostPush)
                 else d.qry.txns.all (fun t => !(t.brings (c.addr - 1) && Nat.blt t.id c.at_))))

/-- A Quarry command publishes its outcome. -/
def qryCmdDoneEff (c : HostCmd) (d : Dev) : Dev :=
  let d := if c.addr = 0 then d
    else if c.waiting then
      let ws := d.recOf (c.addr - 1)
      (List.range 16).foldl (fun (d : Dev) w => d.set (QRY.CMD_DATA.W w) (nthD ws w 0)) d
    else d.set QRY.CMD_HANDLE.HANDLE (c.addr - 1)
  { (d.set QRY.CMD_CTL.STATUS c.status).set QRY.CMD_CTL.DONE 1 with qry.qryCmd := none }

/-- QRY_CMD_DONE. -/
def execQryCmdDone (s : State) : Out :=
  act s (fun d => match d.qry.qryCmd with
      | some c => d.qryCmdReady c
      | none => false)
    (fun d => match d.qry.qryCmd with
      | some c => qryCmdDoneEff c d
      | none => d)

-- Enabling (R175).

/-- The index of half `h` is empty. -/
def Dev.benchClear (d : Dev) (h : Nat) : Dev :=
  { d.clearRange (d.benchA h) (2 ^ (d.unitsLog + 4)) with bad := clearBad d.bad (d.benchA h) (2 ^ (d.unitsLog + 4)) }

/-- EN = 0 discards all flow state. Packets that wait for a record get status TIMEOUT (log entry 33). -/
def Dev.qryOff (d : Dev) : Dev :=
  let ms := d.qry.misses
  let d := (d.benchClear 0).benchClear 1
  let d := { d with qry.lines := [], qry.txns := [], qry.lates := [], qry.pushes := [], qry.dels := [], qry.freeRings := [], qry.qryInit := false,
                    eng.ctxs := d.eng.ctxs.map (fun (e : Nat × Ctx) => (e.1, { e.2 with held := none })) }
  let d := ms.foldl (fun (d : Dev) m => d.missFails m 8) d
  (d.set QRY.GCFG.EN 0).set QRY.GCFG.READY 0

/-- A write of QRY.GCFG (Table 7.11). -/
def Dev.gcfgWrite (d : Dev) (v : Nat) : Dev :=
  let d := if bits v 31 16 = 0 then d else d.set QRY.GCFG.BENCH_TMO (bits v 31 16)
  if d.is QRY.GCFG.EN then (if bit v 5 then d else d.qryOff)
  else
    let u := bits v 4 0
    let d := if Nat.ble 16 u && Nat.ble u 27 && Nat.ble (d.get QRY.SPLIT.SPLIT) (2 ^ u) then d.set QRY.GCFG.UNITS_LOG2 u else d
    if bit v 5 then { d.set QRY.GCFG.EN 1 with qry.qryInit := true } else d

/-- QRY_GCFG_WRITE. -/
def execQryGcfgWrite (v : Nat) (s : State) : Out := hostAct s QRY.GCFG.UNITS_LOG2 (fun d => d.gcfgWrite (v % 2 ^ 32))

/-- The Bench of one half is clear: its index is empty, its rings hold every unit of their zone but 0x7FF_FFFF and the pair that it belongs to (R150). -/
def Dev.benchFill (d : Dev) (h : Nat) : Dev :=
  let n := 2 ^ d.unitsLog
  let sp := d.get QRY.SPLIT.SPLIT
  let d := d.benchClear h
  let compact := min sp (if n = 2 ^ 27 then n - 1 else n)
  let pairs := (n - sp) / 2 - (if n = 2 ^ 27 && sp != n then 1 else 0)
  { d with qry.freeRings := sset (sset d.qry.freeRings (2 * h) (if compact = 0 then [] else [(0, compact)]) []) (2 * h + 1)
                              (if pairs = 0 then [] else [(sp / 2, pairs)]) [] }

/-- BENCH_INIT_DONE. -/
def execBenchInitDone (s : State) : Out :=
  act s (fun d => d.qry.qryInit) (fun d => { (((d.benchFill 0).benchFill 1).set QRY.GCFG.READY 1) with qry.qryInit := false })

end Sys2Proof.Machine
end

