-- ==== Sys2Proof/Machine/Ranges.lean ====
section
/-! DEFINITION. The ranges of HBM that the device manages (spec/19 R434, R435, Table 19.10; spec/07 R148; spec/18 R423), as offsets of a half. -/

namespace Sys2Proof.Machine

open Sys2Proof

/-- Whether bytes [a, a + n) meet [b, b + m). -/
def meets (a n b m : Nat) : Bool := n != 0 && m != 0 && Nat.blt a (b + m) && Nat.blt b (a + n)

/-- Index, record store and free rings of the Bench (R148). -/
def Dev.benchRange (d : Dev) (h : Nat) : Nat × Nat :=
  let u := d.unitsLog
  (d.get (QRY.BENCH_BASE.GIB h) * 0x40000000, 2 ^ (u + 4) + 2 ^ (u + 6) + 2 ^ (u + 2))

/-- The log, ring and list ranges of half `h` in its tables region. -/
def Dev.ringRanges (d : Dev) (h : Nat) : List (Nat × Nat) :=
  let t := 0xA00000000
  (List.range 4).map (fun i => (t + d.get (FWD.LOG_BASE.OFFSET (4 * h + i)), 16 * d.get (FWD.LOG_SIZE.SIZE (4 * h + i)))) ++
    [(t + d.get (QRY.ENDLOG_BASE.OFFSET h), 256 * d.get (QRY.ENDLOG_SIZE.SIZE h)),
     (t + d.get (BPM.QUAR_BASE.OFFSET h), 8 * d.get (BPM.QUAR_SIZE.SIZE h))] ++
    (List.range 8).map (fun k => (t + d.get (BPM.RING_BASE.OFFSET h k),
      if d.is (BPM.POOL_CFG.EN h k) then 4 * d.get (BPM.POOL_CFG.COUNT h k) else 0))

/-- The accumulator area of half `h`, once the accumulators are initialised (log entry 40). -/
def Dev.accRange (d : Dev) (h : Nat) : Nat × Nat :=
  (0xA00000000 + d.get (CTR.ACC_BASE.OFFSET h), if d.is CTR.CTL.INIT_DONE || d.is CTR.CTL.EN then 0x400000 else 0)

/-- Whether `n` bytes at offset `o` of half `h` reach an accumulator area (R425). -/
def Dev.inAcc (d : Dev) (h o n : Nat) : Bool := meets o n (d.accRange h).1 (d.accRange h).2

/-- Whether a store of a thread to `n` bytes at offset `o` of half `h` is refused (R229). -/
def Dev.protectedHbm (d : Dev) (h o n : Nat) : Bool :=
  let f := d.flowBytes h
  meets o n (d.benchRange h).1 (d.benchRange h).2 ||
    meets o n f (0xA00000000 - f) || meets o n 0xA00000000 0xC000000 ||
    (d.ringRanges h).any (fun r => meets o n r.1 r.2) || d.inAcc h o n

end Sys2Proof.Machine
end

