-- ==== Sys2Proof/Machine/Engine.lean ====
section
/-! DEFINITION. The engines' commands that are not microwords: dispatch, release order, children, faults and their handlers, time limits, channel reclaim, the fog signal and the cluster registers (spec/08 R185 to R208). -/

namespace Sys2Proof.Machine

open Sys2Proof

-- Free contexts (R186, R190).

/-- FREE contexts that dispatch and fork may take in engine `e` of the device, by their number within the engine. -/
def Dev.freeIn (d : Dev) (e : Nat) : List Nat :=
  if d.engIssues e && sget d.eng.redir e 0 == 0 && !d.engineQuiet e then
    (List.range 8).filter (fun k => (d.ctx (8 * e + k)).st == .free && !(k == 0 && d.keeperEn e))
  else []

/-- The engines of some list with the most free contexts. -/
def Dev.mostFree (d : Dev) (es : List Nat) : List Nat :=
  let best := es.foldl (fun m e => max m (d.freeIn e).length) 0
  es.filter (fun e => (d.freeIn e).length == best)

/-- The engine that the three steps of R186 choose in cluster `c`. -/
def Dev.chooseEngine (d : Dev) (c : Nat) : Option Nat :=
  let es := ((List.range 8).map (fun i => 8 * c + i)).filter (fun e => !(d.freeIn e).isEmpty)
  let awake := es.filter (fun e => sget d.pwr.dozing e 0 == 0)
  let es := d.mostFree (if awake.isEmpty then es else awake)
  let p := sget d.eng.rr c 0
  ((List.range 8).map (fun i => 8 * c + (p + i) % 8)).find? (fun e => es.contains e)

/-- The lowest free context of an engine, as a context of the device. -/
def Dev.lowestFree (d : Dev) (e : Nat) : Nat := 8 * e + (d.freeIn e).headD 0

/-- The rotating pointer moves on after a grant. -/
def Dev.rrNext (d : Dev) (c : Nat) : Dev := { d with eng.rr := sset d.eng.rr c ((sget d.eng.rr c 0 + 1) % 8) 0 }

/-- Number of FREE contexts of a cluster. -/
def Dev.freeCount (d : Dev) (c : Nat) : Nat := ((List.range 64).filter (fun t => (d.ctx (64 * c + t)).st == .free)).length

-- DISPATCH (R186, R187).

/-- Whether cluster `c` can dispatch the head of its queue. -/
def Dev.canDispatch (d : Dev) (c : Nat) : Bool :=
  d.is (ENG.CL_CTL.EN c) && !d.is (DBG.CTL.HOLD_DISPATCH c) && d.clusterOn c && !d.granted 0 c 0 &&
    Nat.blt (d.get (ENG.CL_CTL.FORK_RESERVE c)) (d.freeCount c) && (d.chooseEngine c).isSome

/-- Whether an engine of cluster `c` is under fog redirection. -/
def Dev.redirected (d : Dev) (c : Nat) : Bool := (List.range 8).any (fun i => sget d.eng.redir (8 * c + i) 0 != 0)

def dispatchEff (c : Nat) (d : Dev) : Dev :=
  match sget d.eng.dq c [], d.chooseEngine c with
  | k :: ks, some e =>
    let n := d.lowestFree e
    let d := if d.redirected c then d.cntEng c 9 else d
    (({ d with eng.dq := sset d.eng.dq c ks [] }.rrNext c).cntEng c 0).startPacket n k
  | _, _ => d

/-- Whether a grant finds cluster `c` parked, or on its way there, and wakes it (R387, R388). -/
def Dev.wakesCluster (d : Dev) (c : Nat) : Bool :=
  d.is (ENG.CL_CTL.EN c) && !d.is (DBG.CTL.HOLD_DISPATCH c) && d.sliceOn (c / 8) && (d.domOff 0 c || d.entering 0 c)

/-- DISPATCH in cluster `c`; a parked cluster is woken and the packet waits. -/
def execDispatch (c : Nat) (s : State) : Out :=
  let c := c % 64
  act s (fun d => !(sget d.eng.dq c []).isEmpty && (d.canDispatch c || d.wakesCluster c))
    (fun d => if d.wakesCluster c then d.wake 0 c else dispatchEff c d)

-- FLOW_ORDER_RELEASE (R188).

/-- The released packet with identity `id` that waits for its turn in cluster `c`, if its turn has come. -/
def Dev.ordReady (d : Dev) (c id : Nat) : Option Pkt :=
  match (d.ordOf c).find? (fun o => o.id == id) with
  | some o => if heldBack o.h1 o.h2 id (d.ordOf c) then none else o.pkt
  | none => none

/-- FLOW_ORDER_RELEASE of packet `id` in cluster `c`. -/
def execFlowOrderRelease (c id : Nat) (s : State) : Out :=
  let c := c % 64
  act s (fun d => d.clusterOn c && (d.ordReady c id).isSome) (fun d => match d.ordReady c id with
    | some k => (d.setOrd c ((d.ordOf c).filter (fun o => o.id != id))).toAdm (admOf k)
    | none => d)

-- FORK_CHILD_READY (R192).

/-- FORK_CHILD_READY of context `n`. -/
def execForkChildReady (n : Nat) (s : State) : Out :=
  act s (fun d => (d.ctx n).forking) (fun d => ((d.setCtx n { d.ctx n with forking := false }).goReady n).settle n)

-- Faults (R201, R203, R204).

/-- Writes a fault record to ENG.FAULT_HOST of engine `e`. -/
def Dev.hostFault (d : Dev) (e r : Nat) : Dev :=
  let c := e / 8
  let e := e % 8
  let d := if d.is (ENG.FAULT_HOST.VALID c e) then d.set (ENG.FAULT_HOST.OVERRUN c e) 1 else d
  (((((((d.set (ENG.FAULT_HOST.CODE c e) (bits r 7 0)).set (ENG.FAULT_HOST.CONTEXT c e) (bits r 10 8)).set (ENG.FAULT_HOST.PC c e) (bits r 23 11)).set
    (ENG.FAULT_HOST.PKT c e) (bits r 24 24)).set (ENG.FAULT_HOST.REC c e) (bits r 25 25)).set (ENG.FAULT_HOST.EPOCH c e) (bits r 28 26)).set
    (ENG.FAULT_HOST.DETAIL c e) (bits r 63 32)).set (ENG.FAULT_HOST.VALID c e) 1

def Dev.kqOf (d : Dev) (e : Nat) : List Nat := sget d.eng.kq e []
def Dev.setKq (d : Dev) (e : Nat) (l : List Nat) : Dev := { d with eng.kq := sset d.eng.kq e l [] }

/-- Takes the queued record of context `n` out of its keeper's queue. -/
def Dev.kqDrop (d : Dev) (n : Nat) : Dev := d.setKq (n / 8) ((d.kqOf (n / 8)).filter (fun r => bits r 10 8 != n % 8))

def faultDeliveryEff (n : Nat) (d : Dev) : Dev :=
  let e := n / 8
  let x := d.ctx n
  if d.isKeeper n then ((d.setCtx n { x with delivered := true }).hostFault e x.fault).raise (EV_ENG_KEEPER_FAULT (n / 512))
  else
    let k := d.ctx (8 * e)
    if d.keeperEn e && k.st != .faulted && k.st != .free && Nat.blt (d.kqOf e).length 16 then
      let d := (d.setCtx n { x with delivered := true, faultAge := 0 }).setKq e (d.kqOf e ++ [x.fault])
      if k.st = .keeperIdle then d.wordDone (8 * e) (k.pc + 1) else d
    else (((d.dropThread n).hostFault e x.fault).cntEng (n / 64) 5).raise (EV_ENG_FAULT (n / 512))

/-- FAULT_DELIVERY of the fault of context `n`. -/
def execFaultDelivery (n : Nat) (s : State) : Out :=
  act s (fun d => (d.ctx n).st == .faulted && !(d.ctx n).delivered) (faultDeliveryEff n)

/-- KEEPER_TIMEOUT for context `n`. -/
def execKeeperTimeout (n : Nat) (s : State) : Out :=
  act s (fun d => (d.ctx n).st == .faulted && (d.ctx n).delivered && !d.isKeeper n &&
      Nat.ble (d.get (ENG.TMO_CFG.KEEPER_TMO (n / 64)) * 1000) (d.ctx n).faultAge)
    (fun d => (((d.kqDrop n).dropThread n).cntEng (n / 64) 6).raise (EV_ENG_KEEPER_SLOW (n / 512)))

/-- The timer value of a thread that has timed out: the timer has stopped for good (R199, log entry 42). -/
def timerSpent : Nat := 2 ^ 63

/-- THREAD_TIMEOUT of context `n`. -/
def execThreadTimeout (n : Nat) (s : State) : Out :=
  act s (fun d =>
      let x := d.ctx n
      (x.st == .ready || x.st == .waitMem || x.st == .waitEvent) && !d.isKeeper n &&
        Nat.ble (d.get (ENG.TMO_CFG.THREAD_TMO (n / 64)) * 1000) x.timer && Nat.blt x.timer timerSpent)
    (fun d => (d.setCtx n { d.ctx n with timer := timerSpent }).fault n 0x01 0)

/-- CHANNEL_RECLAIM of channel `i` of cluster `c` (R198). -/
def execChannelReclaim (c i : Nat) (s : State) : Out :=
  let c := c % 64
  let i := i % 16
  act s (fun d => d.clusterOn c && (d.chan c i).st == 1 && Nat.ble (d.get (ENG.TMO_CFG.HOLD_US c) * 1000) (d.tick - (d.chan c i).openAt))
    (fun d =>
      let n := (d.chan c i).holder
      (((d.setCtx n { d.ctx n with chan := none, chanLost := true }).chanEmpty c i).cntEng c 10).raise (EV_ENG_CHANNEL_RECLAIM (c / 8)))

-- The fog signal (R205, R206).

/-- The fog condition of engine `e`; the keeper's own operations do not count (log entry 133). -/
def Dev.fogCond (d : Dev) (e : Nat) : Bool :=
  let ts := (List.range 8).filter (fun k => !d.isKeeper (8 * e + k))
  ts.all (fun k => (d.ctx (8 * e + k)).st == .waitEvent) &&
    d.qry.txns.all (fun t => t.ctx == 0 || (t.ctx - 1) / 8 != e || d.isKeeper (t.ctx - 1)) && (sget d.eng.dq (e / 8) []).isEmpty

/-- Quiet time of an engine whose fog signal has sounded in this spell. -/
def fogSounded : Nat := 2 ^ 63

def fogSignalEff (e : Nat) (d : Dev) : Dev :=
  let d := d.cntEng (e / 8) 8
  let d := { d with eng.fogQuiet := sset d.eng.fogQuiet e fogSounded 0, pwr.dozing := sset d.pwr.dozing e 0 0 }
  let k := d.ctx (8 * e)
  if d.keeperEn e && k.st == .keeperIdle then (d.setCtx (8 * e) (k.setCond 0x10 true)).wordDone (8 * e) (k.pc + 1)
  else { d.raise (EV_FOG_SIGNAL (e / 64)) with eng.redir := sset d.eng.redir e 1 0 }

/-- FOG_SIGNAL of engine `e`. -/
def execFogSignal (e : Nat) (s : State) : Out :=
  act s (fun d => d.is (ENG.CL_CTL.FOG_EN (e / 8)) && d.is (ENG.CL_CTL.EN (e / 8)) && d.fogCond e &&
      Nat.ble (d.get (ENG.TMO_CFG.FOG_WINDOW (e / 8)) * 100) (sget d.eng.fogQuiet e 0) && Nat.blt (sget d.eng.fogQuiet e 0) fogSounded)
    (fogSignalEff e)

-- Cluster registers and controls.

/-- The keeper of engine `i` of a cluster starts at ENG.KEEPER_ENTRY_e (R212): a new thread, which no child of an earlier one has as its parent (R192). -/
def Dev.startKeeper (d : Dev) (c i : Nat) : Dev :=
  let n := 8 * (8 * c + i)
  let (j, d) := d.newId
  (d.cleanRegs n).setCtx n { txe := (d.ctx n).txe, st := .ready, pc := d.get (ENG.KEEPER_ENTRY.ADDR c i), seq := j }

/-- Starts the keepers of a cluster (R200). -/
def Dev.startKeepers (d : Dev) (c : Nat) : Dev :=
  (List.range 8).foldl (fun (d : Dev) i => if d.keeperEn (8 * c + i) then d.startKeeper c i else d) d

/-- EN = 0: the dispatch queue is discarded, DROP is applied to every thread (Table 8.8). -/
def Dev.stopCluster (d : Dev) (c : Nat) : Dev :=
  let d := (sget d.eng.dq c []).foldl (fun (d : Dev) k => d.discard k) { d with eng.dq := sset d.eng.dq c [] [] }
  let d := (List.range 64).foldl (fun (d : Dev) t => if (d.ctx (64 * c + t)).st = .free then d else d.dropThread (64 * c + t)) d
  (List.range 8).foldl (fun (d : Dev) i => d.setKq (8 * c + i) []) d

/-- A write of ENG.CL_CTL. -/
def Dev.clCtlWrite (d : Dev) (c v : Nat) : Dev :=
  let was := d.is (ENG.CL_CTL.EN c)
  let d := if was then d else d.set (ENG.CL_CTL.KEEPER_EN c) (bits v 23 16)
  let d := if Nat.ble (bits v 9 4) 32 then d.set (ENG.CL_CTL.FORK_RESERVE c) (bits v 9 4) else d
  let d := (d.set (ENG.CL_CTL.CTR_ALLOW c) (bits v 3 3)).set (ENG.CL_CTL.FOG_EN c) (bits v 2 2)
  let d := d.set (ENG.CL_CTL.EN c) (bits v 0 0)
  if was && !bit v 0 then d.stopCluster c
  else if !was && bit v 0 then d.startKeepers c
  else d

/-- CL_CTL_WRITE of cluster `c`. -/
def execClCtlWrite (c v : Nat) (s : State) : Out :=
  hostAct s (ENG.CL_CTL.EN (c % 64)) (fun d => d.clCtlWrite (c % 64) (v % 2 ^ 32))

/-- A write of ENG.SHARE_CFG, ignored whole where it is inconsistent (R208). -/
def Dev.shareCfgWrite (d : Dev) (c v : Nat) : Dev :=
  let bmin := bits v 5 1
  let bmax := bits v 13 8
  let tmin := bits v 18 16
  let tmax := bits v 29 24
  if Nat.blt bmax bmin || Nat.blt tmax tmin || Nat.blt 16 bmin || Nat.blt 4 tmin || bmax == 0 || tmax == 0 then d
  else ((((d.set (ENG.SHARE_CFG.TX_MAX c) tmax).set (ENG.SHARE_CFG.TX_MIN c) tmin).set (ENG.SHARE_CFG.BUF_MAX c) bmax).set
    (ENG.SHARE_CFG.BUF_MIN c) bmin).set (ENG.SHARE_CFG.MODE c) (bits v 0 0)

/-- SHARE_CFG_WRITE of cluster `c`. -/
def execShareCfgWrite (c v : Nat) (s : State) : Out :=
  hostAct s (ENG.SHARE_CFG.MODE (c % 64)) (fun d => d.shareCfgWrite (c % 64) (v % 2 ^ 32))

/-- Key of cluster register `i` in the table of bad words. -/
def cregKey (c i : Nat) : Nat := bar0W ((ENG.CREG.W c i).key / 8)

/-- Whether the WAITC that context `x` waits in is met by value `v` of register `i`. -/
def waitcMet (x : Ctx) (i v : Nat) : Bool :=
  x.wait == .creg && (match x.cur with
    | some u => uOFF u.word % 64 == i && waitcTest (uSIZE u.word) v (uIMM u.word)
    | none => false)

/-- A cluster register takes a value; threads whose WAITC it meets go on (R194). -/
def Dev.cregSet (d : Dev) (c i v : Nat) : Dev :=
  let d := (d.set (ENG.CREG.W c i) v).mend (cregKey c i)
  (List.range 64).foldl (fun (d : Dev) t =>
    let n := 64 * c + t
    if waitcMet (d.ctx n) i (v % 2 ^ 64) then d.wordDone n ((d.ctx n).pc + 1) else d) d

/-- CREG_WRITE: a host write of cluster register `i` of cluster `c`. -/
def execCregWrite (c i v : Nat) (s : State) : Out :=
  hostAct s (ENG.CREG.W (c % 64) (i % 64)) (fun d => d.cregSet (c % 64) (i % 64) v)

/-- ENG.CTX_STAT of context `n` (Table 8.11); a retired engine's contexts read FREE (R402). -/
def Dev.ctxStat (d : Dev) (n : Nat) : Nat :=
  let x := d.ctx n
  let st := match x.st with
    | .free => 0 | .ready => 1 | .waitMem => 2 | .waitEvent => 3 | .faulted => 4 | .halted => 5 | .keeperIdle => 6
  if d.isRetired 6 (n / 8) then 0
  else st + b2n x.pkt.isSome * 2 ^ 3 + b2n x.held.isSome * 2 ^ 4 + b2n x.chan.isSome * 2 ^ 5 + x.epoch.getD 0 % 8 * 2 ^ 6 +
    x.pc % 8192 * 2 ^ 9 + min x.children 15 * 2 ^ 22

-- A lasting ENGINE fault (R402).

/-- Retires engine `e`: DROP of its workers, its keeper stops, its records are dropped. -/
def Dev.retireEngine (d : Dev) (e : Nat) : Dev :=
  let all := (List.range 8).filter (fun k => (d.ctx (8 * e + k)).st != .free)
  let workers := all.filter (fun k => !(k == 0 && bit (d.get (ENG.CL_CTL.KEEPER_EN (e / 8))) (e % 8)))
  let d := (all.foldl (fun (d : Dev) k => d.dropThread (8 * e + k)) d).cntEngBy (e / 8) 5 workers.length
  (d.setKq e []).raise (EV_ENG_RETIRED (e / 64))

/-- A parity error counts against engine `e` (R399, R402). -/
def Dev.engErr (d : Dev) (e : Nat) : Dev :=
  match d.errCount 6 e 0 with
  | (d, true) => d.retireEngine e
  | (d, false) => d

/-- The thread reads a word with an error: it faults with POISON_READ (Table 17.1). -/
def Dev.poisonRead (d : Dev) (n detail : Nat) : Dev := (d.fault n 0x08 detail).engErr (n / 8)

end Sys2Proof.Machine
end

