-- ==== Sys2Proof/Machine/Fetch.lean ====
section
/-! DEFINITION. Fetching a microword, its parity check and the machine check; completing waiting operations; the FENCE field (spec/09 R210 to R216, R222, R231, R232). -/

namespace Sys2Proof.Machine

open Sys2Proof

-- Issue (R181).

/-- The READY context that engine `e` issues next, from slot `p` on. -/
def Dev.issueFrom (d : Dev) (e x p : Nat) : Option Nat :=
  ((List.range 32).map (fun j => d.slot e x ((p + j) % 32))).find? (fun s => bit s 3 && (d.ctx (8 * e + s % 8)).st == .ready) |>.map (fun s => 8 * e + s % 8)

/-- The bank that context `n` runs from: the set bound to its epoch, for a thread without one the active set (R210, log entry 45). -/
def Dev.bankOf (d : Dev) (n : Nat) : Nat := d.setOf (8 + n / 64) (if d.isKeeper n then none else (d.ctx n).epoch)

/-- Whether an engine can issue: no context of it is in the middle of a microword. -/
def Dev.canIssue (d : Dev) (e : Nat) : Bool :=
  d.clusterOn (e / 8) && d.engIssues e && (List.range 8).all (fun k => (d.ctx (8 * e + k)).st != .ready || (d.ctx (8 * e + k)).cur.isNone) &&
    (d.issueFrom e (d.clSet (e / 8)) (sget d.eng.slotPtr e 0)).isSome

-- Machine checks (R231, R232).

/-- LOCATION of a control-store word (Table 17.2, class 5). -/
def ucodeLoc (c x a : Nat) : Nat := c + x * 2 ^ 6 + a * 2 ^ 7

/-- A control-store word is lasting: it is marked (R232). -/
def Dev.ucodeLasting (d : Dev) (c x a : Nat) : Dev :=
  let l := ucodeLoc c x a
  ({ d with flt.lastingWords := if d.flt.lastingWords.contains l then d.flt.lastingWords else d.flt.lastingWords ++ [l] }.set
    (ENG.MCHK.LASTING c) 1).raise (EV_ENG_MCHECK_LASTING (c / 8))

/-- An error counts against a control-store word; a lasting one is marked (R232, R401). -/
def Dev.ucodeErr (d : Dev) (c x a : Nat) : Dev :=
  match d.errCount 5 (ucodeLoc c x a) 2 with
  | (d, false) => d
  | (d, true) => d.ucodeLasting c x a

/-- The groups of a control-store word whose parity failed in both fetches of it since it was written (R231). -/
def Dev.ucodeMark (d : Dev) (c x a : Nat) : Nat := d.badAt (ucodeA c x a)

/-- A second fetch has failed too: the word is marked until it is rewritten, and the fetch is logged. -/
def Dev.machineCheck (d : Dev) (c x a groups : Nat) : Dev :=
  let d := { d with bad := sset d.bad (ucodeA c x a) groups 0 }
  let d := if d.is (ENG.MCHK.VALID c) then d.set (ENG.MCHK.OVERRUN c) 1 else d
  let d := (((d.set (ENG.MCHK.GROUPS c) groups).set (ENG.MCHK.SET c) x).set (ENG.MCHK.ADDR c) a).set (ENG.MCHK.VALID c) 1
  (d.raise (EV_ENG_MCHECK (c / 8))).ucodeErr c x a

-- Breakpoints (R215, R379).

/-- Whether a breakpoint of the cluster stops context `n` before word `w` of bank `x`. -/
def Dev.breaks (d : Dev) (n x w : Nat) : Bool :=
  let c := n / 64
  (d.is (DBG.CTL.BRK_EN c) && uBRK w) ||
    (List.range 4).any (fun k => d.is (DBG.BP.EN c k) && d.get (DBG.BP.SET c k) == x && d.get (DBG.BP.ADDR c k) == (d.ctx n).pc)

/-- A word that passed its checks begins. -/
def Dev.beginWord (d : Dev) (n w : Nat) : Dev :=
  d.setCtx n { d.ctx n with cur := some { word := w, fenceDone := uFENCE w == 0 } }

/-- Fetch by context `n` from bank `x`: `t1` and `t2` are the transient errors of the two fetches. -/
def fetchEff (n x t1 t2 : Nat) (d : Dev) : Dev :=
  let c := n / 64
  let a := (d.ctx n).pc
  let w := d.ucodeWord c x a
  let f1 := ucodeFails (Nat.xor w (t1 % 2 ^ 168))
  let f2 := ucodeFails (Nat.xor w (t2 % 2 ^ 168))
  let seen := if f1 = 0 then Nat.xor w (t1 % 2 ^ 168) else Nat.xor w (t2 % 2 ^ 168)
  let old := d.ucodeMark c x a
  if old != 0 || (f1 != 0 && f2 != 0) then (d.machineCheck c x a (if f1 != 0 && f2 != 0 then Nat.lor old f2 else old)).fault n 0x04 0
  else
    let d := if f1 = 0 then d else d.set (ENG.MCHK.REFETCHES c) (min 0xFFFF (d.get (ENG.MCHK.REFETCHES c) + 1))
    let v := seen % 2 ^ 160
    if d.breaks n x v && !(d.ctx n).skipBp then d.doHalt n (d.is (DBG.CTL.BP_RELEASE c)) true
    else if uIllegal v (d.isKeeper n) then d.fault n 0x07 0
    else d.beginWord n v

/-- MICROWORD_FETCH of engine `e`: `t1` and `t2` are errors of its two fetches alone, `up` bits of the stored word that have turned. -/
def execMicrowordFetch (e t1 t2 up : Nat) (s : State) : Out :=
  let e := e % 512
  act s (fun d => d.canIssue e) (fun d =>
    let p := sget d.eng.slotPtr e 0
    match d.issueFrom e (d.clSet (e / 8)) p with
    | none => d
    | some n =>
      let x := d.bankOf n
      let a := ucodeA (n / 64) x (d.ctx n).pc
      let d := { d with eng.slotPtr := sset d.eng.slotPtr e ((p + 1) % 32) 0,
                        mem := if up = 0 then d.mem else memSets d.mem a (natLE 21 (Nat.xor (d.rd 21 a) (up % 2 ^ 168))) }
      fetchEff n x t1 t2 d)

-- Parts of the microword in execution.

/-- The microword in execution by context `n`, if its thread is READY to go on with it. -/
def Dev.word (d : Dev) (n : Nat) : Option Cur :=
  let x := d.ctx n
  if x.st = .ready && d.clusterOn (n / 64) then x.cur else none

/-- A command that executes one part of a microword: `g` says that its turn has come. -/
def uopCmd (n : Nat) (g : Cur → Bool) (f : Cur → Dev → Dev) (s : State) : Out :=
  act s (fun d => match d.word n with
      | some u => g u
      | none => false)
    (fun d => match d.word n with
      | some u => f u d
      | none => d)

def Dev.setCur (d : Dev) (n : Nat) (f : Cur → Cur) : Dev := d.setCtx n { d.ctx n with cur := (d.ctx n).cur.map f }

-- Fences (R35, R36, R222).

/-- Record transactions that the thread issued and that have no answer yet. -/
def Dev.recPending (d : Dev) (n : Nat) : Bool :=
  d.qry.txns.any (fun t => t.ctx == n + 1 && (t.kind == .commit || t.kind == .writeBack || t.kind == .release || t.kind == .delete))

/-- Records whose deltas a fence of the thread covers: the one that it holds, and for kind all every other to which it has added (Table 2.4). -/
def Ctx.fenceRecs (x : Ctx) (all : Bool) : List Nat := (x.held.map (fun h => h.handle)).toList ++ (if all then x.wrote else [])

/-- Whether an earlier store of context `n` to HBM still waits for a retry of its command or for the repair of its row (R407). -/
def Dev.storesWait (d : Dev) (n : Nat) : Bool :=
  (d.ctx n).stored.any (fun a => d.rowWaits a || d.flt.hbmTry.any (fun e => e.2.on d.tick 2000 && e.2.loc / 8 == a / 8))

/-- Whether a fence of context `n` still waits: for its record transactions and their PUSHes, for deltas of its on their way to Bench, and, for kind all, for a lower layer that delays its stores to HBM, at most four times 2.5 µs (R36, R409). -/
def Dev.fenceWaits (d : Dev) (n : Nat) (all : Bool) (t0 : Nat) : Bool :=
  d.recPending n || d.qry.pushes.any (fun p => p.ctx == n + 1) ||
    ((d.ctx n).fenceRecs all).any (fun x => d.qry.txns.any (fun t => t.slice == n / 512 && t.brings x)) ||
    (all && d.storesWait n && Nat.blt d.tick (t0 + 10000))

/-- The fence is complete; one of kind flow or all shows whether a COMMIT was refused since the last. -/
def Dev.fenceEnd (d : Dev) (n : Nat) (rec : Bool) : Dev :=
  let x := d.ctx n
  let x := if rec then { x.setCond 0x0B x.conflict with conflict := false } else x
  let x := if x.cur.any (fun u => uFENCE u.word == 3) then { x with wrote := [], stored := [] } else x
  let d := d.setCtx n { x with st := .ready, wait := .none, cur := x.cur.map (fun u => { u with fenceDone := true }) }
  if x.kickReq then d.fault n 0x09 0 else d

/-- The deltas that the slice's line of record `x` has gathered go to Bench. -/
def Dev.fenceLine (d : Dev) (n x : Nat) : Dev :=
  match d.lineOf (n / 512) x with
  | some l => if l.st = LineSt.dirty then d.writeBack l (n + 1) else d
  | none => d

/-- A fence of kind flow or all: the held record's changes go to Bench (R167, R168), and the deltas of the other records that it covers; then the thread waits for them. -/
def fenceRecEff (n : Nat) (all : Bool) (d : Dev) : Dev :=
  let d := match (d.ctx n).held with
    | some h => if h.changed then (d.commit n h).setCtx n { (d.commit n h).ctx n with held := some { h with changed := false } } else d
    | none => d
  let d := ((d.ctx n).fenceRecs all).foldl (fun (d : Dev) x => d.fenceLine n x) d
  if d.fenceWaits n all d.tick then
    let x := d.ctx n
    d.setCtx n { x with st := .waitMem, wait := .fence, cur := x.cur.map (fun u => { u with fenceAt := d.tick }) }
  else d.fenceEnd n true

/-- FENCE_LOCAL in context `n`: a thread's scratch, cluster-register and channel writes are visible when they are made. -/
def execFenceLocal (n : Nat) (s : State) : Out :=
  uopCmd n (fun u => !u.fenceDone && uFENCE u.word == 1) (fun _ d => d.fenceEnd n false) s

/-- FENCE_FLOW in context `n`. -/
def execFenceFlow (n : Nat) (s : State) : Out :=
  uopCmd n (fun u => !u.fenceDone && uFENCE u.word == 2) (fun _ d => fenceRecEff n false d) s

/-- FENCE_ALL in context `n`: its stores and adds to HBM are visible when they are made, unless a lower layer delays them. -/
def execFenceAll (n : Nat) (s : State) : Out :=
  uopCmd n (fun u => !u.fenceDone && uFENCE u.word == 3) (fun _ d => fenceRecEff n true d) s

end Sys2Proof.Machine
end

