-- ==== Sys2Proof/Machine/Alu.lean ====
section
/-! DEFINITION. The ALU operations of a microword (spec/09 R216, R217, Table 9.3). -/

namespace Sys2Proof.Machine

open Sys2Proof

/-- Whether the ALU part of a word with operation `op` is next. -/
def aluTurn (op : Nat) (u : Cur) : Bool := u.fenceDone && !u.aluDone && uALU u.word == op

/-- The operands are read: a parity error in one faults the thread with POISON_READ; else the result is formed, flags are set where SET_FLAGS is 1, and the memory operation's address is known (R216, steps 2 and 3; R224 shows it in DETAIL of every ADDRESS fault). -/
def aluEff (n : Nat) (f : Word64 → Word64 → Nat → Option AluOut) (u : Cur) (d : Dev) : Dev :=
  let w := u.word
  if d.operandsBad n w then d.poisonRead n 0
  else
    let r := f (d.operand n w (uA w)) (d.operand n w (uB w)) (uSHAMT w)
    let addr := (d.operand n w (uADDR w)).toNat + uOFF w
    let x := d.ctx n
    let x := match r with
      | some r => if uFLAGS w then x.setFlags r else x
      | none => x
    d.setCtx n { x with cur := some { u with aluDone := true, alu := r.map (fun r => r.val), addr := addr % 2 ^ 64 } }

/-- An ALU command: operation `op` of context `n`, with errors in registers that it meets. -/
def aluCmd (op n : Nat) (ups : List (Nat × Nat)) (f : Word64 → Word64 → Nat → Option AluOut) (s : State) : Out :=
  uopCmd n (aluTurn op) (fun u d => aluEff n f u (d.upset (ups.map (fun e => (regKey n (e.1 % 40), e.2))))) s

/-- An operation whose C and V are 0. -/
def aluPlain (f : Word64 → Word64 → Nat → Word64) (a b : Word64) (sh : Nat) : Option AluOut := some { val := f a b sh }

/-- ALU_NOP. -/
def execAluNop (n : Nat) (ups : List (Nat × Nat)) (s : State) : Out := aluCmd 0 n ups (fun _ _ _ => none) s
/-- ADD. -/
def execAdd (n : Nat) (ups : List (Nat × Nat)) (s : State) : Out := aluCmd 1 n ups (fun a b _ => some (aluAdd a b)) s
/-- SUB. -/
def execSub (n : Nat) (ups : List (Nat × Nat)) (s : State) : Out := aluCmd 2 n ups (fun a b _ => some (aluSub a b)) s
/-- AND. -/
def execAnd (n : Nat) (ups : List (Nat × Nat)) (s : State) : Out := aluCmd 3 n ups (aluPlain (fun a b _ => a &&& b)) s
/-- OR. -/
def execOr (n : Nat) (ups : List (Nat × Nat)) (s : State) : Out := aluCmd 4 n ups (aluPlain (fun a b _ => a ||| b)) s
/-- XOR. -/
def execXor (n : Nat) (ups : List (Nat × Nat)) (s : State) : Out := aluCmd 5 n ups (aluPlain (fun a b _ => a ^^^ b)) s
/-- ANDN: A AND NOT B. -/
def execAndn (n : Nat) (ups : List (Nat × Nat)) (s : State) : Out := aluCmd 6 n ups (aluPlain (fun a b _ => a &&& ~~~b)) s
/-- MOV. -/
def execMov (n : Nat) (ups : List (Nat × Nat)) (s : State) : Out := aluCmd 7 n ups (aluPlain (fun a _ _ => a)) s
/-- SHL. -/
def execShl (n : Nat) (ups : List (Nat × Nat)) (s : State) : Out := aluCmd 8 n ups (aluPlain (fun a _ k => a <<< k)) s
/-- SHR, logical. -/
def execShr (n : Nat) (ups : List (Nat × Nat)) (s : State) : Out := aluCmd 9 n ups (aluPlain (fun a _ k => a >>> k)) s
/-- SAR, arithmetic. -/
def execSar (n : Nat) (ups : List (Nat × Nat)) (s : State) : Out := aluCmd 10 n ups (aluPlain (fun a _ k => a.sshiftRight k)) s
/-- SRAND: (A >> SHAMT) AND B. -/
def execSrand (n : Nat) (ups : List (Nat × Nat)) (s : State) : Out := aluCmd 11 n ups (aluPlain (fun a b k => (a >>> k) &&& b)) s
/-- SHLOR: (A << SHAMT) OR B. -/
def execShlor (n : Nat) (ups : List (Nat × Nat)) (s : State) : Out := aluCmd 12 n ups (aluPlain (fun a b k => (a <<< k) ||| b)) s
/-- MIN, unsigned. -/
def execMin (n : Nat) (ups : List (Nat × Nat)) (s : State) : Out := aluCmd 13 n ups (aluPlain (fun a b _ => if a.toNat ≤ b.toNat then a else b)) s
/-- MAX, unsigned. -/
def execMax (n : Nat) (ups : List (Nat × Nat)) (s : State) : Out := aluCmd 14 n ups (aluPlain (fun a b _ => if a.toNat ≤ b.toNat then b else a)) s
/-- MULLO. -/
def execMullo (n : Nat) (ups : List (Nat × Nat)) (s : State) : Out := aluCmd 15 n ups (aluPlain (fun a b _ => BitVec.ofNat 64 (aluMul a b))) s
/-- MULHI. -/
def execMulhi (n : Nat) (ups : List (Nat × Nat)) (s : State) : Out := aluCmd 16 n ups (aluPlain (fun a b _ => BitVec.ofNat 64 (aluMul a b / 2 ^ 32))) s
/-- CSADD. -/
def execCsadd (n : Nat) (ups : List (Nat × Nat)) (s : State) : Out := aluCmd 17 n ups (aluPlain (fun a b _ => aluCsadd a b)) s
/-- CRC32C. -/
def execCrc32c (n : Nat) (ups : List (Nat × Nat)) (s : State) : Out := aluCmd 18 n ups (aluPlain (fun a b _ => aluCrc a b)) s
/-- POPCNT. -/
def execPopcnt (n : Nat) (ups : List (Nat × Nat)) (s : State) : Out := aluCmd 19 n ups (aluPlain (fun a _ _ => BitVec.ofNat 64 (popN 64 a.toNat))) s
/-- FFS: the lowest set bit, 64 where there is none. -/
def execFfs (n : Nat) (ups : List (Nat × Nat)) (s : State) : Out := aluCmd 20 n ups (aluPlain (fun a _ _ => BitVec.ofNat 64 (lowestBit 64 a.toNat))) s

end Sys2Proof.Machine
end

