-- ==== Sys2Proof/Machine/Mem.lean ====
section
/-! DEFINITION. Memory operations of a microword: header and key windows, scratch, cluster registers, atomics, HBM, buffers and generated frames (spec/09 Table 9.6, R223 to R229; spec/11 R273 to R279; spec/13 R328). -/

namespace Sys2Proof.Machine

open Sys2Proof

/-- Whether the memory part of a word with operation `m` is next. -/
def memTurn (m : Nat) (u : Cur) : Bool := u.aluDone && !u.memDone && uMEM u.word == m

/-- A memory command: operation `m` of context `n`, with errors in words that it meets. -/
def memCmd (m n : Nat) (ups : List (Nat × Nat)) (f : Cur → Dev → Dev) (s : State) : Out :=
  uopCmd n (memTurn m) (fun u d => f u (d.upset ups)) s

/-- The memory part completes without waiting. -/
def Dev.memNow (d : Dev) (n : Nat) : Dev := d.setCur n (fun u => { u with memDone := true })

/-- The thread waits for its operation; OPERATION_COMPLETE ends the wait. -/
def Dev.memWait (d : Dev) (n : Nat) (w : Wait) : Dev := d.setCtx n { d.ctx n with st := .waitMem, wait := w }

/-- The thread waits for an event. -/
def Dev.evtWait (d : Dev) (n : Nat) (w : Wait) : Dev := d.setCtx n { d.ctx n with st := .waitEvent, wait := w }

/-- A loaded value for P[MEM_REG + i], written at the end of the word. -/
def Dev.load (d : Dev) (n i : Nat) (v : Word64) : Dev := d.setCur n (fun u => { u with loads := u.loads ++ [((uREG u.word + i) % 32, v)] })

/-- The data register P[MEM_REG + i], as it stood before the word. -/
def Dev.dataReg (d : Dev) (n i : Nat) (u : Cur) : Word64 := (d.ctx n).p (uREG u.word + i)

/-- The thread faults with ADDRESS; DETAIL holds the address (R224). -/
def Dev.addrFault (d : Dev) (n a : Nat) : Dev := d.fault n 0x03 (a % 2 ^ 32)

def Dev.setCondOf (d : Dev) (n i : Nat) (b : Bool) : Dev := d.setCtx n ((d.ctx n).setCond i b)

/-- MEM_NOP of context `n`. -/
def execMemNop (n : Nat) (s : State) : Out := memCmd 0 n [] (fun _ d => d.memNow n) s

-- Header and key windows (R224, R227).

/-- W: the bytes of the header window in use (R224). -/
def Pkt.winLen (k : Pkt) : Nat := min 256 (min 256 (k.len - 4) + k.hnet - 64)

/-- Bytes of a MEM_SIZE [1:0] access. -/
def sizeBytes (w : Nat) : Nat := 2 ^ (uSIZE w % 4)

/-- Header bytes [a, a + m), those at or beyond W as 0. -/
def Pkt.header (k : Pkt) (a m : Nat) : List Byte := sliceB (k.body.take k.winLen) a m

/-- LDH. -/
def execLdh (n : Nat) (s : State) : Out :=
  memCmd 1 n [] (fun u d => match (d.ctx n).pkt with
    | none => d.addrFault n u.addr
    | some k => (d.load n 0 (BitVec.ofNat 64 (beNat (k.header u.addr (sizeBytes u.word))))).memNow n) s

/-- Stores `m` header bytes at `a` if they lie below W. -/
def Dev.headerStore (d : Dev) (n a m v : Nat) : Option Dev :=
  match (d.ctx n).pkt with
  | none => none
  | some k => if Nat.ble (a + m) k.winLen then some (d.setCtx n { d.ctx n with pkt := some { k with body := writeB k.body a (natBE m v) } }) else none

/-- STH. -/
def execSth (n : Nat) (s : State) : Out :=
  memCmd 2 n [] (fun u d => match d.headerStore n u.addr (sizeBytes u.word) (d.dataReg n 0 u).toNat with
    | none => d.addrFault n u.addr
    | some d => d.memNow n) s

/-- LDK: the key window of a thread that never had a packet is open (log entry 46). -/
def execLdk (n : Nat) (s : State) : Out :=
  memCmd 3 n [] (fun u d =>
    let m := sizeBytes u.word
    if Nat.blt 128 (u.addr + m) then d.addrFault n u.addr
    else if (d.ctx n).key.isEmpty then
      let (v, d) := d.fresh
      (d.load n 0 (BitVec.ofNat 64 (v % 2 ^ (8 * m)))).memNow n
    else (d.load n 0 (BitVec.ofNat 64 (beAt (d.ctx n).key u.addr m))).memNow n) s

-- Scratch and cluster registers (R193).

/-- Device address of a scratch word of the cluster of context `n`: address [18:16] engine, [15:0] offset. -/
def scratchA (n a : Nat) : Nat := tblA (n / 512) (0x3000000 + 0x80000 * (n / 64 % 8) + a % 0x80000)

/-- Whether a scratch address is aligned and inside the cluster's scratch. -/
def scratchOk (a : Nat) : Bool := a % 8 == 0 && Nat.blt a 0x80000

/-- An upset that meets a scratch word or a cluster register counts against the reading engine or the engine whose scratch it is. -/
def Dev.scratchPoison (d : Dev) (n a : Nat) : Dev := (d.fault n 0x08 (a % 2 ^ 32)).engErr (8 * (n / 64) + a / 0x10000 % 8)

/-- LDS. -/
def execLds (n : Nat) (ups : List (Nat × Nat)) (s : State) : Out :=
  memCmd 4 n ups (fun u d =>
    if !scratchOk u.addr then d.addrFault n u.addr
    else if d.badAt (scratchA n u.addr) != 0 then d.scratchPoison n u.addr
    else (d.load n 0 (BitVec.ofNat 64 (d.rd64 (scratchA n u.addr)))).memWait n .op) s

/-- STS. -/
def execSts (n : Nat) (s : State) : Out :=
  memCmd 5 n [] (fun u d =>
    if !scratchOk u.addr then d.addrFault n u.addr
    else (d.wr64 (scratchA n u.addr) (d.dataReg n 0 u).toNat).memWait n .op) s

/-- LDC. -/
def execLdc (n : Nat) (ups : List (Nat × Nat)) (s : State) : Out :=
  memCmd 6 n ups (fun u d =>
    let i := u.addr % 64
    if d.badAt (cregKey (n / 64) i) != 0 then d.poisonRead n 0
    else (d.load n 0 (BitVec.ofNat 64 (d.get (ENG.CREG.W (n / 64) i)))).memWait n .op) s

/-- STC. -/
def execStc (n : Nat) (s : State) : Out :=
  memCmd 7 n [] (fun u d => (d.cregSet (n / 64) (u.addr % 64) (d.dataReg n 0 u).toNat).memWait n .op) s

/-- Whether an atomic of kind `k` is next. -/
def atomTurn (k : Nat) (u : Cur) : Bool := memTurn 8 u && uSIZE u.word % 4 == k

/-- An atomic operation: `f` gives, from the old value, the new one or none. -/
def atomEff (n : Nat) (f : Cur → Dev → Nat → Option Nat) (fin : Bool → Dev → Dev) (u : Cur) (d : Dev) : Dev :=
  let i := u.addr % 64
  if bit (uSIZE u.word) 2 then
    if d.badAt (cregKey (n / 64) i) != 0 then d.poisonRead n 0
    else
      let old := d.get (ENG.CREG.W (n / 64) i)
      let d := d.load n 0 (BitVec.ofNat 64 old)
      match f u d old with
      | some v => (fin true (d.cregSet (n / 64) i v)).memWait n .op
      | none => (fin false d).memWait n .op
  else if !scratchOk u.addr then d.addrFault n u.addr
  else if d.badAt (scratchA n u.addr) != 0 then d.scratchPoison n u.addr
  else
    let old := d.rd64 (scratchA n u.addr)
    let d := d.load n 0 (BitVec.ofNat 64 old)
    match f u d old with
    | some v => (fin true (d.wr64 (scratchA n u.addr) v)).memWait n .op
    | none => (fin false d).memWait n .op

/-- ATOM_ADD. -/
def execAtomAdd (n : Nat) (ups : List (Nat × Nat)) (s : State) : Out :=
  uopCmd n (atomTurn 0) (fun u d => atomEff n (fun u d old => some ((old + (d.dataReg n 0 u).toNat) % 2 ^ 64)) (fun _ d => d) u (d.upset ups)) s

/-- ATOM_SWAP. -/
def execAtomSwap (n : Nat) (ups : List (Nat × Nat)) (s : State) : Out :=
  uopCmd n (atomTurn 1) (fun u d => atomEff n (fun u d _ => some (d.dataReg n 0 u).toNat) (fun _ d => d) u (d.upset ups)) s

/-- ATOM_CAS: compares with P[MEM_REG] and stores P[MEM_REG + 1] (log entry 47). -/
def execAtomCas (n : Nat) (ups : List (Nat × Nat)) (s : State) : Out :=
  uopCmd n (atomTurn 2) (fun u d => atomEff n
    (fun u d old => if old = (d.dataReg n 0 u).toNat then some (d.dataReg n 1 u).toNat else none)
    (fun ok d => d.setCondOf n 0x0C (!ok)) u (d.upset ups)) s

-- HBM (R228, R229, R425).

/-- Half and byte offset that an HBM address reaches through ENG.HBM_WIN. -/
def Dev.hbmTarget (d : Dev) (n a : Nat) : Option (Nat × Nat) :=
  let c := n / 64
  let o := a % 2 ^ 36
  let t := d.get (ENG.HBM_WIN.BASE c) * 65536 + o
  if Nat.blt a (2 ^ 37) && a % 8 == 0 && Nat.blt o (d.get (ENG.HBM_WIN.SIZE c) * 65536) && Nat.blt t 0xC00000000 then some (a / 2 ^ 36, t) else none

/-- LDM. -/
def execLdm (n : Nat) (ups : List (Nat × Nat)) (s : State) : Out :=
  memCmd 9 n ups (fun u d => match d.hbmTarget n u.addr with
    | none => d.addrFault n u.addr
    | some (h, o) =>
      if d.inAcc h o 8 && !d.is (ENG.CL_CTL.CTR_ALLOW (n / 64)) then d.addrFault n u.addr
      else match d.hbmCheck h o with
        | (true, d) => d.fault n 0x08 (u.addr % 2 ^ 32)
        | (false, d) => ((d.load n 0 (BitVec.ofNat 64 ((d.readsAt (hbmA h o) 8).see64 (hbmA h o)))).setCur n (fun u => { u with hbm := hbmA h o })).memWait n .hbm) s

/-- The thread has stored to the HBM word at `a`: a FENCE_ALL covers it (Table 2.4). -/
def Dev.noteStore (d : Dev) (n a : Nat) : Dev :=
  if (d.ctx n).stored.contains a then d else d.setCtx n { d.ctx n with stored := (d.ctx n).stored ++ [a] }

/-- A posted HBM store, which `f` makes at the word's address (R228). -/
def hbmStoreEff (n : Nat) (f : Dev → Nat → Dev) (u : Cur) (d : Dev) : Dev :=
  match d.hbmTarget n u.addr with
  | none => d.addrFault n u.addr
  | some (h, o) => if d.protectedHbm h o 8 then d.addrFault n u.addr else ((f d (hbmA h o)).noteStore n (hbmA h o)).memNow n

/-- STM. -/
def execStm (n : Nat) (s : State) : Out := memCmd 0x0A n [] (fun u d => hbmStoreEff n (fun d a => d.hbmPut a (natLE 8 (d.dataReg n 0 u).toNat)) u d) s

/-- ADDM. -/
def execAddm (n : Nat) (s : State) : Out := memCmd 0x0B n [] (fun u d => hbmStoreEff n (fun d a => d.hbmAdd a (d.dataReg n 0 u).toNat) u d) s

-- Buffers (R223, R272 to R280).

/-- Half and requester number of a thread. -/
def ctxHalf (n : Nat) : Nat := n / 2048
def ctxReq (n : Nat) : Nat := threadReq (n / 64) (n % 64)

/-- An operation that the thread's share does not allow (R196). -/
def Dev.shareEmpty (d : Dev) (n : Nat) : Dev := (d.setCondOf n 0x07 true).cntEng (n / 64) 11

/-- BALLOC once the share allows it: a handle, or BUF_EMPTY with the retry hint (R276). -/
def ballocGrant (n size : Nat) (d : Dev) : Dev :=
  let h := ctxHalf n
  let d := d.setCondOf n 0x07 false
  let k := d.poolFor h size (fun _ => true)
  match (match k with
    | some k => d.grantOr h k (ctxReq n)
    | none => (none, d.emptyOut h)) with
  | (some x, d) =>
    let d := (d.setCondOf n 0x12 false).load n 0 (BitVec.ofNat 64 x)
    d.setCtx n { d.ctx n with handles := (d.ctx n).handles ++ [x] }
  | (none, d) => ((d.setCondOf n 0x12 true).load n 0 0xFFFFFFFF).load n 1 (BitVec.ofNat 64 (d.retryHint h k))

/-- BALLOC. -/
def execBalloc (n : Nat) (s : State) : Out :=
  memCmd 0x0C n [] (fun u d =>
    if u.addr = 0 || Nat.blt 262144 u.addr then d.addrFault n u.addr
    else if d.handleShare n then (ballocGrant n u.addr d).memWait n .op
    else if bit (uSIZE u.word) 3 then d.evtWait n .share
    else (((d.shareEmpty n).setCondOf n 0x12 false).load n 0 0xFFFFFFFF).memNow n) s

/-- The handle at the address: its check, and the fault of a bad one (R272). -/
def Dev.handleFault (d : Dev) (n x : Nat) : Dev := (d.badHandle (ctxHalf n)).addrFault n x

/-- BFREE. -/
def execBfree (n : Nat) (s : State) : Out :=
  memCmd 0x0D n [] (fun u d =>
    let x := u.addr % 2 ^ 32
    if !d.handleOk (ctxHalf n) x then d.handleFault n x
    else
      let held := (d.ctx n).handles.contains x
      let d := d.setCtx n { d.ctx n with handles := (d.ctx n).handles.erase x }
      (d.bfree (ctxHalf n) x (ctxReq n) held).memWait n .op) s

/-- BREF (R278). -/
def execBref (n : Nat) (s : State) : Out :=
  memCmd 0x0E n [] (fun u d =>
    let x := u.addr % 2 ^ 32
    let h := ctxHalf n
    if !d.handleShare n then (d.shareEmpty n).memWait n .op
    else if !d.handleOk h x then d.handleFault n x
    else
      let w := d.binfo h x
      if d.metaErr h x then (d.metaParityErr h x (ctxReq n)).addrFault n x
      else if mREF w = 0 || mQUAR w || mPARKED w then d.addrFault n x
      else match d.bref h x with
        | none => ((d.cntBpm h 7).setCondOf n 0x07 true).memWait n .op
        | some d =>
          let d := d.setCondOf n 0x07 false
          (d.setCtx n { d.ctx n with handles := (d.ctx n).handles ++ [x] }).memWait n .op) s

/-- The place of buffer `x` among the packet's own buffers. -/
def ownCell (x : Nat) (c : Ctx) : Option Nat :=
  match c.pkt with
  | none => none
  | some k => if k.bufs.contains x then some (k.bufs.findIdx (fun b => b == x)) else none

/-- An access to 8 bytes of the buffer in P[MEM_REG + 1]: refused where the handle is bad, the thread does not hold it, or the bytes lie beyond it (R224, R425). -/
def Dev.bufAccess (d : Dev) (n : Nat) (u : Cur) (store : Bool) : Option Nat × Dev :=
  let x := (d.dataReg n 1 u).toNat % 2 ^ 32
  let h := ctxHalf n
  let a := d.bufA h x u.addr
  if !d.handleOk h x then (none, d.handleFault n x)
  else if !(d.ctx n).handles.contains x && (ownCell x (d.ctx n)).isNone then (none, d.addrFault n u.addr)
  else if Nat.blt (poolSize (handlePool x)) (u.addr + 8) then (none, d.addrFault n u.addr)
  else if Nat.ble 4 (handlePool x) && d.inAcc h (a % 0x1000000000) 8 && (store || !d.is (ENG.CL_CTL.CTR_ALLOW (n / 64))) then (none, d.addrFault n u.addr)
  else (some x, d)

/-- BLD: an HBM buffer takes the time of an HBM access. -/
def execBld (n : Nat) (s : State) : Out :=
  memCmd 0x0F n [] (fun u d => match d.bufAccess n u false with
    | (none, d) => d
    | (some x, d) =>
      let a := d.bufA (ctxHalf n) x u.addr
      let d := d.load n 0 (BitVec.ofNat 64 ((if Nat.ble 4 (handlePool x) then d.readsAt a 8 else d).rd64 a))
      if Nat.ble 4 (handlePool x) then (d.setCur n (fun u => { u with hbm := a })).memWait n .hbm else d.memWait n .op) s

/-- A store into buffer `i` of a packet changes the frame's payload beyond the header window; the bytes received are taken as changed too, so that the carried FCS does not match (R398). -/
def Pkt.cellStore (k : Pkt) (i o : Nat) (bs : List Byte) : Pkt :=
  if i = 0 then k
  else { k with body := writeB k.body (256 * i + o + k.hnet - 64) bs, rx := writeB k.rx (256 * i + o) bs }

/-- BST: posted to an HBM buffer. -/
def execBst (n : Nat) (s : State) : Out :=
  memCmd 0x10 n [] (fun u d => match d.bufAccess n u true with
    | (none, d) => d
    | (some x, d) =>
      let bs := natLE 8 (d.dataReg n 0 u).toNat
      let c := d.ctx n
      let a := d.bufA (ctxHalf n) x u.addr
      let d := if Nat.ble 4 (handlePool x) then (d.hbmPut a bs).noteStore n (a / 8 * 8) else d.wrBytes a bs
      let d := match ownCell x c with
        | some i => d.setCtx n { d.ctx n with pkt := c.pkt.map (fun (k : Pkt) => k.cellStore i u.addr bs) }
        | none => d
      if Nat.ble 4 (handlePool x) then d.memNow n else d.memWait n .op) s

-- Generated frames (R195, R278, R328).

/-- Whether the operands of a TXGEN are ones that it can send (log entry 48). -/
def Dev.txgenOk (d : Dev) (n x v : Nat) : Bool :=
  let len := bits v 13 0
  (d.ctx n).handles.contains x && Nat.blt v (2 ^ 28) && Nat.ble 60 len && Nat.ble len 9596 && Nat.ble len (poolSize (handlePool x))

/-- TXGEN once the share allows it: the reference passes to the frame path of the slice, the frame to the switch core (R278). On a metadata word with a parity error it does nothing (R284, log entry 117). -/
def txgenSend (n x v launch : Nat) (d : Dev) : Dev :=
  let h := ctxHalf n
  if d.metaErr h x then d.metaParityErr h x (ctxReq n) else
  let sl := n / 512
  let c := d.ctx n
  let w := d.binfo h x
  let d := if mOWNER w = ctxReq n && !mGONE w then d.setInfo h x (setBits w 19 8 (framePath sl)) else d
  let (i, d) := d.newId
  let body := d.rdBytes (d.bufA h x 0) (bits v 13 0)
  let k : Pkt := { body := body, rx := body, fcs := fcsOf body, fresh := true, slice := sl, id := i, stage := .released,
                   epoch := some (c.epoch.getD (d.get GLB.EPOCH_CUR.CUR)), dest := .port (bits v 22 14), d3 := bits v 26 23 % 16 * 2 ^ 6 + bits v 22 14 * 2 ^ 12,
                   bufs := [x], bufSlice := sl, launchReq := if bit v 27 then some launch else none, txOwner := n + 1, len := body.length + 4 }
  let d := d.setCtx n { (c.setCond 0x07 false) with handles := c.handles.erase x, txe := c.txe + 1 }
  d.toAdm { admOf k with txe := n + 1 }

/-- TXGEN. -/
def execTxgen (n : Nat) (s : State) : Out :=
  memCmd 0x11 n [] (fun u d =>
    let x := (d.dataReg n 0 u).toNat % 2 ^ 32
    let v := (d.dataReg n 1 u).toNat
    if !d.handleOk (ctxHalf n) x then d.handleFault n x
    else if !d.txgenOk n x v then d.addrFault n x
    else if d.txShare n then (txgenSend n x v (d.dataReg n 2 u).toNat d).memNow n
    else if bit (uSIZE u.word) 3 then d.evtWait n .share
    else (d.shareEmpty n).memNow n) s

end Sys2Proof.Machine
end

