-- ==== Sys2Proof/Machine/Record.lean ====
section
/-! DEFINITION. Quarry, channel, packet and keeper operations of a microword (spec/07 R167, R170; spec/08 R197, R198, R202; spec/09 R225 to R227, R230). -/

namespace Sys2Proof.Machine

open Sys2Proof

-- The held record.

/-- The held record as its thread reads it: its own copy of the STATE fields and VER, with the deltas that the Face line has gathered. -/
def Dev.heldWords (d : Dev) (n : Nat) (h : Held) : List Nat :=
  let ws := match d.lineOf (n / 512) h.handle with
    | some l => let w := lineNow l; mergeState (rFULL (nthD w 0 0)) w h.words
    | none => h.words
  setNth ws 0 (setBits (nthD ws 0 0) 7 0 h.ver)

/-- An operation on the held record; without one, the thread faults with ADDRESS. -/
def heldCmd (m n : Nat) (f : Cur → Held → Dev → Dev) (s : State) : Out :=
  memCmd m n [] (fun u d => match (d.ctx n).held with
    | none => d.addrFault n u.addr
    | some h => f u h d) s

/-- QRD: a word beyond a compact record is open (log entry 49). -/
def execQrd (n : Nat) (s : State) : Out :=
  heldCmd 0x12 n (fun u h d =>
    let i := uOFF u.word % 16
    let ws := d.heldWords n h
    if i < ws.length then (d.load n 0 (BitVec.ofNat 64 (nthD ws i 0))).memWait n .op
    else
      let (v, d) := d.fresh
      (d.load n 0 (BitVec.ofNat 64 v)).memWait n .op) s

/-- QWR: only the STATE-class bits of the word are written. -/
def execQwr (n : Nat) (s : State) : Out :=
  heldCmd 0x13 n (fun u h d =>
    let i := uOFF u.word % 16
    let old := nthD h.words i 0
    let new := maskIn (stateMask (rFULL (nthD h.words 0 0)) i) old (d.dataReg n 0 u).toNat
    (d.setCtx n { d.ctx n with held := some { h with words := setNth h.words i new, changed := h.changed || new != old } }).memWait n .op) s

/-- The thread has added to a record's line: a FENCE_ALL covers it (Table 2.4). -/
def Dev.noteWrite (d : Dev) (n x : Nat) : Dev :=
  if (d.ctx n).wrote.contains x then d else d.setCtx n { d.ctx n with wrote := (d.ctx n).wrote ++ [x] }

/-- Deltas of the record that context `n` holds: in the slice's line, or, where an error has taken that, on their way to Bench (log entry 130). -/
def Dev.heldAdd (d : Dev) (n x dPkts dBad dOct : Nat) : Dev :=
  match d.lineOf (n / 512) x with
  | some _ => d.updLine (n / 512) x (addDelta d.tick dPkts dBad dOct none)
  | none => d.issue { txn0 with kind := .writeBack, slice := n / 512, half := flowHalf x, handle := x, dPkts := dPkts, dBad := dBad, dOct := dOct, ctx := n + 1 }

/-- QADD: PKTS, BAD or OCTETS of the record. -/
def execQadd (n : Nat) (s : State) : Out :=
  heldCmd 0x14 n (fun u h d =>
    let v := (d.dataReg n 0 u).toNat
    let k := uSIZE u.word
    let d := d.heldAdd n h.handle (if k = 0 then v else 0) (if k = 1 then v else 0) (if k = 2 then v else 0)
    (d.noteWrite n h.handle).memWait n .op) s

/-- QREL. -/
def execQrel (n : Nat) (s : State) : Out := heldCmd 0x15 n (fun _ _ d => (d.relRecord n true).memNow n) s

/-- QTAKE: a record that is held is released first; the handle "no flow" names no record. -/
def execQtake (n : Nat) (s : State) : Out :=
  memCmd 0x16 n [] (fun u d =>
    let x := u.addr % 2 ^ 32
    let d := (d.relRecord n true).setCondOf n 0x0A false
    let d := d.memWait n .op
    if x = noFlow then d.noRecord n 5 else d.wantRecord n x false) s

/-- The flow key of a QINS: P[MEM_REG] to P[MEM_REG + 5] with KTYPE as its byte 0. -/
def Dev.qinsKey (d : Dev) (n : Nat) (u : Cur) : List Byte :=
  let kt := uSIZE u.word
  let b := (List.range 6).flatMap (fun i => natLE 8 (d.dataReg n i u).toNat)
  (natBE 1 kt ++ b.drop 1).take (if kt % 4 = 2 then 44 else 20)

/-- QINS failed: code 1 DUP, 2 FULL, 3 RATE, 4 TIMEOUT or 5 OFF. -/
def Dev.qinsFail (d : Dev) (n code : Nat) : Dev :=
  ((d.setCondOf n 0x0D true).load n 0 0xFFFFFFFF).load n 1 (BitVec.ofNat 64 code)

/-- QINS. -/
def execQins (n : Nat) (s : State) : Out :=
  memCmd 0x17 n [] (fun u d =>
    let sl := n / 512
    let kt := uSIZE u.word
    if !(d.is QRY.GCFG.EN && d.is QRY.GCFG.READY && d.is (QRY.CTL.EN sl)) then (d.qinsFail n 5).memNow n
    else
      let key := d.qinsKey n u
      let h1 := d.hash1 key
      let d := d.issue { txn0 with kind := .qins, slice := sl, half := h1 / 2 ^ 31, h1 := h1, h2 := d.hash2 key, fkey := key,
                                   full := bit (uOFF u.word) 0 || kt % 4 == 2, w0 := d.insWord0 sl kt (d3Tag (Dev.dword (d.ctx n) 3)), ctx := n + 1 }
      d.memWait n .bench) s

/-- QDEL: the deletion is issued, then the record is released. -/
def execQdel (n : Nat) (s : State) : Out :=
  heldCmd 0x18 n (fun _ h d =>
    let d := d.issue { txn0 with kind := .delete, slice := n / 512, half := flowHalf h.handle, handle := h.handle, ctx := n + 1 }
    (d.relRecord n true).memNow n) s

-- Channels (R197, R198, R226).

/-- The next channel operation of a thread whose channel was reclaimed: it gives CHANNEL_LOST and does nothing further (R198). -/
def Dev.chanGone (d : Dev) (n : Nat) : Option Dev :=
  let x := d.ctx n
  if x.chanLost then some (d.setCtx n { (x.setCond 0x09 true) with chanLost := false }) else none

/-- COPEN. -/
def execCopen (n : Nat) (s : State) : Out :=
  memCmd 0x19 n [] (fun u d => match d.chanGone n with
    | some d => d.memNow n
    | none =>
      let c := n / 64
      let i := u.addr % 16
      let x := d.chan c i
      if (d.ctx n).chan.isSome then (d.setCondOf n 0x08 true).memNow n
      else if x.st = 0 then (d.chanOpened c i n).memNow n
      else if bit (uSIZE u.word) 3 then (d.setChan c i { x with opens := x.opens ++ [n] }).evtWait n (.chanOpen i)
      else (d.setCondOf n 0x08 true).memNow n) s

/-- An operation on the held channel; without one, CHANNEL_LOST is set and nothing happens. -/
def heldChan (m n : Nat) (f : Cur → Nat → Dev → Dev) (s : State) : Out :=
  memCmd m n [] (fun u d => match d.chanGone n, (d.ctx n).chan with
    | some d, _ => d.memNow n
    | none, none => (d.setCondOf n 0x09 true).memNow n
    | none, some i => f u i d) s

/-- CPUT. -/
def execCput (n : Nat) (s : State) : Out :=
  heldChan 0x1A n (fun u i d =>
    let c := n / 64
    let x := d.chan c i
    let w := uSIZE u.word % 8
    ((d.setChan c i { x with staged := sput x.staged w (d.dataReg n 0 u) }).mend (chanKey c i w)).memNow n) s

/-- The message of a channel: eight words, those not put as 0. -/
def Dev.message (d : Dev) (c i : Nat) : List Word64 := (List.range 8).map (fun w => sget (d.chan c i).staged w 0)

/-- A receiver takes the message: its registers are loaded and the channel is EMPTY. A word with an error faults it. -/
def Dev.receive (d : Dev) (n i : Nat) : Dev :=
  let c := n / 64
  if (List.range 8).any (fun w => d.badAt (chanKey c i w) != 0) then
    ((List.range 8).foldl (fun (d : Dev) w => d.mend (chanKey c i w)) (d.chanEmpty c i)).poisonRead n 0
  else
    let m := d.message c i
    let d := (List.range 8).foldl (fun (d : Dev) w => d.load n w (nthD m w 0)) d
    (d.chanEmpty c i).memDone n

/-- CCOMMIT: the message is visible whole; the receiver that has waited longest takes it. -/
def execCcommit (n : Nat) (s : State) : Out :=
  heldChan 0x1B n (fun _ i d =>
    let c := n / 64
    let x := d.chan c i
    let d := (d.setCtx n { d.ctx n with chan := none }).setChan c i { x with st := 2, holder := 0 }
    let d := match x.recvs with
      | [] => d
      | r :: rs => (d.setChan c i { d.chan c i with recvs := rs }).receive r i
    d.memNow n) s

/-- CABORT. -/
def execCabort (n : Nat) (s : State) : Out := heldChan 0x1C n (fun _ _ d => (d.chanAbort n).memNow n) s

/-- CRECV. -/
def execCrecv (n : Nat) (ups : List (Nat × Nat)) (s : State) : Out :=
  memCmd 0x1D n ups (fun u d => match d.chanGone n with
    | some d => d.memNow n
    | none =>
      let c := n / 64
      let i := u.addr % 16
      let x := d.chan c i
      if x.st = 2 then d.receive n i
      else (d.setChan c i { x with recvs := x.recvs ++ [n] }).evtWait n (.chanRecv i)) s

-- Packet sub-operations (R188, R227).

/-- The thread lets its packet go: it holds none, and from its next word on it has no epoch (Table 2.5). -/
def Dev.letGo (d : Dev) (n : Nat) : Dev := d.setCtx n { d.ctx n with pkt := none, released := true, epoch := none }

/-- Whether packet sub-operation `k` is next. -/
def pktTurn (k : Nat) (u : Cur) : Bool := memTurn 0x1E u && uSIZE u.word == k

/-- A release of the packet: a second one faults with RELEASE_TWICE, one without a packet with ADDRESS. -/
def releaseCmd (sub n : Nat) (f : Pkt → Dev → Dev) (s : State) : Out :=
  uopCmd n (pktTurn sub) (fun u d => match (d.ctx n).pkt with
    | some k => (f k (d.letGo n)).memNow n
    | none => if (d.ctx n).released then d.fault n 0x06 0 else d.addrFault n u.addr) s

/-- The packet sent with the treatment in D3, to the destination that forwarding or the thread's last write of D3 gave it (R286). -/
def Dev.sendD3 (d : Dev) (k : Pkt) : Dev := d.passOn k

/-- PKT_SEND. -/
def execPktSend (n : Nat) (s : State) : Out := releaseCmd 0 n (fun k d => d.sendD3 k) s
/-- PKT_DROP. -/
def execPktDrop (n : Nat) (s : State) : Out := releaseCmd 1 n (fun k d => d.discard k) s
/-- PKT_PUNT. -/
def execPktPunt (n : Nat) (s : State) : Out := releaseCmd 2 n (fun k d => d.punt k 0x01) s
/-- PKT_RECIRC. -/
def execPktRecirc (n : Nat) (s : State) : Out := releaseCmd 3 n (fun k d => d.passOn { k with dest := .port (257 + n / 512), nh := none }) s

/-- Where the IP header of a routed frame stands after `len` bytes inserted, or deleted, at `a` (R128); a deletion that takes its first byte leaves it at `a` (log entry 109). -/
def l3Moved (ins : Bool) (a len l3 : Nat) : Nat :=
  if Nat.blt l3 a then l3 else if ins then l3 + len else max a (l3 - len)

/-- HINS or HDEL: `f` gives the frame with `len` bytes inserted or deleted; the net change stays in −64 to +64 and the address at most W. -/
def reshapeEff (n : Nat) (ins : Bool) (u : Cur) (d : Dev) : Dev :=
  match (d.ctx n).pkt with
  | none => d.addrFault n u.addr
  | some k =>
    let len := (d.dataReg n 0 u).toNat % 128
    let a := u.addr
    if Nat.blt k.winLen a || (if ins then Nat.blt 128 (k.hnet + len) else Nat.blt k.hnet len || Nat.blt k.winLen (a + len)) then d.addrFault n a
    else
      let b := if ins then k.body.take a ++ List.replicate len 0 ++ k.body.drop a else k.body.take a ++ k.body.drop (a + len)
      let net := if ins then k.hnet + len else k.hnet - len
      (d.setCtx n { d.ctx n with pkt := some { k with body := b, hnet := net, l3 := l3Moved ins a len k.l3 } }).memNow n

/-- HINS. -/
def execHins (n : Nat) (s : State) : Out := uopCmd n (pktTurn 4) (fun u d => reshapeEff n true u d) s
/-- HDEL. -/
def execHdel (n : Nat) (s : State) : Out := uopCmd n (pktTurn 5) (fun u d => reshapeEff n false u d) s

-- Keeper sub-operations (R202, R230).

/-- Whether keeper sub-operation `k` is next. -/
def kopTurn (k : Nat) (u : Cur) : Bool := memTurn 0x1F u && uSIZE u.word == k

/-- The context that a keeper sub-operation names. -/
def kopCtx (n : Nat) (u : Cur) : Nat := n / 8 * 8 + u.addr % 8

/-- A keeper sub-operation; it completes without waiting. -/
def kopCmd (sub n : Nat) (f : Cur → Dev → Dev) (s : State) : Out := uopCmd n (kopTurn sub) (fun u d => (f u d).memNow n) s

/-- Acts on a FAULTED worker; its record leaves the queue. On any other context, nothing (R202). -/
def Dev.onFaulted (d : Dev) (m : Nat) (f : Dev → Dev) : Dev :=
  if (d.ctx m).st = .faulted && !d.isKeeper m then f (d.kqDrop m) else d

/-- KOP_TAKE. -/
def execKopTake (n : Nat) (s : State) : Out :=
  kopCmd 0 n (fun _ d => match d.kqOf (n / 8) with
    | [] => (d.setCondOf n 0x11 false).load n 0 0
    | r :: rs => ((d.setKq (n / 8) rs).setCondOf n 0x11 true).load n 0 (BitVec.ofNat 64 r)) s

/-- KOP_RESUME. -/
def execKopResume (n : Nat) (s : State) : Out :=
  kopCmd 1 n (fun u d => d.onFaulted (kopCtx n u) (fun d =>
    let m := kopCtx n u
    let v := (d.dataReg n 0 u).toNat % 8192
    d.setCtx m { d.ctx m with st := .ready, pc := v, fault := 0, delivered := false, faultAge := 0 })) s

/-- KOP_DROP. -/
def execKopDrop (n : Nat) (s : State) : Out := kopCmd 2 n (fun u d => d.onFaulted (kopCtx n u) (fun d => d.dropThread (kopCtx n u))) s

/-- KOP_PASS: the packet leaves with the treatment in D3, then DROP. -/
def execKopPass (n : Nat) (s : State) : Out :=
  kopCmd 3 n (fun u d => d.onFaulted (kopCtx n u) (fun d =>
    let m := kopCtx n u
    let d := match (d.ctx m).pkt with
      | some k => (d.letGo m).sendD3 k
      | none => d
    d.dropThread m)) s

/-- KICK: a READY or WAIT_EVENT worker faults at once, one in WAIT_MEM when its operation completes, one in the middle of a word at its end. -/
def execKick (n : Nat) (s : State) : Out :=
  kopCmd 4 n (fun u d =>
    let m := kopCtx n u
    let x := d.ctx m
    if d.isKeeper m then d
    else if x.st = .waitMem || (x.st == .ready && x.cur.isSome) then d.setCtx m { x with kickReq := true }
    else if x.st = .ready || x.st == .waitEvent then d.fault m 0x09 0
    else d) s

/-- RDP: P(address [7:3]) of a FAULTED context, else 0; a parity error in it faults the keeper that reads it (Table 17.1). -/
def execRdp (n : Nat) (s : State) : Out :=
  kopCmd 5 n (fun u d =>
    let m := kopCtx n u
    let i := u.addr / 8 % 32
    if (d.ctx m).st != .faulted then d.load n 0 0
    else if d.badAt (regKey m i) != 0 then d.poisonRead n 0
    else d.load n 0 ((d.ctx m).p i)) s

/-- WRP. -/
def execWrp (n : Nat) (s : State) : Out :=
  kopCmd 6 n (fun u d =>
    let m := kopCtx n u
    let i := u.addr / 8 % 32
    if (d.ctx m).st = .faulted then (d.setCtx m ((d.ctx m).setP i (d.dataReg n 0 u))).mend (regKey m i) else d) s

/-- RDH: 8 header bytes at offset address [15:8]; of a context without packet, or beyond offset 248, they are open (log entry 50). -/
def execRdh (n : Nat) (s : State) : Out :=
  kopCmd 7 n (fun u d =>
    let x := d.ctx (kopCtx n u)
    let o := u.addr / 256 % 256
    if x.st != .faulted then d.load n 0 0
    else match x.pkt, decide (o ≤ 248) with
      | some k, true => d.load n 0 (BitVec.ofNat 64 (beNat (k.header o 8)))
      | _, _ =>
        let (v, d) := d.fresh
        d.load n 0 (BitVec.ofNat 64 v)) s

/-- WRH: bytes at or beyond W are not stored. -/
def execWrh (n : Nat) (s : State) : Out :=
  kopCmd 8 n (fun u d =>
    let m := kopCtx n u
    let x := d.ctx m
    let o := u.addr / 256 % 256
    match x.st == .faulted && Nat.ble o 248, x.pkt with
    | true, some k =>
      let bs := (natBE 8 (d.dataReg n 0 u).toNat).take (k.winLen - o)
      d.setCtx m { x with pkt := some { k with body := writeB k.body o bs } }
    | _, _ => d) s

/-- KOP_STAT. -/
def execKopStat (n : Nat) (s : State) : Out := kopCmd 9 n (fun u d => d.load n 0 (BitVec.ofNat 64 (d.ctxStat (kopCtx n u)))) s

-- OPERATION_COMPLETE (R223).

/-- A QINS whose transaction has been answered or has timed out. -/
def Dev.qinsEnd (d : Dev) (n : Nat) : Option Dev :=
  match d.qry.txns.find? (fun t => t.kind == .qins && t.ctx == n + 1) with
  | some t =>
    if !t.done then none
    else
      let d := d.endTxn t.id
      if t.rStatus = 1 then some ((d.setCondOf n 0x0D false).load n 0 (BitVec.ofNat 64 t.rHandle))
      else some (d.qinsFail n (if t.rStatus = 5 then 1 else t.rStatus))
  | none => some (d.qinsFail n 4)

/-- What ends the wait of context `n`, if it can end now. -/
def Dev.opEnd (d : Dev) (n : Nat) : Option Dev :=
  let x := d.ctx n
  match x.wait, x.cur with
  | .op, some _ => some (d.memDone n)
  | .hbm, some u => if d.areaWaits u.hbm 8 then none else some (d.memDone n)
  | .fence, some u => if d.fenceWaits n (uFENCE u.word == 3) u.fenceAt then none else some (d.fenceEnd n true)
  | .bench, some u => if uMEM u.word = 0x17 then (d.qinsEnd n).map (fun d => d.memDone n) else none
  | .share, some u =>
    if uMEM u.word = 0x0C then (if d.handleShare n then some ((ballocGrant n u.addr d).memDone n) else none)
    else if d.txShare n then
      let y := (d.dataReg n 0 u).toNat % 2 ^ 32
      some ((txgenSend n y (d.dataReg n 1 u).toNat (d.dataReg n 2 u).toNat d).memDone n)
    else none
  | _, _ => none

/-- OPERATION_COMPLETE of context `n`: a wait for its own memory, Quarry or fence operation, or for a share, ends. -/
def execOperationComplete (n : Nat) (s : State) : Out :=
  act s (fun d => d.clusterOn (n / 64) && (d.opEnd n).isSome) (fun d => match d.opEnd n with
    | some d => d
    | none => d)

end Sys2Proof.Machine
end

