-- ==== Sys2Proof/Machine/Seq.lean ====
section
/-! DEFINITION. The sequencer of a microword: next PC, calls, waits, FORK, JOIN, END and KWAIT (spec/08 R189 to R194, spec/09 R218 to R221). -/

namespace Sys2Proof.Machine

open Sys2Proof

/-- A sequencer command: operation `q` of context `n`, the last part of its word. -/
def seqCmd (q n : Nat) (f : Cur → Dev → Dev) (s : State) : Out := uopCmd n (fun u => u.memDone && uSEQ u.word == q) f s

/-- Condition `i` of the word, as the sequencer sees it. -/
def Dev.seqTest (d : Dev) (n : Nat) (u : Cur) (i : Nat) : Bool := (d.ctx n).test (d.isKeeper n) u.alu (uCOND u.word i)

/-- PC + 1. -/
def Dev.pcNext (d : Dev) (n : Nat) : Nat := ((d.ctx n).pc + 1) % 8192

/-- NEXT. -/
def execNext (n : Nat) (s : State) : Out := seqCmd 0 n (fun _ d => d.wordDone n (d.pcNext n)) s

/-- JUMP. -/
def execJump (n : Nat) (s : State) : Out := seqCmd 1 n (fun u d => d.wordDone n (uTARGET u.word)) s

/-- BRANCH. -/
def execBranch (n : Nat) (s : State) : Out :=
  seqCmd 2 n (fun u d => d.wordDone n (if d.seqTest n u 0 != uNEG u.word then uTARGET u.word else d.pcNext n)) s

/-- MWAY. -/
def execMway (n : Nat) (s : State) : Out :=
  seqCmd 3 n (fun u d =>
    let k := (List.range 4).foldl (fun k i => k + b2n (d.seqTest n u i) * 2 ^ i) 0
    d.wordDone n (Nat.lor (uTARGET u.word) k)) s

/-- CALL: four entries on the stack fault with ILLEGAL (R220). -/
def execCall (n : Nat) (s : State) : Out :=
  seqCmd 4 n (fun u d =>
    let x := d.ctx n
    if Nat.ble 4 x.stack.length then d.fault n 0x07 0
    else (d.setCtx n { x with stack := d.pcNext n :: x.stack }).wordDone n (uTARGET u.word)) s

/-- RET: an empty stack faults with ILLEGAL. -/
def execRet (n : Nat) (s : State) : Out :=
  seqCmd 5 n (fun _ d =>
    let x := d.ctx n
    match x.stack with
    | [] => d.fault n 0x07 0
    | p :: ps => (d.setCtx n { x with stack := ps }).wordDone n p) s

/-- WAITC. -/
def execWaitc (n : Nat) (ups : List (Nat × Nat)) (s : State) : Out :=
  seqCmd 6 n (fun u d =>
    let d := d.upset ups
    let c := n / 64
    let i := uOFF u.word % 64
    if d.badAt (cregKey c i) != 0 then d.poisonRead n 0
    else if waitcTest (uSIZE u.word) (d.get (ENG.CREG.W c i)) (uIMM u.word) then d.wordDone n (d.pcNext n)
    else d.evtWait n .creg) s

/-- The context that a FORK takes: of the forking engine, else by R186. -/
def Dev.forkCtx (d : Dev) (n : Nat) : Option (Nat × Bool) :=
  if !(d.freeIn (n / 8)).isEmpty then some (d.lowestFree (n / 8), false)
  else (d.chooseEngine (n / 64)).map (fun e => (d.lowestFree e, true))

/-- The child of a FORK in context `m` (R190, R192). -/
def Dev.forkChild (d : Dev) (n m start copy : Nat) : Dev :=
  let x := d.ctx n
  let k := if copy = 0 then 0 else 2 ^ (copy + 1)
  let (i, d) := d.newId
  let y : Ctx := { txe := (d.ctx m).txe, st := .waitMem, regs := x.regs.filter (fun e => Nat.blt e.1 k), epoch := x.epoch, pc := start,
                   parent := n + 1, parentSeq := x.seq, seq := i, forking := true }
  ((d.cleanRegs m).setCtx m y).setCtx n { (x.setCond 0x06 false) with children := x.children + 1 }

/-- FORK: without a free context, or with 15 live children, FORK_EMPTY. -/
def execFork (n : Nat) (s : State) : Out :=
  seqCmd 7 n (fun u d =>
    match (if Nat.ble 15 (d.ctx n).children then none else d.forkCtx n) with
    | none => ((d.setCondOf n 0x06 true).cntEng (n / 64) 3).wordDone n (d.pcNext n)
    | some (m, by186) =>
      let d := (d.forkChild n m (uTARGET u.word) (uCOPY u.word)).cntEng (n / 64) 2
      (if by186 then d.rrNext (n / 64) else d).wordDone n (d.pcNext n)) s

/-- JOIN. -/
def execJoin (n : Nat) (s : State) : Out :=
  seqCmd 8 n (fun _ d => if (d.ctx n).children = 0 then d.wordDone n (d.pcNext n) else d.evtWait n .join) s

/-- END: with a packet the thread faults with NO_RELEASE; else its record is released, with a COMMIT if a STATE field changed, and all else given back (R221). -/
def execEnd (n : Nat) (s : State) : Out :=
  seqCmd 9 n (fun _ d =>
    if (d.ctx n).pkt.isSome then d.fault n 0x05 0
    else (d.relRecord n true).endThread n) s

/-- KWAIT: a queued record lets the keeper go on; else FOG is cleared and it waits (log entry 51). -/
def execKwait (n : Nat) (s : State) : Out :=
  seqCmd 0xA n (fun _ d =>
    if (d.kqOf (n / 8)).isEmpty then d.setCtx n { ((d.ctx n).setCond 0x10 false) with st := .keeperIdle, wait := .keeper }
    else d.wordDone n (d.pcNext n)) s

end Sys2Proof.Machine
end

