-- ==== Sys2Proof/Machine/Patch.lean ====
section
/-! DEFINITION. Patch staging of microcode (spec/09 R233 to R236, Tables 9.7 and 9.8): a command is checked against its register fields when it is given, and reads its segment and writes its words when it finishes. -/

namespace Sys2Proof.Machine

open Sys2Proof

/-- A patch command as it was given: mode, words, first address, segment, expected CRC, and the bank that it writes. -/
def patchCmd (d : Dev) (c mode : Nat) : HostCmd :=
  let act := d.clSet c
  { at_ := if mode = 1 || (mode = 0 && !d.is (ENG.PATCH_CTL.ACTIVE c)) then 1 - act else act
    data := [mode, d.get (ENG.PATCH_CTL.COUNT c), d.get (ENG.PATCH_CTL.DST c), d.get (ENG.PATCH_SRC.OFFSET c), d.get (ENG.PATCH_CRC.CRC c)] }

/-- Whether COUNT, DST or the segment's offset is out of range. -/
def patchRange (d : Dev) (c : Nat) : Bool :=
  let n := d.get (ENG.PATCH_CTL.COUNT c)
  n == 0 || Nat.blt 8192 n || Nat.blt 8192 (d.get (ENG.PATCH_CTL.DST c) + n) || d.get (ENG.PATCH_SRC.OFFSET c) % 64 != 0

/-- Status of a command refused from its register fields; 0 for one that goes on. -/
def patchRefusal (d : Dev) (c mode : Nat) : Nat :=
  if d.is GLB.PATCH_LOCK.LOCK then 1
  else if mode = 3 then 7
  else if mode != 1 && patchRange d c then 4
  else if mode = 0 && d.is (ENG.PATCH_CTL.ACTIVE c) then (if d.gateOpen then 7 else 0)
  else if mode != 2 && d.is (GLB.PART_CTL.RETIRING (8 + c)) then 3
  else 0

/-- A write of ENG.PATCH_CTL: GO while DONE is 0 is ignored. -/
def Dev.patchCtlWrite (d : Dev) (c v : Nat) : Dev :=
  let mode := bits v 2 1
  let w := ((((d.set (ENG.PATCH_CTL.ACTIVE c) (bits v 35 35)).set (ENG.PATCH_CTL.COUNT c) (bits v 34 21)).set (ENG.PATCH_CTL.DST c) (bits v 20 8)).set
    (ENG.PATCH_CTL.MODE c) mode)
  if !bit v 0 then w
  else if !d.is (ENG.PATCH_CTL.DONE c) then d
  else
    let st := patchRefusal w c mode
    let w := if st = 3 then (w.set (GLB.PART_CTL.WRITE_REFUSED (8 + c)) 1).raise EV_PART_WRITE_REFUSED else w
    { w.set (ENG.PATCH_CTL.DONE c) 0 with eng.patch := sset w.eng.patch c (some { patchCmd w c mode with status := st }) none }

/-- PATCH_WRITE in cluster `c`: a write of ENG.PATCH_CTL with GO and MODE 0; so the two below with their MODE. -/
def execPatchWrite (c v : Nat) (s : State) : Out := hostAct s (ENG.PATCH_CTL.GO (c % 64)) (fun d => d.patchCtlWrite (c % 64) (setBit (setBits v 2 1 0) 0))

/-- PATCH_COPY. -/
def execPatchCopy (c v : Nat) (s : State) : Out := hostAct s (ENG.PATCH_CTL.GO (c % 64)) (fun d => d.patchCtlWrite (c % 64) (setBit (setBits v 2 1 1) 0))

/-- PATCH_REPAIR. -/
def execPatchRepair (c v : Nat) (s : State) : Out := hostAct s (ENG.PATCH_CTL.GO (c % 64)) (fun d => d.patchCtlWrite (c % 64) (setBit (setBits v 2 1 2) 0))

-- Segments (R233).

/-- Device address of word `i` of a segment at offset `src` of the cluster's half. -/
def segA (c src i : Nat) : Nat := hbmA (c / 32) (src + 24 * i)

/-- The microwords of a segment. -/
def Dev.segWords (d : Dev) (c src n : Nat) : List Nat := (List.range n).map (fun i => d.rd 20 (segA c src i))

/-- Whether a word of a segment has a non-zero byte 20 to 23. -/
def Dev.segBad (d : Dev) (c src n : Nat) : Bool := (List.range n).any (fun i => d.rd 4 (segA c src i + 20) != 0)

/-- Whether a segment fails its CRC, or a word of it cannot be read. -/
def Dev.segCrcBad (d : Dev) (c src n crc : Nat) : Bool :=
  fcsOf (d.rdBytes (segA c src 0) (24 * n)) != crc || (List.range (3 * n)).any (fun i => d.badAt (segA c src 0 + 8 * i) == 2)

/-- Whether a control-store word is recorded as lasting. -/
def Dev.lastingWord (d : Dev) (c x a : Nat) : Bool := d.flt.lastingWords.contains (ucodeLoc c x a)

/-- Writes microwords to bank `x` from address `a` on, reading each back; the words of `stuck` fail and end it. -/
def Dev.patchWords (d : Dev) (c x a : Nat) (stuck : List Nat) : List Nat → Nat × Dev
  | [] => (0, d)
  | w :: ws =>
    let d := d.ucodeWrite c x a w
    if stuck.contains a then (6, (d.lasting 5 (ucodeLoc c x a) 1 2).1.ucodeLasting c x a)
    else d.patchWords c x (a + 1) stuck ws

/-- Copies the first `n` words of bank 1 − `x` into bank `x`; the device computes their parity bits, as whenever it writes a word (R211). Words of which nothing is listed hold the reset word in both banks. -/
def Dev.copyBank (d : Dev) (c x n : Nat) : Dev :=
  let a := ucodeA c (1 - x) 0
  let b := ucodeA c x 0
  let ws := (d.mem.filter (fun e => Nat.ble a e.1 && Nat.blt e.1 (a + 32 * n))).map (fun e => (e.1 - a) / 32)
  let d := { d.clearRange b (32 * n) with bad := clearBad d.bad b (32 * n) }
  ws.eraseDups.foldl (fun (d : Dev) i => d.ucodeWrite c x i (d.ucodeWord c (1 - x) i)) d

/-- COPY: the whole active bank goes to the staged bank. -/
def patchCopyEff (d : Dev) (c x : Nat) (stuck : List Nat) : Nat × Dev :=
  let m := stuck.foldl min 8192
  if (List.range 8192).any (fun a => d.lastingWord c x a) then (6, d)
  else if m = 8192 then (0, d.copyBank c x 8192)
  else (6, (((d.copyBank c x (m + 1)).lasting 5 (ucodeLoc c x m) 1 2).1).ucodeLasting c x m)

/-- WRITE and REPAIR: CRC, reserved bytes, refusals, then the words. -/
def patchSegEff (d : Dev) (c x mode n dst src crc : Nat) (stuck : List Nat) : Nat × Dev :=
  if d.segCrcBad c src n crc then (2, d)
  else if d.segBad c src n then (7, d)
  else if mode = 2 && (List.range n).any (fun i => ucodeFails (d.ucodeWord c x (dst + i)) == 0 && d.ucodeMark c x (dst + i) == 0) then (5, d)
  else if (List.range n).any (fun i => d.lastingWord c x (dst + i)) then (6, d)
  else d.patchWords c x dst stuck (d.segWords c src n)

/-- A patch command finishes. -/
def patchDoneEff (c : Nat) (stuck : List Nat) (k : HostCmd) (d : Dev) : Dev :=
  let f := fun i => nthD k.data i 0
  let (st, d) := if k.status != 0 then (k.status, d)
    else if f 0 = 1 then patchCopyEff d c k.at_ stuck
    else patchSegEff d c k.at_ (f 0) (f 1) (f 2) (f 3) (f 4) stuck
  { (d.set (ENG.PATCH_CTL.STATUS c) st).set (ENG.PATCH_CTL.DONE c) 1 with eng.patch := sset d.eng.patch c none none }

/-- Whether a patch command waits for the repair of a row that its segment lies over (R403). -/
def Dev.patchWaits (d : Dev) (c : Nat) (k : HostCmd) : Bool :=
  k.status == 0 && nthD k.data 0 0 != 1 && d.areaWaits (segA c (nthD k.data 3 0) 0) (24 * nthD k.data 1 0)

/-- PATCH_DONE in cluster `c`; `ups` are upsets met in the segment, `stuck` the addresses whose read-back fails. -/
def execPatchDone (c : Nat) (ups : List (Nat × Nat)) (stuck : List Nat) (s : State) : Out :=
  let c := c % 64
  act s (fun d => d.clusterOn c && (sget d.eng.patch c none).any (fun k => !d.patchWaits c k)) (fun d =>
    match sget d.eng.patch c none with
    | some k => patchDoneEff c stuck k (d.upset ups)
    | none => d)

end Sys2Proof.Machine
end

