-- ==== Sys2Proof/Machine/Tmu.lean ====
section
/-! DEFINITION. The time unit: the counter, slews and steps, the reference, captures, 1PPS, transmit stamps and buoys (spec/13 R316 to R337). -/

namespace Sys2Proof.Machine

open Sys2Proof

/-- One second of the counter in 2^-32 ns. -/
def secU : Nat := 1000000000 * 2 ^ 32

/-- Loads the counter with a time in 2^-32 ns; seconds wrap at 2^48. -/
def Dev.setNow (d : Dev) (t : Nat) : Dev :=
  { d with tmu.sec := t / secU % 2 ^ 48, tmu.ns := t / 2 ^ 32 % 1000000000, tmu.frac := t % 2 ^ 32 }

/-- What a slew of remainder `r` adds to one tick, in 2^-16 ns (R317). -/
def slewStep (r : Int) : Int := if r < 0 then (if r < -256 then -256 else r) else (if 256 < r then 256 else r)

/-- One tick of the counter (R316, R317). -/
def Dev.timeTick (d : Dev) : Dev :=
  if !d.is TMU.CTL.RUN then d
  else
    let a := slewStep d.tmu.slewRem
    let t := ((d.now + d.get TMU.INCR.INCR : Nat) : Int) + a * 65536
    let d := d.setNow t.toNat
    { d with tmu.slewRem := d.tmu.slewRem - a, tmu.lastAdv := ((d.get TMU.INCR.INCR : Int) + a * 65536).toNat }

-- Steps and slews (R317, R318, R330, R334).

/-- Whether a start now, at phase `ph`, puts the first bit at the reference plane more than 2 ns after the effective time. -/
def Dev.tooLate (d : Dev) (p ph : Nat) (k : Pkt) : Bool := decide (d.effT k + 2 * 2 ^ 32 < d.txTime p ph)

/-- A released buoy whose effective time lies more than 2 µs ahead returns to its queue head (R334); one that was late and has its time before it again is late no more. -/
def Dev.unstageFar (d : Dev) : Dev :=
  d.tmu.buoys.foldl (fun (d : Dev) b =>
    let far := fun (e : QEnt) => decide ((d.now : Int) + 2000 * 2 ^ 32 < d.effT e.pkt)
    let again := fun (e : QEnt) => if far e || !d.tooLate b.1 0 e.pkt then { e with pkt := { e.pkt with late := false } } else e
    ({ d with tmu.buoys := sset d.tmu.buoys b.1 ((sget d.tmu.buoys b.1 []).map again) [] } : Dev).unstage b.1 far) d

/-- A write of TMU.STEP_CTL (R318). -/
def Dev.stepCtlWrite (d : Dev) (v : Nat) : Dev :=
  let d := d.set TMU.STEP_CTL.OP (v % 4)
  let ns := d.get TMU.STEP_NS.NS
  if !bit v 2 || d.is TMU.STAT.STEP_BUSY || Nat.ble 1000000000 ns || v % 4 == 3 then d
  else { d.set TMU.STAT.STEP_BUSY 1 with
    tmu.stepArm := some (v % 4, d.get TMU.STEP_SEC.SEC * secU + ns * 2 ^ 32 + d.get TMU.STEP_NS.FRAC) }

/-- TIME_STEP_GO: a write of TMU.STEP_CTL with GO. -/
def execTimeStepGo (v : Nat) (s : State) : Out := hostAct s TMU.STEP_CTL.OP (fun d => d.stepCtlWrite (setBit v 2))

/-- The step itself. The counter passes no time on its way to the new value, but that value (R323). -/
def timeStepEff (op val : Nat) (d : Dev) : Dev :=
  let old := d.now
  let m := 2 ^ 48 * secU
  let new := if op = 0 then val else if op = 1 then (old + val) % m else (old + m - val % m) % m
  let diff : Int := if op = 0 then (val : Int) - old else if op = 1 then (val : Int) else -(val : Int)
  let d := d.setNow new
  let d := (d.set TMU.STEP_SUM.SUM (toWord 64 (sgn 64 (d.get TMU.STEP_SUM.SUM) + Int.tdiv diff (2 ^ 30)))).set TMU.STAT.STEPS (d.get TMU.STAT.STEPS + 1)
  let d := if d.tmu.slewRem = 0 then d else d.set TMU.STAT.ADJ_CANCELLED 1
  let d := (d.set TMU.STAT.ADJ_BUSY 0).set TMU.STAT.STEP_BUSY 0
  let before := if d.tmu.stepAt = d.tick + 1 then d.tmu.stepOld else old
  ({ d with tmu.slewRem := 0, tmu.slewOn := false, tmu.stepArm := none, tmu.stepAt := d.tick + 1, tmu.stepOld := before, tmu.lastAdv := 1 }.raise EV_TMU_STEP).unstageFar

/-- TIME_STEP: the pending step is made. -/
def execTimeStep (s : State) : Out :=
  act s (fun d => d.tmu.stepArm.isSome) (fun d => match d.tmu.stepArm with
    | some (op, v) => timeStepEff op v d
    | none => d)

/-- A write of TMU.ADJ (R317). -/
def Dev.adjWrite (d : Dev) (v : Nat) : Dev :=
  let r := sgn 40 v
  { (d.set TMU.ADJ.ADJ v).set TMU.STAT.ADJ_BUSY (b2n (r != 0)) with tmu.slewRem := r, tmu.slewOn := r != 0 }

/-- ADJ_WRITE. -/
def execAdjWrite (v : Nat) (s : State) : Out := hostAct s TMU.ADJ.ADJ (fun d => d.adjWrite v)

/-- SLEW_COMPLETE: the remainder has reached 0. -/
def execSlewComplete (s : State) : Out :=
  act s (fun d => d.tmu.slewOn && d.tmu.slewRem == 0) (fun d => { d.set TMU.STAT.ADJ_BUSY 0 with tmu.slewOn := false })

/-- A write of TMU.INCR; values outside the accepted range are ignored (R316). -/
def Dev.incrWrite (d : Dev) (v : Nat) : Dev :=
  let v := v % 2 ^ 40
  if Nat.ble 0xF0000000 v && Nat.ble v 0x110000000 then d.set TMU.INCR.INCR v else d

/-- INCR_WRITE. -/
def execIncrWrite (v : Nat) (s : State) : Out := hostAct s TMU.INCR.INCR (fun d => d.incrWrite v)

/-- After a write of TMU.CTL: PPS_OUT is low while it is disabled; a change of mode can move effective launch times (R323, R330). -/
def Dev.tmuCtlDone (d : Dev) : Dev :=
  let d := if d.is TMU.CTL.PPS_OUT_EN then d else { d with tmu.ppsOut := false }
  d.unstageFar

/-- After a write of TMU.REF_CFG: LOCKED and HOLDOVER read 0 while SRC is 0 (R320). -/
def Dev.refCfgDone (d : Dev) : Dev :=
  if d.is TMU.REF_CFG.SRC then d else (d.set TMU.STAT.LOCKED 0).set TMU.STAT.HOLDOVER 0

/-- Latches the counter of this tick into the four TOD registers (R319). -/
def Dev.todLatch (d : Dev) : Dev :=
  (((d.set TMU.TOD_NS.NS d.tmu.ns).set TMU.TOD_FRAC.FRAC d.tmu.frac).set TMU.TOD_SEC_LO.SEC d.tmu.sec).set TMU.TOD_SEC_HI.SEC (d.tmu.sec / 2 ^ 32)

/-- TOD_READ: a host read of TMU.TOD_NS. -/
def execTodRead (s : State) : Out := hostReadAct s TMU.TOD_NS.NS 4 (fun d => d.todLatch.hostRead [d.tmu.ns])

/-- REF_LOSS (R320): also of a reference that has not been there since SRC became 1, where the first microsecond without an edge is its loss. In holdover there is no reference left to lose. -/
def execRefLoss (s : State) : Out :=
  act s (fun d => d.is TMU.REF_CFG.SRC && !d.is TMU.STAT.HOLDOVER) (fun d =>
    (((d.set TMU.STAT.LOCKED 0).set TMU.STAT.HOLDOVER 1).raise EV_TMU_REF_LOSS).cntTmu 10)

/-- REF_LOCK (R320). -/
def execRefLock (s : State) : Out :=
  act s (fun d => d.is TMU.REF_CFG.SRC && !d.is TMU.STAT.LOCKED) (fun d =>
    ((d.set TMU.STAT.HOLDOVER 0).set TMU.STAT.LOCKED 1).raise EV_TMU_REF_LOCK)

-- Captures and 1PPS (R322, R323).

/-- Whether capture input `k` is enabled. -/
def Dev.capEn (d : Dev) (k : Nat) : Bool := if k = 0 then d.is TMU.CTL.PPS_IN_EN else bit (d.get TMU.CTL.CAP_EN) (k - 1)

/-- A capture at phase `ph` of the tick. -/
def captureEff (k ph : Nat) (d : Dev) : Dev :=
  let t := if d.is TMU.CTL.RUN then ((d.stampRaw ph : Int) - sgn 16 (d.get (TMU.CAP_ADJ.ADJ k)) * 2 ^ 30).toNat else 0
  let d := if d.is (TMU.CAP_SEC.VALID k) then d.set (TMU.CAP_SEC.OVERRUN k) 1 else d
  let d := (((d.set (TMU.CAP_SEC.SEC k) (stampSec t)).set (TMU.CAP_NS.NS k) (stampNs t)).set (TMU.CAP_NS.FRAC k) (stampFrac t)).set (TMU.CAP_SEC.VALID k) 1
  d.raise (if k = 0 then EV_TMU_PPS_IN else EV_TMU_CAPTURE)

/-- CAPTURE_EDGE: a rising edge on input `k` (0 PPS_IN, 1 and 2 TS_CAP), at phase `ph` of the tick. An edge within 100 ns of the one before is ignored. -/
def execCaptureEdge (k ph : Nat) (s : State) : Out :=
  let k := k % 3
  act s always (fun d =>
    let last := sget d.tmu.capAt k 0
    let near := last != 0 && Nat.ble (d.tick + 1) (last + 100)
    let d := { d with tmu.capAt := sset d.tmu.capAt k (d.tick + 1) 0 }
    if near || !d.capEn k then d else captureEff k ph d)

/-- Whether the last advance of the counter has passed OFS, brought forward by ADJ (R323). -/
def Dev.passesOfs (d : Dev) : Bool :=
  let o := ((d.get TMU.PPS_CFG.OFS * 2 ^ 32 : Nat) : Int) - sgn 16 (d.get TMU.PPS_CFG.ADJ) * 2 ^ 30
  decide ((((d.tmu.ns * 2 ^ 32 + d.tmu.frac : Nat) : Int) - o) % (secU : Int) < (d.tmu.lastAdv : Int))

/-- PPS_OUT_RISE. -/
def execPpsOutRise (s : State) : Out :=
  act s (fun d => d.is TMU.CTL.RUN && d.is TMU.CTL.PPS_OUT_EN && !d.tmu.ppsOut && d.passesOfs &&
      (d.tmu.ppsRiseAt == 0 || Nat.ble (d.tmu.ppsRiseAt + 500000000) (d.tick + 1)))
    (fun d => { d with tmu.ppsOut := true, tmu.ppsRiseAt := d.tick + 1 })

/-- PPS_OUT_FALL: WIDTH µs after the rise. -/
def execPpsOutFall (s : State) : Out :=
  act s (fun d => d.tmu.ppsOut && Nat.ble (d.tmu.ppsRiseAt + d.get TMU.PPS_CFG.WIDTH * 1000) (d.tick + 1))
    (fun d => { d with tmu.ppsOut := false })

-- Transmit stamps (R327).

/-- The head of a port's time-stamp FIFO as TXTS words 0 to 2 show it. -/
def Dev.txtsWord (d : Dev) (p w : Nat) : Nat :=
  match sget d.tmu.txts p [] with
  | [] => 0
  | e :: _ => if w = 0 then e.w0 else if w = 1 then e.w1 else e.w2

/-- A read of word 2 pops the head. -/
def Dev.txtsPop (d : Dev) (p : Nat) : Dev := { d with tmu.txts := sset d.tmu.txts p ((sget d.tmu.txts p []).drop 1) [] }

/-- TXTS_POP: a host read of word 2 of TMU.TXTS_p. -/
def execTxtsPop (p : Nat) (s : State) : Out :=
  hostReadAct s (TMU.TXTS.W (p % 257) 2) 8 (fun d => (d.txtsPop (p % 257)).hostRead [d.txtsWord (p % 257) 2])

-- Buoys (R331 to R334).

/-- Spacing of start opportunities of a port in 2^-32 ns, rounded down: 64 bit times at its rate, 1.28 ns at 50 Gb/s and below (R332). -/
def Dev.spacing (d : Dev) (p : Nat) : Nat := 64 * 2 ^ 32 / max 50 (d.portGbps p)

/-- The buoy's descriptor (Table 13.2) in TMU.LAST_LATE. -/
def Dev.lastLate (d : Dev) (p q : Nat) (k : Pkt) : Dev :=
  let t := k.launch.getD 0
  let w1 := stampNs t + stampFrac t / 2 ^ 30 * 2 ^ 30 + p * 2 ^ 32 + q * 2 ^ 41 + k.bsrc % 4 * 2 ^ 45 + 2 ^ 47
  (((d.set (TMU.LAST_LATE.W 0) (stampSec t % 2 ^ 48)).set (TMU.LAST_LATE.W 1) w1).set (TMU.LAST_LATE.W 2) k.sum0).raiseMs EV_TMU_BUOY_LATE

/-- Puts a buoy of the launch stage back at the head of its queue. -/
def Dev.unstageOne (d : Dev) (p : Nat) (e : QEnt) : Dev := d.unstage p (fun x => decide (x = e))

/-- Moves the head of queue `q` to the launch stage; its counts stay until it is sent. -/
def Dev.stage (d : Dev) (p q : Nat) (f : Pkt → Pkt) : Dev :=
  let x := d.queue p q
  match x.ents with
  | [] => d
  | e :: es =>
    let d := d.setQueue p q { x with ents := es }
    { d with tmu.buoys := sset d.tmu.buoys p (sget d.tmu.buoys p [] ++ [{ e with q := q, pkt := f e.pkt }]) [] }

/-- A late buoy at the head of its queue: sent late by LATE_POL 1, discarded by every other value (R333). -/
def Dev.lateHead (d : Dev) (p q : Nat) (k : Pkt) : Dev :=
  let d := d.lastLate p q k
  if d.qLaunch p q k.epoch % 4 = 1 then d.stage p q (fun k => { k with late := true })
  else d.dropHead p q (fun d => d.cntTmu 2)

/-- The head buoy of a queue that may be released: its link is up, its queue is not paused, its bytes are on the die, and it is not marked bad, which the switch core discards (R66). -/
def Dev.buoyHead (d : Dev) (p q : Nat) : Option QEnt :=
  match (d.queue p q).ents with
  | [] => none
  | e :: _ =>
    if e.pkt.launch.isSome && (!e.spilled || e.readAhead) && !d.queuePaused p q && d.linkUp p && d.portExists p && !e.flush && !e.pkt.bad && !e.pkt.lateBad &&
      !((sget d.tmu.buoys p []).any (fun b => b.q == q)) then some e else none

/-- BUOY_RELEASE of the head of queue `q` of port `p`, at effective T − 2 µs. -/
def execBuoyRelease (p q : Nat) (s : State) : Out :=
  act s (fun d => Nat.ble p 264 && Nat.blt q 16 && d.gateOpen && d.is TMU.CTL.RUN && (match d.buoyHead p q with
      | some e => decide (d.effT e.pkt ≤ (d.now : Int) + 2000 * 2 ^ 32)
      | none => false))
    (fun d => match d.buoyHead p q with
      | some e => if d.tooLate p 0 e.pkt then d.lateHead p q e.pkt else d.stage p q (fun k => { k with late := false })
      | none => d)

/-- Whether buoy `a` is launched before buoy `b`: earlier effective time, then lower queue. -/
def Dev.buoyBefore (d : Dev) (a b : QEnt) : Bool :=
  decide (d.effT a.pkt < d.effT b.pkt) || (decide (d.effT a.pkt = d.effT b.pkt) && Nat.ble a.q b.q)

/-- The first of the buoys of a list in the order of launch. -/
def Dev.firstBuoy (d : Dev) (l : List QEnt) : Option QEnt :=
  l.foldl (fun b e => match b with
    | none => some e
    | some x => if d.buoyBefore x e then some x else some e) none

/-- The buoy that a port's launch stage starts next: a late one waits where it would overlap the start of one that is not (R333). -/
def Dev.nextBuoy (d : Dev) (p : Nat) : Option QEnt :=
  let l := sget d.tmu.buoys p []
  match d.firstBuoy l with
  | none => none
  | some e =>
    let rest := l.filter (fun b => !b.pkt.late)
    if e.pkt.late && rest.any (fun b => decide (d.buoyStart p b.pkt < (d.now : Int) + d.wireTime p e.pkt.frameLen)) then d.firstBuoy rest else some e

/-- The buoy starts now. -/
def Dev.startBuoy (d : Dev) (p ph : Nat) (e : QEnt) : Dev :=
  let d := d.unstageOne p e
  match d.sendHead p e.q with
  | none => d
  | some (x, d) =>
    let d := (d.cntQ p e.q 2 1).shapeSpend p x.pkt.frameLen
    { d with mac.tx := sset d.mac.tx p (some { x with start := some (d.txStamp p ph) }) none }

/-- A buoy at the launch stage meets a start opportunity at phase `ph`: it starts, or is found late. -/
def launchEff (p ph : Nat) (e : QEnt) (d : Dev) : Dev :=
  if e.pkt.late || !d.tooLate p ph e.pkt then d.startBuoy p ph e
  else
    let d := (d.unstageOne p e).lastLate p e.q e.pkt
    if d.qLaunch p e.q e.pkt.epoch % 4 = 1 then d.stage p e.q (fun k => { k with late := true })
    else d.dropHead p e.q (fun d => d.cntTmu 2)

/-- Whether the start opportunity at phase `ph` is the nearest to the buoy's time, or a later one. -/
def Dev.startsNow (d : Dev) (p ph : Nat) (e : QEnt) : Bool :=
  e.pkt.late || decide (d.effT e.pkt ≤ d.txTime p ph + (d.spacing p / 2 + 2 ^ 30 : Nat))

/-- BUOY_LAUNCH on port `p`, at phase `ph` of the tick. The shaper holds a buoy too (R299, log entry 132). -/
def execBuoyLaunch (p ph : Nat) (s : State) : Out :=
  act s (fun d => Nat.ble p 264 && d.gateOpen && d.is TMU.CTL.RUN && d.linkUp p && d.is (SWC.PORT_CFG.EN p) && d.is (MAC.PORT_CFG.TX_EN p) &&
      (sget d.mac.tx p none).isNone && (match d.nextBuoy p with
        | some e => d.startsNow p ph e && d.shapeOk p e.pkt.frameLen
        | none => false))
    (fun d => match d.nextBuoy p with
      | some e => launchEff p ph e d
      | none => d)

end Sys2Proof.Machine
end

