-- ==== Sys2Proof/Machine/Store.lean ====
section
/-! DEFINITION. Lower-layer retries, the fault tracker's windows, the hold-up check and the persistent store (spec/17 R399 to R416). -/

namespace Sys2Proof.Machine

open Sys2Proof

-- Die-to-die link (R310, R407).

def Dev.d2dTry (d : Dev) (g : Nat) : Try := sget d.flt.d2dTry g {}
def Dev.hbmTry (d : Dev) (k : Nat) : Try := sget d.flt.hbmTry k {}

/-- The tick at which a retry succeeds `dt` ns from now; 0 where it does not. -/
def endTick (d : Dev) (dt : Nat) : Nat := if dt = 0 then 0 else d.tick + dt

/-- The link is down: every transaction that crosses it fails at once (Table 17.3). -/
def Dev.d2dDown (d : Dev) : Dev :=
  let d := { d.raise EV_D2D_DOWN with swc.crosses := d.swc.crosses.map (fun (c : Cross) => { c with lost := true }) }
  (d.qry.txns.filter (fun t => t.slice / 4 != t.half)).foldl (fun (d : Dev) t => benchFailEff t d) d

/-- Lane group `g` is declared failed (R310). Of the crossings that it carries the first `cut` had begun and are lost; the others move to the next working group. -/
def Dev.groupFail (d : Dev) (g cut : Nat) : Dev :=
  if bit (d.get (SWC.HALF_STAT.GROUP_FAIL 0)) g then d
  else
    let d := ((d.setBitF (SWC.HALF_STAT.GROUP_FAIL 0) g).setBitF (SWC.HALF_STAT.GROUP_FAIL 1) g).raise EV_D2D_GROUP_FAIL
    let d := { d.cntD2d 2 with flt.d2dTry := sset d.flt.d2dTry g {} {} }
    match d.laneGroup g with
    | none => d.d2dDown
    | some h =>
      let mark := fun (r : Nat × List Cross) (c : Cross) =>
        if c.laneGroup != g then (r.1, r.2 ++ [c])
        else if r.1 = 0 || !c.started then (r.1, r.2 ++ [{ c with laneGroup := h, started := false }])
        else (r.1 - 1, r.2 ++ [{ c with lost := true }])
      (({ d with swc.crosses := (d.swc.crosses.foldl mark (cut, [])).2 } : Dev).crossNext 0 h).crossNext 1 h

/-- A control flit's CRC error: the flit is replayed unless it has been replayed 16 times, or for 5 µs. A replay that succeeds does so after `dt` ns. -/
def flitErrEff (g x dt : Nat) (d : Dev) : Dev :=
  let t := d.d2dTry g
  let d := d.cntD2d 0
  let t := if t.n != 0 && t.loc == x && (t.endAt == 0 || Nat.blt d.tick t.endAt) then t else ⟨0, x, d.tick, 0⟩
  let out := Nat.ble 16 t.n || Nat.ble (t.t0 + 5000) d.tick && t.n != 0
  let d := { d with flt.d2dTry := sset d.flt.d2dTry g { t with n := if out then 17 else t.n + 1, endAt := endTick d dt } {} }
  if out then d
  else match (d.cntD2d 1).errCount 8 g 0 with
    | (d, true) => d.groupFail g 0
    | (d, false) => d

/-- D2D_FLIT_CRC_ERROR: control flit `x.1` of lane group `g`, whose replay succeeds `x.2` ns later, or not (0). -/
def execD2dFlitCrcError (g : Nat) (x : Nat × Nat) (s : State) : Out :=
  let g := g % 16
  act s (fun d => !bit (d.get (SWC.HALF_STAT.GROUP_FAIL 0)) g) (flitErrEff g x.1 x.2)

/-- D2D_GROUP_FAIL: the replays of lane group `g` are used up; `cut` of its crossings had begun. -/
def execD2dGroupFail (g cut : Nat) (s : State) : Out :=
  let g := g % 16
  act s (fun d => (d.d2dTry g).n == 17) (fun d => d.groupFail g cut)

-- HBM command retry (R407, R408).

/-- A command of stack `k` for address `a` fails a check and is retried; a retry that succeeds does so after `dt` ns. -/
def hbmRetryEff (k a dt : Nat) (d : Dev) : Dev :=
  let t := d.hbmTry k
  let t := if t.loc == a && t.on d.tick 2000 then t else ⟨0, a, d.tick, 0⟩
  if Nat.ble 8 t.n then d
  else { d.cntHbc k 0 with flt.hbmTry := sset d.flt.hbmTry k { t with n := t.n + 1, endAt := endTick d dt } {} }

/-- HBM_CMD_RETRY on stack `k` for device address `a.1`, whose retry succeeds `a.2` ns later, or not (0). -/
def execHbmCmdRetry (k : Nat) (a : Nat × Nat) (s : State) : Out :=
  let k := k % 4
  act s (fun _ => Nat.blt a.1 0x2000000000 && locStack (hbmLoc a.1) == k) (hbmRetryEff k a.1 a.2)

/-- What the lost access was. -/
def hbmLostEff (a kind x y : Nat) (old : List Byte) (d : Dev) : Dev :=
  match kind with
  | 0 => { d with mem := memSets d.mem a old }
  | 1 =>
    let c := d.ctx x
    match c.wait, c.cur with
    | .hbm, some u => if u.hbm = a then d.fault x 0x08 (u.addr % 2 ^ 32) else d
    | _, _ => d
  | 2 => if (nextRead (d.queue x y)).isSome then d.dropHead x y (fun d => d.cntQ x y 6 1) else d
  | _ => { d with bad := sset d.bad (a / 8 * 8) 3 0 }

/-- HBM_RETRY_FAIL on stack `k`: its eighth retry has failed. `kind`: 0 a write is lost, and memory keeps the bytes `old`; 1 the load of thread `x` meets poison; 2 the overflow read of queue `y` of port `x` discards the head; 3 the next read of the word meets poison. -/
def execHbmRetryFail (k kind x y : Nat) (old : List Byte) (s : State) : Out :=
  let k := k % 4
  act s (fun d => (d.hbmTry k).n == 8 && d.halfOn (k / 2)) (fun d =>
    let a := (d.hbmTry k).loc
    let d := { d.cntHbc k 1 with flt.hbmTry := sset d.flt.hbmTry k {} {} }
    let d := ((d.set (HBC.ERR_LOG.ADDR k) (Config.hbmByte a).toNat).set (HBC.ERR_LOG.VALID k) 1).raise (EV_HBC_RETRY_FAIL (k / 2))
    hbmLostEff a kind x y old d)

/-- The repair of the row at `l` is over: the writes that waited for it are made (R403). -/
def repairDoneEff (l : Nat) (d : Dev) : Dev :=
  let began := (sget d.flt.repairAt l (0, 0)).1
  let d := { d with flt.repairs := d.flt.repairs.filter (fun x => x != l), flt.repairAt := sset d.flt.repairAt l (began, d.tick) (0, 0) }
  ((d.landPosted [] d.flt.posted).cntHbc (locStack l) 4).raise (EV_HBC_ROW_RETIRED (l / 2 ^ 30 % 2))

/-- ROW_REPAIR_DONE of the row at `l` (R403). -/
def execRowRepairDone (l : Nat) (s : State) : Out :=
  act s (fun d => d.flt.repairs.contains l && d.halfOn (l / 2 ^ 30 % 2)) (repairDoneEff l)

/-- Whether a retry in progress delays a transaction (R407). -/
def Dev.retrying (d : Dev) (t : Txn) : Bool := d.hbmRetrying t.half || (t.slice / 4 != t.half && d.d2dRetrying)

/-- One tick of suspended Bench timers. -/
def Dev.suspTick (d : Dev) : Dev :=
  if d.flt.hbmTry.isEmpty && d.flt.d2dTry.isEmpty && d.flt.repairs.isEmpty then d
  else { d with qry.txns := d.qry.txns.map (fun (t : Txn) => if d.retrying t then { t with susp := t.susp + 1 } else t) }

-- The fault tracker (R399).

/-- Whether a tracker entry's window has ended. -/
def Dev.trackOver (d : Dev) (t : Track) : Bool := Nat.ble (t.t0 + d.get (GLB.FLT_CFG.WINDOW_MS t.cls) * 1000000) d.tick

/-- TRACKER_WINDOW_END of the entry for resource `loc` of class `cls`. -/
def execTrackerWindowEnd (cls loc : Nat) (s : State) : Out :=
  act s (fun d => d.flt.tracks.any (fun t => t.cls == cls && t.loc == loc && d.trackOver t)) (fun d =>
    { d with flt.tracks := d.flt.tracks.filter (fun t => !(t.cls == cls && t.loc == loc)) })

-- The hold-up check (R414).

/-- Energy available for a sample, in µJ. -/
def Dev.huAvail (d : Dev) (sense : Nat) : Nat :=
  let v := sense * d.get GLB.HU_CFG.DIV / 8
  let m := d.get GLB.HU_CFG.VMIN_MV
  if Nat.blt m v then d.get GLB.HU_CFG.CAP_UF * (v * v - m * m) / 2000000 else 0

/-- What the converter reads of the voltage on HOLDUP_SENSE: within 1 % and 5 mV of it, a free value; 1,200 mV above its range (R452, log entry 131). -/
def Dev.senseRead (d : Dev) : Nat × Dev :=
  let mv := d.pin.sense
  if Nat.blt 1200 mv then (1200, d)
  else
    let (v, d) := d.fresh
    let e := mv / 100 + 5
    (min 1200 (mv + v % (2 * e + 1) - e), d)

/-- The check before a burst of energy `cost`. -/
def Dev.holdUp (d : Dev) (cost : Nat) : Bool × Dev :=
  let mode := d.get GLB.HU_CFG.MODE
  if mode = 2 then (!d.flt.pwrFail, d)
  else
    let (sense, d) := d.senseRead
    let avail := d.huAvail sense
    let d := (d.set NVS.HU_STAT.SENSE_MV sense).set NVS.HU_STAT.AVAIL_UJ (min avail (2 ^ 32 - 1))
    (mode == 1 && Nat.ble (cost * (16 + d.get GLB.HU_CFG.MARGIN) / 16) avail && !d.flt.pwrFail, d)

/-- The voltage that the board puts on HOLDUP_SENSE. -/
def Dev.sense (d : Dev) (mv : Nat) : Dev := { d with pin.sense := mv }

/-- The check before a burst to the persistent store: a burst that may not proceed is deferred and counted. -/
def Dev.psCheck (d : Dev) : Bool × Dev :=
  match d.holdUp (d.get GLB.HU_COST.E_MRAM_UJ) with
  | (true, d) => (true, { d with flt.psBurstOk := true })
  | (false, d) =>
    let d := d.cntNvs 4
    (false, if d.flt.psBurstOk then { d.raise EV_NVS_PS_DEFER with flt.psBurstOk := false } else d)

-- The map queue (R404, R405, R412).

/-- Clears `n` bytes of the persistent store from offset `a` on; the words carry no error afterwards. -/
def Dev.psWipe (d : Dev) (a n : Nat) : Dev := { d.clearRange (psA a) n with bad := clearBad d.bad (psA a) n }

/-- What is left to clear of the map after the 512 words at offset `a` (R412). -/
def wipeRest (m : MapW) (a : Nat) (rest : List MapW) : List MapW :=
  if Nat.blt (a + 0x1000) 0x101000 then { m with slot := some (a + 0x1000), deferAt := 0 } :: rest else rest

/-- The burst at the head of the map queue is made: a map entry, a header word, or 512 words of the map cleared (Table 17.6). -/
def mapBurstEff (m : MapW) (rest : List MapW) (d : Dev) : Dev :=
  let d := { d with flt.mapQ := rest }
  match m.slot with
  | some a => if Nat.blt a 0x1000 then d.wr64 (psA a) m.w0 else { d.psWipe a 0x1000 with flt.mapQ := wipeRest m a rest }
  | none => match d.mapFree 65536 0 with
    | some i => (d.wr64 (mapA i 0) m.w0).wr64 (mapA i 1) m.w1
    | none => (d.cntNvs 3).raise EV_FLT_MAP_LOST

/-- Tries the burst at the head of the map queue. -/
def mapTryEff (d : Dev) : Dev :=
  match d.flt.mapQ with
  | [] => d
  | m :: rest => match d.psCheck with
    | (true, d) => mapBurstEff m rest d
    | (false, d) => { d with flt.mapQ := { m with deferAt := d.tick + 1 } :: rest }

/-- MAP_WRITE, with `mv` at HOLDUP_SENSE. -/
def execMapWrite (mv : Nat) (s : State) : Out :=
  act s (fun d => match d.flt.mapQ with
      | m :: _ => m.deferAt == 0
      | [] => false) (fun d => mapTryEff (d.sense mv))

-- Host commands (R413).

/-- Byte offset of the word that PS_ADDR names. -/
def Dev.psOff (d : Dev) : Nat := d.get NVS.PS_ADDR.WORD / 8 * 8

/-- A write burst of the host passes the check, or waits. -/
def Dev.psBurst (d : Dev) (c : HostCmd) : Dev :=
  match d.psCheck with
  | (true, d) => { d with flt.psCmd := some { c with waiting := false } }
  | (false, d) => { d with flt.psCmd := some { c with waiting := true, at_ := d.tick } }

/-- Starts a persistent-store command. `data` holds the address and the value of the word that it will write, or the value read. -/
def psStart (op : Nat) (d : Dev) : Dev :=
  let o := d.psOff
  let done := fun (st : Nat) (d : Dev) => { d with flt.psCmd := some { status := st, addr := op } }
  match op with
  | 0 => if d.badAt (psA o) = 2 then done 3 d
    else { d.mend (psA o) with flt.psCmd := some { addr := 0, data := [o, d.rd64 (psA o)] } }
  | 1 => if Nat.blt o 0x800000 then done 1 d else d.psBurst { addr := 1, data := [o, d.get NVS.PS_DATA.DATA] }
  | 2 =>
    let i := d.get NVS.PS_ADDR.WORD % 65536
    if d.badAt (mapA i 1) = 2 then done 3 d
    else if d.mapValid i then d.psBurst { addr := 2, data := [0x1000 + 16 * i + 8, d.rd64 (mapA i 1) % 2 ^ 63] } else done 5 d
  | _ => done 4 d

/-- A write of NVS.PS_CTL: GO while DONE is 0 is ignored. -/
def Dev.psCtlWrite (d : Dev) (v : Nat) : Dev :=
  if !bit v 0 then d.set NVS.PS_CTL.OP (bits v 2 1)
  else if !d.is NVS.PS_CTL.DONE then d
  else psStart (bits v 2 1) ((d.set NVS.PS_CTL.OP (bits v 2 1)).set NVS.PS_CTL.DONE 0)

/-- PS_READ: a write of NVS.PS_CTL with GO and OP 0. -/
def execPsRead (v : Nat) (ups : List (Nat × Nat)) (s : State) : Out :=
  hostAct s NVS.PS_CTL.GO (fun d => (d.upset ups).psCtlWrite (setBit (setBits v 2 1 0) 0))

/-- PS_WRITE, with `mv` at HOLDUP_SENSE. -/
def execPsWrite (v mv : Nat) (s : State) : Out := hostAct s NVS.PS_CTL.GO (fun d => (d.sense mv).psCtlWrite (setBit (setBits v 2 1 1) 0))

/-- UNRETIRE, with `mv` at HOLDUP_SENSE. -/
def execUnretire (v mv : Nat) (s : State) : Out := hostAct s NVS.PS_CTL.GO (fun d => (d.sense mv).psCtlWrite (setBit (setBits v 2 1 2) 0))

/-- A persistent-store command finishes. -/
def psDoneEff (c : HostCmd) (d : Dev) : Dev :=
  let d := if c.status != 0 then d
    else if c.addr = 0 then d.set NVS.PS_DATA.DATA (nthD c.data 1 0)
    else d.wr64 (psA (nthD c.data 0 0)) (nthD c.data 1 0)
  { (d.set NVS.PS_CTL.STATUS c.status).set NVS.PS_CTL.DONE 1 with flt.psCmd := none }

/-- PS_CMD_DONE. -/
def execPsCmdDone (s : State) : Out :=
  act s (fun d => match d.flt.psCmd with
      | some c => !c.waiting
      | none => false) (fun d => match d.flt.psCmd with
      | some c => psDoneEff c d
      | none => d)

/-- PS_DEFER_RETRY, with `mv` at HOLDUP_SENSE: the host's burst, or the one at the head of the map queue, 1 ms after its deferral. -/
def execPsDeferRetry (host : Bool) (mv : Nat) (s : State) : Out :=
  act s (fun d =>
      if host then (match d.flt.psCmd with
        | some c => c.waiting && Nat.ble (c.at_ + 1000000) d.tick
        | none => false)
      else match d.flt.mapQ with
        | m :: _ => m.deferAt != 0 && Nat.ble (m.deferAt + 1000000) (d.tick + 1)
        | [] => false)
    (fun d =>
      let d := d.sense mv
      if host then (match d.flt.psCmd with
        | some c => d.psBurst c
        | none => d)
      else mapTryEff d)

-- Power failure (R415).

/-- The burst under way at the head of the map queue stops: of a map entry word 0 is written, of the words to be cleared some. -/
def Dev.mapCut (d : Dev) : Dev :=
  match d.flt.mapQ, d.mapFree 65536 0 with
  | { slot := none, w0 := w, deferAt := 0, .. } :: _, some i => d.wr64 (mapA i 0) w
  | { slot := some a, deferAt := 0, .. } :: _, _ =>
    if Nat.blt a 0x1000 then d
    else
      let (v, d) := d.fresh
      d.psWipe a (v % 512 * 8)
  | _, _ => d

/-- What PWR_FAIL_N does to the persistent store: a host write or UNRETIRE burst that has not written its word is cut short; with `cut`, so is the burst at the head of the map queue. -/
def psCutEff (cut : Bool) (d : Dev) : Dev :=
  let d := match d.flt.psCmd with
    | some c => if c.addr != 0 && c.status == 0 && !c.waiting then { d.cntNvs 5 with flt.psCmd := some { c with status := 2 } } else d
    | none => d
  if !cut || d.flt.mapQ.isEmpty then d
  else match d.psCheck with
    | (true, d) => d.mapCut.cntNvs 5
    | (false, d) => d

end Sys2Proof.Machine
end

