-- ==== Sys2Proof/Machine/Power.lean ====
section
/-! DEFINITION. Power domains, the park handshake, wakes, AVS, the pace governor and the thermal response (spec/16 R382 to R396, spec/03 R76). -/

namespace Sys2Proof.Machine

open Sys2Proof

-- Domain states (Table 16.6). Kinds: 0 cluster, 1 octet, 2 slice, 3 half, 4 device.

/-- The bandwidth windows in progress of a domain's ports count nothing: those of a parked octet's front ports, of a parked slice's recirculation port, and of the management port, whose window slice 0 keeps (R428, log entry 72). -/
def Dev.bwDrop (d : Dev) (kind i : Nat) : Dev :=
  let ks := if kind = 1 then (List.range 8).map (fun k => 34 * (i / 4) + 8 * (i % 4) + k) else if kind = 2 then (34 * i + 33) :: (if i = 0 then [32] else []) else []
  { d with ctr.bwRx := ks.foldl (fun m k => sset m k 0 0) d.ctr.bwRx, ctr.bwTx := ks.foldl (fun m k => sset m k 0 0) d.ctr.bwTx }

/-- Writes a domain's state: 0 ON, 1 PARKED, 2 OFF. -/
def Dev.setDom (d : Dev) (kind i st : Nat) : Dev :=
  let d := if st = 0 then d else d.bwDrop kind i
  let put := fun (f : Fld) (b : Nat) => d.set f (if st = 0 then clrBit (d.get f) b else setBit (d.get f) b)
  match kind with
  | 0 => put PWR.CL_STATE.PARKED i
  | 1 => d.set PWR.OCT_STATE.ST (setBits (d.get PWR.OCT_STATE.ST) (2 * i + 1) (2 * i) st)
  | 2 => put PWR.SL_STATE.SLICE i
  | 3 => put PWR.SL_STATE.HALF i
  | _ => d.set PWR.SL_STATE.STANDBY st

/-- Number of domains of a kind. -/
def domCount (kind : Nat) : Nat := match kind with
  | 0 => 64 | 1 => 32 | 2 => 8 | 3 => 2 | _ => 1

/-- A domain and those above it. -/
def domPath (kind i : Nat) : List (Nat × Nat) :=
  match kind with
  | 0 => [(0, i), (2, i / 8), (3, i / 32), (4, 0)]
  | 1 => [(1, i), (2, i / 4), (3, i / 16), (4, 0)]
  | 2 => [(2, i), (3, i / 4), (4, 0)]
  | 3 => [(3, i), (4, 0)]
  | _ => [(4, 0)]

/-- The clusters of a slice. -/
def sliceClusters (s : Nat) : List (Nat × Nat) := (List.range 8).map (fun j => (0, 8 * s + j))

/-- Domains that a wake of (kind, i) reaches: it, those above it, parked or on their way there (R388), and the clusters of a woken slice (R389). -/
def Dev.wakeSet (d : Dev) (kind i : Nat) : List (Nat × Nat) :=
  let up := (domPath kind i).filter (fun x => d.domOff x.1 x.2 || d.entering x.1 x.2)
  up ++ (up.filter (fun x => x.1 == 2)).flatMap (fun x => (sliceClusters x.2).filter (fun y => d.domOff 0 y.2 && y != (kind, i)))

/-- Records a wake (R390). Sources: 0 host, 1 energy, 2 wake frame. -/
def Dev.wakeRec (d : Dev) (src oct : Nat) : Dev :=
  (((d.set PWR.WAKE_STAT.VALID 1).set PWR.WAKE_STAT.SOURCE src).set PWR.WAKE_STAT.OCTET oct).raise EV_PWR_WAKE

def Dev.wakeAll (d : Dev) (l : List (Nat × Nat)) : Dev := l.foldl (fun d x => d.wake x.1 x.2) d

-- The handshake (Table 16.4).

/-- A block's answer. -/
inductive Answer where
  | grant | delay
  | refuse (reason : Nat)
deriving DecidableEq, Repr

/-- A context that is occupied, other than an idle keeper with an empty queue. -/
def Dev.occupied (d : Dev) (n : Nat) : Bool :=
  let x := d.ctx n
  x.st != .free && !(d.isKeeper n && x.st == .keeperIdle && (sget d.eng.kq (n / 8) []).isEmpty)

/-- Block `b` of cluster `c`: 0 its dispatcher, which also holds the released packets that wait for their turn (R188), then its engines. -/
def Dev.askCluster (d : Dev) (c b : Nat) : Answer :=
  if b = 0 then (if (sget d.eng.dq c []).isEmpty && (d.ordOf c).isEmpty then .grant else .delay)
  else
    let ns := (List.range 8).map (fun k => 64 * c + 8 * (b - 1) + k)
    if ns.any (fun n => (d.ctx n).st == .halted) then .refuse 3
    else if ns.any (fun n => d.occupied n) then .delay else .grant

/-- The first answer that is no GRANT. -/
def firstAnswer : List Answer → Answer
  | [] => .grant
  | .grant :: as => firstAnswer as
  | a :: _ => a

def delayIf (b : Bool) : Answer := if b then .delay else .grant

/-- The ports of a slice. -/
def slicePorts (s : Nat) : List Nat := (List.range 32).map (fun i => 32 * s + i) ++ [257 + s] ++ (if s = 0 then [256] else [])

/-- Block `b` of slice `s`: 0 to 7 its clusters, 8 SWC, 9 the Quarry, 10 PRS, 11 CLS, 12 FWD. The Quarry delays while frames stand before it, since each of them would bring it a line (R387). -/
def Dev.askSlice (d : Dev) (s b : Nat) : Answer :=
  if (List.range 4).any (fun k => d.octetSt (4 * s + k) == 0) then .refuse 1
  else
    let at_ := fun (st : List Stage) => d.pipe.any (fun (k : Pkt) => k.slice == s && st.contains k.stage)
    match b with
    | 8 => delayIf ((slicePorts s).any (fun p => (sget d.mac.tx p none).isSome || !(sget d.tmu.buoys p []).isEmpty ||
        (List.range 16).any (fun q => !(d.queue p q).ents.isEmpty)) || d.swc.adms.any (fun a => a.slice == s))
    | 9 => delayIf (d.qry.lines.any (fun (l : Line) => l.slice == s) || d.qry.misses.any (fun (m : Miss) => m.slice == s) ||
        d.qry.txns.any (fun (t : Txn) => t.slice == s) || at_ [.parse, .graph, .keyed, .scanned, .classified, .forwarded, .flowUpd] || !(sget d.mac.recirc s []).isEmpty)
    | 10 => delayIf (at_ [.parse, .graph] || !(sget d.mac.recirc s []).isEmpty)
    | 11 => delayIf (at_ [.keyed, .scanned])
    | 12 => delayIf (at_ [.classified, .forwarded] || d.tbl.learns.any (fun (l : Learn) => l.slice == s) || d.tbl.ageCas.any (fun a => a.slice == s))
    | _ => if d.domOff 0 (8 * s + b) then d.askCluster (8 * s + b) 0 else firstAnswer ((List.range 9).map (d.askCluster (8 * s + b)))

/-- Block `b` of half `h`: 0 to 3 its slices, 4 BPM, 5 HBC, 6 D2D. -/
def Dev.askHalf (d : Dev) (h b : Nat) : Answer :=
  match b with
  | 4 => delayIf (d.swc.residues.any (fun (r : Residue) => r.half == h) || d.swc.queues.any (fun e => portHalf (e.1 / 16) == h && e.2.ents.any (fun x => x.spilled)))
  | 5 => if d.is QRY.GCFG.EN && (List.range 4).any (fun k => !d.domOff 2 (4 * (1 - h) + k)) then .refuse 2 else .grant
  | 6 => delayIf (!d.swc.crosses.isEmpty || d.swc.credits.any (fun (c : Credit) => c.srcHalf == h || portHalf c.port == h))
  | _ => if d.domOff 2 (4 * h + b) then .grant else .refuse 1

/-- Number of blocks that a domain asks. -/
def blockCount (kind : Nat) : Nat := match kind with
  | 0 => 9 | 1 => 2 | 2 => 13 | 3 => 7 | _ => 2

/-- The answer of block `b` of a domain. A device asks half 1 and then half 0. -/
def Dev.ask (d : Dev) (kind i b : Nat) : Answer :=
  match kind with
  | 0 => d.askCluster i b
  | 1 => delayIf (b == 0 && (List.range 8).any (fun k => (sget d.mac.tx (8 * i + k) none).isSome))
  | 2 => d.askSlice i b
  | 3 => d.askHalf i b
  | _ => if d.domOff 3 (1 - b) then .grant else firstAnswer ((List.range 7).map (d.askHalf (1 - b)))

/-- Asking a slice's Quarry makes it release every line (R387). -/
def Dev.asked (d : Dev) (kind i b : Nat) : Dev :=
  if kind = 2 ∧ b = 9 then
    (d.qry.lines.filter (fun (l : Line) => l.slice == i && l.st != .filling)).foldl (fun (d : Dev) l => d.releaseLine l) d
  else d

-- Requests (R386, Table 16.3).

/-- The request ends. -/
def Dev.pwrDone (d : Dev) (result : Nat) : Dev :=
  { (d.set PWR.REQ_STAT.RESULT result).set PWR.REQ_STAT.DONE 1 with pwr.pwr := {} }

/-- The request is refused by block `b`. Blocks that have granted are woken first (Table 16.3, step 4). -/
def Dev.pwrRefuse (d : Dev) (reason b : Nat) : Dev :=
  let r := d.pwr.pwr
  let d := (((d.set PWR.REQ_STAT.REASON reason).set PWR.REQ_STAT.BLOCK b).raise EV_PWR_REFUSED).cntPwr 1
  if r.phase == .asking && r.pos != 0 then { d.set PWR.REQ_STAT.RESULT 1 with pwr.pwr := { r with phase := .undoing } } else d.pwrDone 1

/-- The last of the blocks that had granted a refused request works again; after the first of them the request ends. -/
def Dev.undoStep (d : Dev) : Dev :=
  if Nat.ble d.pwr.pwr.pos 1 then d.pwrDone 1 else { d with pwr.pwr := { d.pwr.pwr with pos := d.pwr.pwr.pos - 1 } }

/-- An octet that goes down takes its links down (R389) and keeps its adapted coefficients (Table 16.1). -/
def Dev.octetLinksDown (d : Dev) (o : Nat) : Dev :=
  (octetPorts o (d.octetMode o)).foldl (fun (d : Dev) p => (d.linkDrop p).setBring p 0) d

/-- Every block has granted: the domain enters; a wake of it that was in progress is over (log entry 71). -/
def Dev.enter (d : Dev) : Dev :=
  let r := d.pwr.pwr
  let d := { d with pwr.waking := d.pwr.waking.filter (fun x => x != (r.kind, r.index)), pwr.pwr := { r with phase := .entering } }
  if r.kind = 1 then d.octetLinksDown r.index else d

/-- Asks the blocks from `pos` on; `n` is the number left. -/
def Dev.askFrom (d : Dev) : Nat → Dev
  | 0 => d.enter
  | n + 1 =>
    let r := d.pwr.pwr
    let d := d.asked r.kind r.index r.pos
    match d.ask r.kind r.index r.pos with
    | .grant => ({ d.cntPwr 0 with pwr.pwr := { r with pos := r.pos + 1, delayed := false } } : Dev).askFrom n
    | .refuse k => d.pwrRefuse k r.pos
    | .delay =>
      if r.delayed && Nat.ble (r.since + d.get PWR.CFG.DELAY_LIMIT * 1000000) d.tick then d.pwrRefuse 6 r.pos
      else { d.cntPwr 2 with pwr.pwr := { r with phase := .asking, delayed := true, since := if r.delayed then r.since else d.tick, askedAt := d.tick } }

/-- A host request to wake (R389). -/
def Dev.powerOn (d : Dev) (kind i : Nat) : Dev :=
  let l := d.wakeSet kind i
  if l.isEmpty then d.pwrDone 0
  else if kind = 1 && d.is PWR.SL_STATE.TRIPPED then d.pwrRefuse 4 0
  else { (d.wakeAll l).wakeRec 0 (if kind = 1 then i else 0) with pwr.pwr := { phase := .exiting, kind := kind, index := i, need := l } }

/-- Runs a request. -/
def Dev.pwrStart (d : Dev) (kind i target : Nat) : Dev :=
  if target = 3 || Nat.ble 5 kind || Nat.ble (domCount kind) i || (target = 2 && kind != 1) then d.pwrRefuse 5 0
  else if target = 0 then d.powerOn kind i
  else if (if kind = 1 then d.octetSt i == target else d.domOff kind i) && !d.pwr.waking.contains (kind, i) then d.pwrDone 0
  else ({ d with pwr.pwr := { phase := .asking, kind := kind, index := i, target := target } } : Dev).askFrom (blockCount kind)

/-- A write of PWR.REQ: GO is ignored while DONE is 0. -/
def Dev.pwrReqWrite (d : Dev) (v : Nat) : Dev :=
  let w := ((d.set PWR.REQ.TARGET (bits v 13 12)).set PWR.REQ.INDEX (bits v 10 4)).set PWR.REQ.KIND (bits v 2 0)
  if !bit v 16 then w
  else if !d.is PWR.REQ_STAT.DONE then d
  else (((w.set PWR.REQ_STAT.DONE 0).set PWR.REQ_STAT.REASON 0).set PWR.REQ_STAT.BLOCK 0).pwrStart (bits v 2 0) (bits v 10 4) (bits v 13 12)

/-- POWER_ON: a write of PWR.REQ with GO and TARGET ON; so the two below with their TARGET. -/
def execPowerOn (v : Nat) (s : State) : Out := hostAct s PWR.REQ.KIND (fun d => d.pwrReqWrite (setBit (setBits v 13 12 0) 16))

/-- PARK. -/
def execPark (v : Nat) (s : State) : Out := hostAct s PWR.REQ.KIND (fun d => d.pwrReqWrite (setBit (setBits v 13 12 1) 16))

/-- POWER_OFF. -/
def execPowerOff (v : Nat) (s : State) : Out := hostAct s PWR.REQ.KIND (fun d => d.pwrReqWrite (setBit (setBits v 13 12 2) 16))

/-- PARK_DELAY_RETRY: the block that answered DELAY is asked again after 10 µs. -/
def execParkDelayRetry (s : State) : Out :=
  act s (fun d => d.pwr.pwr.phase == .asking && d.pwr.pwr.delayed && Nat.ble (d.pwr.pwr.askedAt + 10000) d.tick)
    (fun d => d.askFrom (blockCount d.pwr.pwr.kind - d.pwr.pwr.pos))

/-- The domain has entered its state; a wake that came meanwhile follows at once (R388). -/
def domEntryEff (d : Dev) : Dev :=
  let r := d.pwr.pwr
  let d := d.setDom r.kind r.index r.target
  let d := if r.kind = 2 then (sliceClusters r.index).foldl (fun (d : Dev) x => d.setDom 0 x.2 1) d else d
  let d := if r.kind = 1 ∧ r.target = 2 then d.lanesAfresh ((List.range 8).map (fun k => 8 * r.index + k)) else d
  let d := d.pwrDone (if r.woken then 2 else 0)
  if r.woken then d.wakeAll (d.wakeSet r.kind r.index) else d

/-- DOMAIN_ENTRY_DONE. -/
def execDomainEntryDone (s : State) : Out := act s (fun d => d.pwr.pwr.phase == .entering) domEntryEff

/-- A domain accepts work again; the ports of an octet start at step 3 of Table 3.5 (R382). -/
def domExitEff (kind i : Nat) (d : Dev) : Dev :=
  let d := ({ d with pwr.waking := d.pwr.waking.filter (fun x => x != (kind, i)) } : Dev).setDom kind i 0
  let d := if kind = 1 then (octetPorts i (d.octetMode i)).foldl (fun (d : Dev) p => d.startBring p 3) d else d
  let need := d.pwr.pwr.need.filter (fun x => x != (kind, i))
  if d.pwr.pwr.phase == .exiting then
    if need.isEmpty then d.pwrDone 0 else { d with pwr.pwr := { d.pwr.pwr with need := need } }
  else d

/-- Whether blocks of a domain that had granted a refused request are being woken. -/
def Dev.undoing (d : Dev) (kind i : Nat) : Bool := d.pwr.pwr.phase == .undoing && d.pwr.pwr.kind == kind && d.pwr.pwr.index == i

/-- DOMAIN_EXIT_DONE of domain `i` of kind `kind`, or of one block of it after a refused request. -/
def execDomainExitDone (kind i : Nat) (s : State) : Out :=
  act s (fun d => d.pwr.waking.contains (kind, i) || d.undoing kind i)
    (fun d => if d.pwr.waking.contains (kind, i) then domExitEff kind i d else d.undoStep)

-- Doze and wakes (R385, R390).

/-- ENGINE_DOZE of engine `e`. -/
def execEngineDoze (e : Nat) (s : State) : Out :=
  let e := e % 512
  act s (fun d => d.clusterOn (e / 8) && d.is (ENG.MODE.SLEEP_EN (e / 8) (e % 8)) && sget d.pwr.dozing e 0 == 0 &&
      (List.range 8).all (fun k => (d.ctx (8 * e + k)).st.idle) && (sget d.eng.kq e []).isEmpty && d.qry.txns.all (fun t => t.ctx == 0 || (t.ctx - 1) / 8 != e) &&
      Nat.ble (sget d.eng.idleAt e 0 + 10 * d.get (ENG.MODE.IDLE_DELAY (e / 8) (e % 8))) d.tick)
    (fun d => { d with pwr.dozing := sset d.pwr.dozing e 1 0 })

/-- LINE_ENERGY_WAKE: energy on a lane of octet `o`. -/
def execLineEnergyWake (o : Nat) (s : State) : Out :=
  let o := o % 32
  act s (fun d => (d.octetSt o == 1 || (d.entering 1 o && d.pwr.pwr.target == 1)) && bit (d.get PWR.WAKE_CFG.EN) o && !d.is PWR.SL_STATE.TRIPPED)
    (fun d => ((d.wakeAll (d.wakeSet 1 o)).wakeRec 1 o).cntPwr 3)

/-- Every parked domain; octets that are OFF stay OFF. -/
def Dev.parkedDoms (d : Dev) : List (Nat × Nat) :=
  (List.range 5).flatMap (fun k => ((List.range (domCount k)).map (fun i => (k, i))).filter (fun x =>
    (d.domOff x.1 x.2 || d.entering x.1 x.2) && !(x.1 == 1 && (d.octetSt x.2 == 2 || (d.entering 1 x.2 && d.pwr.pwr.target == 2)))))

/-- WAKE_FRAME: a frame of shim TYPE 3 on port 256, and what RS-FEC reports (R76); any other than one with the right destination and key is discarded, and one that Table 3.11 does not allow counts as R75 counts such an inject (log entry 108). -/
def execWakeFrame (f : List Byte × Nat × Nat × Nat) (s : State) : Out :=
  act s (fun d => d.canRx 256 && isShim f.1 && shimType f.1 == 3) (fun d =>
    let (d, j) := (d.fecCount 256 f.2).rxJudge 256 f.1 false
    if !j.keep || j.bad || !d.gateOpen then d
    else if !shimOk j.body then d.cntMac 256 2 1
    else if d.is GLB.MGT_CFG.WAKE_EN && beAt j.body 0 6 == d.mac48 GLB.MGT_DEV_MAC_LO.MAC GLB.MGT_DEV_MAC_HI.MAC &&
        beAt j.body 18 4 == d.get GLB.MGT_WAKE_KEY.KEY then
      (((d.wakeAll d.parkedDoms)).wakeRec 2 0).cntPwr 4
    else d)

-- AVS (R391, R392).

/-- V_REQ, before the first request the voltage in force. -/
def Dev.vReq (d : Dev) : Nat := if d.get PWR.AVS_STAT.V_REQ = 0 then d.pwr.vMeas else d.get PWR.AVS_STAT.V_REQ

/-- Follows V_ACK equal to VMAX_MV. -/
def Dev.atMax (d : Dev) : Dev := d.set PWR.AVS_STAT.AT_MAX (b2n (d.get PWR.AVS_STAT.V_ACK == d.get PWR.AVS_CFG.VMAX_MV))

/-- Sends a new voltage request. -/
def Dev.avsWrite (d : Dev) (v : Nat) : Dev :=
  { (d.set PWR.AVS_STAT.V_REQ v).cntPwr 6 with pwr.avsPend := some v, pwr.avsFails := 0, pwr.avsAt := d.tick, pwr.avsReqAt := d.tick + 1 }

/-- AVS_RESPONSE: the pending write is confirmed, and `mv` is the rail voltage read back. None arrives while the boundary cells hold the bus (R376). -/
def execAvsResponse (mv : Nat) (s : State) : Out :=
  act s (fun d => d.pwr.avsPend.isSome && !d.host.balls) (fun d =>
    let d := { (d.set PWR.AVS_STAT.V_ACK (d.pwr.avsPend.getD 0)).set PWR.AVS_STAT.NO_REPLY 0 with
      pwr.avsPend := none, pwr.avsFails := 0, pwr.avsAckAt := d.tick + 1, pwr.vMeas := mv % 65536 }
    d.atMax)

/-- AVS_RETRY: the pending write is not confirmed. It is sent again after 100 µs; three failed retries set NO_REPLY, and it is then sent every 10 ms. While EN is 0 nothing is sent (R391). -/
def execAvsRetry (s : State) : Out :=
  act s (fun d => d.is PWR.AVS_CFG.EN && d.pwr.avsPend.isSome && Nat.ble (d.pwr.avsAt + (if d.is PWR.AVS_STAT.NO_REPLY then 10000000 else 100000)) d.tick) (fun d =>
    let d' := { d with pwr.avsAt := d.tick, pwr.avsFails := d.pwr.avsFails + 1 }
    if Nat.ble 3 d.pwr.avsFails && !d.is PWR.AVS_STAT.NO_REPLY then ((d'.set PWR.AVS_STAT.NO_REPLY 1).raise EV_AVS_NO_REPLY).cntPwr 7 else d')

-- The pace governor (R393, R394).

/-- Whether the thermal limit holds the voltage. -/
def Dev.thermalLimit (d : Dev) : Bool := sget d.pwr.thermLim 0 0 == 1 || sget d.pwr.thermLim 1 0 == 1

/-- Pause frames of a slice's ports after a change of back-pressure. -/
def Dev.slicePause (old d : Dev) (s : Nat) : Dev := (slicePorts s).foldl (fun (d : Dev) p => Dev.pauseAsk old d p (fun _ => false)) d

/-- The groups of a slice that back-pressure held: those not below XON go on asking for pause until they are (R394). -/
def Dev.holdGroups (d : Dev) (s : Nat) : Dev :=
  (slicePorts s).foldl (fun (d : Dev) p => forN 16 d (fun c d =>
    if d.is (SWC.PG.PAUSE_EN p c) && Nat.ble (d.get (SWC.PG.XON p c)) (d.grpCells p c) then
      { d with swc.grpXoff := sset d.swc.grpXoff (16 * p + c) 1 0 }
    else d)) d

/-- PACE_LOW of slice `s` at pace `p`. -/
def Dev.paceLow (d : Dev) (s p : Nat) : Dev :=
  if d.is (PWR.PACE_STAT.LOW_ACTIVE s) then
    let n := if Nat.ble 165 p then sget d.pwr.paceEnd s 0 + 1 else 0
    if Nat.ble (d.get PWR.PACE_CFG.END_COUNT) n then
      let d' := if sget d.pwr.paceResp s 0 = 1 then d.holdGroups s else d
      let d' := { d'.set (PWR.PACE_STAT.LOW_ACTIVE s) 0 with pwr.paceEnd := sset d.pwr.paceEnd s 0 0, pwr.paceResp := sset d.pwr.paceResp s 0 0 }
      Dev.slicePause d d' s
    else { d with pwr.paceEnd := sset d.pwr.paceEnd s n 0 }
  else if Nat.blt p 160 && (d.get PWR.AVS_STAT.V_ACK == d.get PWR.AVS_CFG.VMAX_MV || d.is PWR.AVS_STAT.NO_REPLY || d.thermalLimit) then
    let d' := ((d.set (PWR.PACE_STAT.LOW_ACTIVE s) 1).raise EV_PACE_LOW).cntPwr 8
    let d' := { d' with pwr.paceResp := sset d'.pwr.paceResp s (if d.get PWR.PACE_CFG.RESP = 1 then 1 else 0) 0 }
    Dev.slicePause d d' s
  else d

/-- A slice's want for a pace. -/
def Dev.want (d : Dev) (v s p : Nat) : Nat × Dev :=
  let hi := fun (d : Dev) n => ({ d with pwr.paceHigh := sset d.pwr.paceHigh s n 0 } : Dev)
  if Nat.blt p (d.get PWR.PACE_CFG.TARGET) then (v + d.get PWR.AVS_CFG.STEP_UP_MV, hi d 0)
  else if Nat.blt (d.get PWR.PACE_CFG.HIGH) p then
    let n := sget d.pwr.paceHigh s 0 + 1
    if Nat.ble (d.get PWR.PACE_CFG.DOWN_COUNT) n then (v - d.get PWR.AVS_CFG.STEP_DN_MV, hi d 0) else (v, hi d n)
  else (v, hi d 0)

/-- Every slice in service with its measured pace; the highest want, if any. -/
def Dev.wants (d : Dev) (v : Nat) (paces : List Nat) : Nat → Option Nat → Option Nat × Dev
  | 0, m => (m, d)
  | n + 1, m =>
    let s := 7 - n
    if !d.sliceOn s then (d.set (PWR.PACE_STAT.PARKED s) 1).wants v paces n m
    else
      let p := min (nthD paces s 0) 1023
      let (w, d) := d.want v s p
      let d := (((d.set (PWR.PACE_STAT.PARKED s) 0).set (PWR.PACE_STAT.PACE s) p).set (PWR.PACE_STAT.WANT_MV s) w).paceLow s p
      d.wants v paces n (some (max (m.getD 0) w))

/-- One period of the governor. Paces measured within 200 µs of a confirmation are discarded: such a period changes nothing. -/
def governorEff (paces : List Nat) (d : Dev) : Dev :=
  let d := { d with pwr.govAt := d.tick + 1 }
  if d.pwr.avsAckAt != 0 && Nat.blt (d.tick + 1) (d.pwr.avsAckAt + 200000) then d
  else
    let v0 := d.vReq
    let lo := d.get PWR.AVS_CFG.VMIN_MV
    let (m, d) := d.wants v0 paces 8 none
    let v := max lo (min (m.getD lo) (d.get PWR.AVS_CFG.VMAX_MV))
    let v := if d.thermalLimit && Nat.blt v0 v then v0 else v
    let v := max (v0 - d.get PWR.AVS_CFG.STEP_DN_MV) (min v (v0 + d.get PWR.AVS_CFG.STEP_UP_MV))
    if d.is PWR.AVS_CFG.EN && v != v0 && d.pwr.avsPend.isNone &&
        (d.pwr.avsReqAt == 0 || Nat.ble (d.pwr.avsReqAt + d.get PWR.AVS_CFG.REQ_MIN_MS * 1000000) (d.tick + 1)) then d.avsWrite v
    else d

/-- GOVERNOR_PERIOD: `paces` are the measured paces of the slices, in 10 M steps/s. -/
def execGovernorPeriod (paces : List Nat) (s : State) : Out :=
  act s (fun d => Nat.ble (d.pwr.govAt + d.get PWR.PACE_CFG.PERIOD_US * 1000) (d.tick + 1)) (governorEff paces)

-- Temperature (R395).

def Dev.tempOf (d : Dev) (h : Nat) : Int := if h = 0 then d.pwr.tempH0 else d.pwr.tempH1

/-- The highest junction temperature of a half is `t`: below LIMIT the limit ends, and events 2 °C below their thresholds are armed again. (Log entry 119.) -/
def Dev.setTemp (d : Dev) (h : Nat) (t : Int) : Dev :=
  let d := if h = 0 then { d with pwr.tempH0 := t } else { d with pwr.tempH1 := t }
  let below := fun (f : Fld) => decide (t ≤ (d.get f : Int) - 2)
  let d := if below PWR.THERM_CFG.WARN then { d with pwr.thermWarn := sset d.pwr.thermWarn h 0 0 } else d
  let d := if sget d.pwr.thermLim h 0 == 1 && decide (t < (d.get PWR.THERM_CFG.LIMIT : Int)) then { d with pwr.thermLim := sset d.pwr.thermLim h 2 0 } else d
  if below PWR.THERM_CFG.LIMIT && sget d.pwr.thermLim h 0 == 2 then { d with pwr.thermLim := sset d.pwr.thermLim h 0 0 } else d

/-- THERMAL_WARN: half `h` is at `t` °C, at or above WARN. -/
def execThermalWarn (h : Nat) (t : Int) (s : State) : Out :=
  let h := h % 2
  act s (fun d => decide ((d.get PWR.THERM_CFG.WARN : Int) ≤ t)) (fun d =>
    let d := d.setTemp h t
    if sget d.pwr.thermWarn h 0 = 1 then d
    else ({ d with pwr.thermWarn := sset d.pwr.thermWarn h 1 0 } : Dev).raise EV_THERMAL_WARN)

/-- THERMAL_LIMIT: half `h` is at `t` °C, at or above LIMIT. -/
def execThermalLimit (h : Nat) (t : Int) (s : State) : Out :=
  let h := h % 2
  act s (fun d => decide ((d.get PWR.THERM_CFG.LIMIT : Int) ≤ t)) (fun d =>
    let d := d.setTemp h t
    let was := sget d.pwr.thermLim h 0
    let d := { d with pwr.thermLim := sset d.pwr.thermLim h 1 0 }
    if was = 0 then d.raise EV_THERMAL_LIMIT else d)

/-- THERMAL_LIMIT_CLEAR: half `h` has fallen to `t` °C, below LIMIT; at 2 °C below a threshold its event is armed again, that of WARN also where LIMIT was not reached. -/
def execThermalLimitClear (h : Nat) (t : Int) (s : State) : Out :=
  let h := h % 2
  act s (fun d => decide (t < (d.get PWR.THERM_CFG.LIMIT : Int))) (fun d => d.setTemp h t)

/-- Every octet that is on is parked at once; no octet goes on waking, nor does one that is entering wake for what reached it before. -/
def Dev.tripOctets (d : Dev) : Dev :=
  let r := d.pwr.pwr
  let d := { d with pwr.waking := d.pwr.waking.filter (fun x => x.1 != 1), pwr.pwr := if r.kind = 1 then { r with woken := false } else r }
  forN 32 d (fun o d => if d.octetSt o = 0 then (d.octetLinksDown o).setDom 1 o 1 else d)

/-- THERMAL_TRIP: the junction of half `h` is at `t` °C, at or above 115. -/
def execThermalTrip (h : Nat) (t : Int) (s : State) : Out :=
  let h := h % 2
  act s (fun _ => decide (115 ≤ t)) (fun d =>
    let d := d.setTemp h t
    if d.is PWR.SL_STATE.TRIPPED then d
    else
      let d := (((d.tripOctets).set PWR.SL_STATE.TRIPPED 1).raise EV_THERMAL_TRIP).cntPwr 9
      if d.pwr.pwr.phase == .exiting then
        let need := d.pwr.pwr.need.filter (fun x => x.1 != 1)
        if need.isEmpty then d.pwrRefuse 4 0 else { d with pwr.pwr := { d.pwr.pwr with need := need } }
      else d)

/-- THERMAL_TRIP_CLEAR: both halves, at `t0` and `t1` °C, have fallen to LIMIT − 10. -/
def execThermalTripClear (t0 t1 : Int) (s : State) : Out :=
  act s (fun d => d.is PWR.SL_STATE.TRIPPED && decide (t0 ≤ (d.get PWR.THERM_CFG.LIMIT : Int) - 10) && decide (t1 ≤ (d.get PWR.THERM_CFG.LIMIT : Int) - 10))
    (fun d => ((d.setTemp 0 t0).setTemp 1 t1).set PWR.SL_STATE.TRIPPED 0)

end Sys2Proof.Machine
end

