-- ==== Sys2Proof/Machine/HostReg.lean ====
section
/-! DEFINITION. Writing and reading a register through its layout: access types, accepted values, the halves of 64-bit registers (spec/00 R7 to R9, spec/15 R362). -/

namespace Sys2Proof.Machine

open Sys2Proof

/-- The layouts of every BAR0 register. -/
def allLayout : List RegFam := layoutDev ++ layoutPath ++ layoutFlow ++ layoutSwitch

/-- A field of the register at offset `a`. -/
def FldL.at (f : FldL) (a : Nat) : Fld := ⟨8 * a + f.lo, f.w, f.rst⟩

/-- What `v` writes to a field, by its access type and the values it accepts (R7, R8). -/
def Dev.fldWrite (d : Dev) (a : Nat) (f : FldL) (v : Nat) : Dev :=
  let g := f.at a
  let x := bits v (f.lo + f.w - 1) f.lo
  match f.acc with
  | .rw => if f.rule.ok x then d.set g x else d
  | .rwl => if d.is GLB.LOCK.LOCK || !f.rule.ok x then d else d.set g x
  | .w1c => d.set g (Nat.land (d.get g) (2 ^ f.w - 1 - x))
  | .w1s => d.set g (Nat.lor (d.get g) x)
  | .ro | .wo | .rc => d

/-- A write of a whole register without side effects. -/
def Dev.regWrite (d : Dev) (a : Nat) (r : RegFam) (v : Nat) : Dev := r.flds.foldl (fun d f => d.fldWrite a f v) d

/-- The fields of a register as they are held; WO fields read 0. -/
def Dev.regHeld (d : Dev) (a : Nat) (r : RegFam) : Nat :=
  r.flds.foldl (fun n f => if f.acc = .wo then n else n + d.get (f.at a) * 2 ^ f.lo) 0

/-- What the other half of a 64-bit register takes in a 4-byte write: the current values of RW and RWL fields, 0 elsewhere (R362). TMU.ADJ shows the slew that is left (R317). -/
def Dev.regKeep (d : Dev) (a : Nat) (r : RegFam) : Nat :=
  if a = 0x100038 then toWord 40 d.tmu.slewRem
  else r.flds.foldl (fun n f => if f.acc = .rw || f.acc = .rwl then n + d.get (f.at a) * 2 ^ f.lo else n) 0

/-- The 64-bit value that a 4-byte write of `v` to the low or the high half stands for. -/
def Dev.widen (d : Dev) (a : Nat) (r : RegFam) (high : Bool) (v : Nat) : Nat :=
  if high then bits (d.regKeep a r) 31 0 + v % 2 ^ 32 * 2 ^ 32
  else bits (d.regKeep a r) 63 32 * 2 ^ 32 + v % 2 ^ 32

end Sys2Proof.Machine
end

