-- ==== Sys2Proof/Machine/Counters.lean ====
section
/-! DEFINITION. The counter reader, its accumulators and the bandwidth windows (spec/18). -/

namespace Sys2Proof.Machine

open Sys2Proof

-- The ranges of HBM that the image and the host give to the device (spec/14 R354; spec/19 Table 19.10), as offsets of a half.

/-- The multicast group table; one at offset 0 has not been placed (log entry 34). -/
def Dev.groupRange (d : Dev) (h : Nat) : Nat × Nat :=
  let o := d.get (SWC.MGRP_BASE.OFFSET h)
  (0xA00000000 + o, if o = 0 then 0 else 0x40000)

/-- The ranges of the HBM pools. -/
def Dev.poolRanges (d : Dev) (h : Nat) : List (Nat × Nat) :=
  [4, 5, 6, 7].map (fun k => (d.get (HBC.REGION.FLOW_GIB h) * 0x40000000 + d.get (BPM.POOL_CFG.BASE h k) * 4096,
    if d.is (BPM.POOL_CFG.EN h k) then d.get (BPM.POOL_CFG.COUNT h k) * poolSize k else 0))

/-- The device-managed ranges of half `h` without the accumulator area. -/
def Dev.managed (d : Dev) (h : Nat) : List (Nat × Nat) :=
  [d.benchRange h, d.groupRange h] ++ d.poolRanges h ++ d.ringRanges h

/-- Whether the accumulator area of half `h` may lie where ACC_BASE_h puts it (R419). -/
def Dev.accOk (d : Dev) (h : Nat) : Bool :=
  let o := d.get (CTR.ACC_BASE.OFFSET h)
  o % 0x400000 == 0 && Nat.ble 0xC000000 o && Nat.ble (o + 0x400000) 0x200000000 &&
    !(d.managed h).any (fun r => meets (0xA00000000 + o) 0x400000 r.1 r.2)

-- The counters and their accumulators (Table 18.1).

/-- A counter: whether it is a hit counter in the tables, its field key or address, and the offset of its accumulator in its half's area. -/
structure Cnt where
  inMem : Bool
  at_ : Nat
  off : Nat

/-- `n` counters from register field `f` and accumulator offset `o` on. -/
def cntGroup (f : Fld) (o n : Nat) : List Cnt := (List.range n).map (fun i => ⟨false, f.key + 64 * i, o + 8 * i⟩)

/-- The raw value of a counter. -/
def Dev.cntRaw (d : Dev) (c : Cnt) : Nat := if c.inMem then d.rd64 c.at_ % 2 ^ 40 else d.get ⟨c.at_, 40, 0⟩

/-- Port number of port index `j` of slice `s` (R60), if the slice has it. -/
def portOf (s j : Nat) : Option Nat :=
  if j < 32 then some (32 * s + j) else if j = 33 then some (257 + s) else if s = 0 && j == 32 then some 256 else none

/-- The MAC counters of a port, and those of its queues. -/
def macCnts (s j : Nat) : List Cnt := (portOf s j).elim [] (fun p => cntGroup (MAC.CNT.V p 0) (0x80000 * (s % 4) + 0x100 * j) 20)
def queueCnts (s j : Nat) : List Cnt :=
  (portOf s j).elim [] (fun p =>
    (List.range 16).flatMap (fun q => cntGroup (SWC.QCNT.V p q 0) (0x80000 * (s % 4) + 0x8000 + 0x400 * j + 0x40 * q) 8))

/-- The counters of a slice's own blocks. -/
def sliceCnts (s : Nat) : List Cnt :=
  let b := 0x80000 * (s % 4)
  cntGroup (PRS.CNT.V s 0) (b + 0x4000) 7 ++ cntGroup (CLS.CNT.V s 0) (b + 0x4100) 10 ++ cntGroup (FWD.CNT.V s 0) (b + 0x4200) 17 ++
    cntGroup (QRY.CNT.V s 0) (b + 0x4300) 16 ++ cntGroup (SWC.CNT.V s 0) (b + 0x4400) 17 ++
    (List.range 49152).map (fun i => ⟨true, hitA s i, b + 0x20000 + 8 * i⟩)

/-- The counters of a cluster. -/
def clusterCnts (c : Nat) : List Cnt := cntGroup (ENG.CNT.V c 0) (0x80000 * (c / 8 % 4) + 0x4800 + 0x80 * (c % 8)) 13

/-- The counters of a half's blocks. -/
def halfCnts (h : Nat) : List Cnt :=
  cntGroup (BPM.CNT.V h 0) 0x200000 12 ++ cntGroup (QRY.HCNT.V h 0) 0x200100 6 ++
    cntGroup (HBC.CNT.V (2 * h) 0) 0x200200 7 ++ cntGroup (HBC.CNT.V (2 * h + 1) 0) 0x200280 7

/-- The counters of the device-level blocks. -/
def deviceCnts : List Cnt :=
  cntGroup (TMU.CNT.V 0) 0x200400 11 ++ cntGroup (PWR.CNT.V 0) 0x200500 10 ++ cntGroup (NVS.CNT.V 0) 0x200600 7 ++ cntGroup (D2D.CNT.V 0) 0x200700 4

/-- Whether the domain of the MAC counters of port index `j` of slice `s` is parked: a front port's octet, a recirculation port's slice; the management port's never is (Table 16.1). -/
def Dev.macParked (d : Dev) (s j : Nat) : Bool := j != 32 && (d.sliceParked s || (Nat.blt j 32 && d.octetSt (4 * s + j / 8) != 0))

/-- Applies `f` to every counter of half `h`; with `skip`, not to those of parked domains (R418). The device-level blocks never park; their accumulators lie in half 0's area. (Log entry 118.) -/
def Dev.eachCnt (d : Dev) (h : Nat) (skip : Bool) (f : Dev → Cnt → Dev) : Dev :=
  let all := fun (off : Bool) (l : List Cnt) (d : Dev) => if skip && off then d else l.foldl f d
  let d := (List.range 4).foldl (fun (d : Dev) i =>
    let s := 4 * h + i
    let d := (List.range 34).foldl (fun (d : Dev) j => all (d.sliceParked s) (queueCnts s j) (all (d.macParked s j) (macCnts s j) d)) d
    let d := all (d.sliceParked s) (sliceCnts s) d
    (List.range 8).foldl (fun (d : Dev) k => all (d.clusterParked (8 * s + k)) (clusterCnts (8 * s + k)) d) d) d
  let d := all (d.halfParked h) (halfCnts h) d
  if h = 0 then deviceCnts.foldl f d else d

/-- HBM byte offset of a counter's accumulator. -/
def Dev.accO (d : Dev) (h : Nat) (c : Cnt) : Nat := 0xA00000000 + d.get (CTR.ACC_BASE.OFFSET h) + c.off

/-- One visit (R418, R422). -/
def accVisit (h : Nat) (d : Dev) (c : Cnt) : Dev :=
  let o := d.accO h c
  let r := d.cntRaw c
  match d.hbmCheck h o with
  | (true, d) => ((d.wr64 (hbmA h o) r).addSat CTR.STAT.ACC_LOST 1).raise EV_CTR_ACC_ECC
  | (false, d) =>
    let a := d.rd64 (hbmA h o)
    let delta := subMod 40 r a
    if delta = 0 then d else d.wr64 (hbmA h o) ((a + delta) % 2 ^ 64)

/-- The accumulators of half `h` take their counters' raw values; every other offset of the area reads 0 (R419, R423). -/
def accInit (h : Nat) (d : Dev) : Dev :=
  let a := hbmA h (0xA00000000 + d.get (CTR.ACC_BASE.OFFSET h))
  let d := d.clearRange a 0x400000
  let d := { d with bad := clearBad d.bad a 0x400000 }
  d.eachCnt h false (fun d c => if d.cntRaw c = 0 then d else d.wr64 (hbmA h (d.accO h c)) (d.cntRaw c))

/-- A sync whose sweep is complete (R421). -/
def Dev.syncDone (d : Dev) : Dev :=
  if d.is CTR.SYNC_DONE.PEND then (d.set CTR.SYNC_DONE.TOKEN (d.get CTR.SYNC.TOKEN)).set CTR.SYNC_DONE.PEND 0 else d

/-- A sweep of `us` µs (R418, R420). -/
def sweepEff (us : Nat) (d : Dev) : Dev :=
  let d := (d.eachCnt 0 true (accVisit 0)).eachCnt 1 true (accVisit 1)
  let d := d.set CTR.STAT.LAST_US (min us 65535)
  let d := if Nat.blt (d.get CTR.CTL.SWEEP_US) us then (d.addSat CTR.STAT.LATE 1).raiseMs EV_CTR_SWEEP_LATE else d
  d.syncDone

/-- Whether a sweep waits for the repair of a row that an accumulator lies in (R403, R420). -/
def Dev.sweepWaits (d : Dev) : Bool := (List.range 2).any (fun h => d.areaWaits (hbmA h (0xA00000000 + d.get (CTR.ACC_BASE.OFFSET h))) 0x400000)

/-- CTR_SWEEP: one sweep, which took `us` µs. -/
def execCtrSweep (us : Nat) (ups : List (Nat × Nat)) (s : State) : Out :=
  act s (fun d => d.is CTR.CTL.EN && !d.sweepWaits) (fun d => sweepEff us (d.upset ups))

/-- A write of CTR.CTL (R419): EN rises where the checks pass; with EN at 0 a pending sync completes at once (R421). -/
def Dev.ctrCtlWrite (d : Dev) (v : Nat) : Dev :=
  let d := if bit v 1 then d.set CTR.CTL.CFG_ERR 0 else d
  let d := if (Rule.inR 10 100).ok (bits v 14 8) then d.set CTR.CTL.SWEEP_US (bits v 14 8) else d
  if !bit v 0 then (d.set CTR.CTL.EN 0).syncDone
  else if d.is CTR.CTL.EN then d
  else if d.accOk 0 && d.accOk 1 then
    let d := if d.is CTR.CTL.INIT_DONE then d else (accInit 1 (accInit 0 d)).set CTR.CTL.INIT_DONE 1
    d.set CTR.CTL.EN 1
  else (d.set CTR.CTL.CFG_ERR 1).raise EV_CTR_CFG_ERR

/-- CTR_ENABLE: a write `v` of CTR.CTL with EN = 1. -/
def execCtrEnable (v : Nat) (s : State) : Out := hostAct s CTR.CTL.EN (fun d => d.ctrCtlWrite (setBit v 0))

/-- A write of CTR.SYNC (R421): it replaces a pending sync; without a running reader it completes at once. -/
def Dev.syncWrite (d : Dev) (token : Nat) : Dev :=
  let d := (d.set CTR.SYNC.TOKEN token).set CTR.SYNC_DONE.PEND 1
  if d.is CTR.CTL.EN then d else d.syncDone

/-- CTR_SYNC. -/
def execCtrSync (token : Nat) (s : State) : Out := hostAct s CTR.SYNC.TOKEN (fun d => d.syncWrite token)

-- Bandwidth windows (R427, R428).

/-- The window of port index `j` of slice `s` ends, or the first one starts. -/
def bwEndEff (s j : Nat) (d : Dev) : Dev :=
  let k := 34 * s + j
  let rx := sget d.ctr.bwRx k 0
  let tx := sget d.ctr.bwTx k 0
  let live := sget d.ctr.bwLive k 0
  let d := { d with ctr.bwRx := sset d.ctr.bwRx k 0 0, ctr.bwTx := sset d.ctr.bwTx k 0 0, ctr.bwLive := sset d.ctr.bwLive k (d.tick + 1) 0 }
  if live = 0 then d
  else
    let d := (d.set (SCT.BW_RX.OCTETS s j) rx).set (SCT.BW_RX.SEQ s j) (d.get (SCT.BW_RX.SEQ s j) + 1)
    let d := (d.set (SCT.BW_TX.OCTETS s j) tx).set (SCT.BW_TX.SEQ s j) (d.get (SCT.BW_TX.SEQ s j) + 1)
    let d := d.set (SCT.BW_PEAK.RX_PEAK s j) (max (d.get (SCT.BW_PEAK.RX_PEAK s j)) (rx / 64))
    let d := d.set (SCT.BW_PEAK.TX_PEAK s j) (max (d.get (SCT.BW_PEAK.TX_PEAK s j)) (tx / 64))
    let thr := d.get (SCT.BW_CFG.THR s j) * 64
    if Nat.blt thr rx || Nat.blt thr tx then (d.setBitF (SCT.BW_HIGH.HIGH s) j).raiseMs (EV_SCT_BW_HIGH s) else d

/-- BW_WINDOW_END of port index `j` of slice `s`: the tick count is a multiple of the window. -/
def execBwWindowEnd (sl j : Nat) (s : State) : Out :=
  let sl := sl % 8
  let j := j % 34
  act s (fun d => d.is (SCT.BW_CFG.EN sl j) && !d.sliceParked sl && d.tick % (d.get (SCT.BW_CFG.WIN_US sl j) * 1000) == 0 &&
      sget d.ctr.bwLive (34 * sl + j) 0 != d.tick + 1)
    (bwEndEff sl j)

/-- Whether slice `s` has a port of index `j`: the management port belongs to slice 0, elsewhere its registers are reserved (R430). -/
def bwPort (s j : Nat) : Bool := j != 32 || s == 0

/-- A write of SCT.BW_CFG_j: a change of WIN_US, WIRE or EN discards the window in progress. -/
def Dev.bwCfgWrite (d : Dev) (s j v : Nat) : Dev :=
  if !bwPort s j then d else
  let sig := fun (d : Dev) => (d.get (SCT.BW_CFG.WIN_US s j), d.get (SCT.BW_CFG.WIRE s j), d.get (SCT.BW_CFG.EN s j))
  let old := sig d
  let d := (((d.set (SCT.BW_CFG.THR s j) (bits v 63 32)).set (SCT.BW_CFG.EN s j) (bits v 21 21)).set (SCT.BW_CFG.WIRE s j) (bits v 20 20))
  let d := if (Rule.inR 1 1000000).ok (bits v 19 0) then d.set (SCT.BW_CFG.WIN_US s j) (bits v 19 0) else d
  let k := 34 * s + j
  if sig d = old then d
  else { d with ctr.bwRx := sset d.ctr.bwRx k 0 0, ctr.bwTx := sset d.ctr.bwTx k 0 0, ctr.bwLive := sset d.ctr.bwLive k 0 0 }

/-- BW_CFG_WRITE. -/
def execBwCfgWrite (sl j v : Nat) (s : State) : Out :=
  hostAct s (SCT.BW_CFG.WIN_US (sl % 8) (j % 34)) (fun d => d.bwCfgWrite (sl % 8) (j % 34) v)

/-- BW_PEAK_READ: the read of SCT.BW_PEAK_j returns the peaks and clears them. -/
def execBwPeakRead (sl j : Nat) (s : State) : Out :=
  let sl := sl % 8
  let j := j % 34
  hostReadAct s (SCT.BW_PEAK.RX_PEAK sl j) 8 (fun d =>
    ((d.hostRead [d.get (SCT.BW_PEAK.RX_PEAK sl j) + d.get (SCT.BW_PEAK.TX_PEAK sl j) * 2 ^ 32]).set (SCT.BW_PEAK.RX_PEAK sl j) 0).set (SCT.BW_PEAK.TX_PEAK sl j) 0)

end Sys2Proof.Machine
end

