-- ==== Sys2Proof/Machine/Epoch.lean ====
section
/-! DEFINITION. Host fences, the locks, arming a partition, and the life of epochs (spec/02 R31 to R45; spec/14 R354 for the check at ARM). -/

namespace Sys2Proof.Machine

open Sys2Proof

-- Fences and locks.

/-- A write of GLB.HOST_FENCE (R31): it replaces a fence that is pending. -/
def Dev.fenceWrite (d : Dev) (token : Nat) : Dev :=
  { (d.set GLB.HOST_FENCE.TOKEN token).set GLB.FENCE_DONE.PEND 1 with ep.fenceAt := d.tick }

/-- Whether a host fence that began at tick `t0` may end: while a lower layer retries it waits, until 60 µs from its write (R33, R409). -/
def Dev.fenceMayEnd (d : Dev) (t0 : Nat) : Bool :=
  !(d.hbmRetrying 0 || d.hbmRetrying 1 || d.d2dRetrying) || Nat.ble (t0 + 60000) d.tick

/-- HOST_FENCE_WRITE. -/
def execHostFenceWrite (token : Nat) (s : State) : Out := hostAct s GLB.HOST_FENCE.TOKEN (fun d => d.fenceWrite token)

/-- HOST_FENCE_COMPLETE: every host write before the fence was applied when its command ran (log entry 53). -/
def execHostFenceComplete (s : State) : Out :=
  act s (fun d => d.is GLB.FENCE_DONE.PEND && d.fenceMayEnd d.ep.fenceAt) (fun d =>
    (d.set GLB.FENCE_DONE.TOKEN (d.get GLB.HOST_FENCE.TOKEN)).set GLB.FENCE_DONE.PEND 0)

/-- LOCK_WRITE: a host write `v` of GLB.LOCK (R8). -/
def execLockWrite (v : Nat) (s : State) : Out :=
  hostAct s GLB.LOCK.LOCK (fun d => if bit v 0 then d.set GLB.LOCK.LOCK 1 else d)

/-- PATCH_LOCK_WRITE: a host write `v` of GLB.PATCH_LOCK (R235). -/
def execPatchLockWrite (v : Nat) (s : State) : Out :=
  hostAct s GLB.PATCH_LOCK.LOCK (fun d => if bit v 0 then d.set GLB.PATCH_LOCK.LOCK 1 else d)

-- The ownership check of one partition (R354, rules 0x24 and 0x25).

/-- The first engine of cluster `c` whose keeper has no valid slot in set `x` (R184); retired engines do not count (R402). -/
def Dev.keeperless (d : Dev) (c x : Nat) : Option Nat :=
  (List.range 8).find? (fun e => bit (d.get (ENG.CL_CTL.KEEPER_EN c)) e && !d.isRetired 6 (8 * c + e) && !(List.range 32).any (fun j => d.slot (8 * c + e) x j == 8))

/-- The first of ports 257 to 264 whose queues set `x` makes FIXED (R335). -/
def Dev.fixedPort (d : Dev) (x : Nat) : Option Nat :=
  (List.range 8).findSome? (fun i =>
    if (List.range 16).any (fun q => bit (d.get (TMU.QLAUNCH.W x (257 + i))) (4 * q + 2)) then some (257 + i) else none)

/-- What the check finds against set `x` of partition `n`: the rule's code and its detail. -/
def Dev.ownFault (d : Dev) (n x : Nat) : Option (Nat × Nat) :=
  if Nat.ble 8 n && Nat.blt n 72 then (d.keeperless (n - 8) x).map (fun e => (0x24, 8 * (n - 8) + e))
  else if n = 104 then (d.fixedPort x).map (fun p => (0x25, p))
  else none

/-- A refusal is logged in GLB.OWN_ERR; a later one overwrites it. -/
def Dev.ownErr (d : Dev) (n code detail : Nat) : Dev :=
  ((((d.set GLB.OWN_ERR.CODE code).set GLB.OWN_ERR.PARTITION n).set GLB.OWN_ERR.DETAIL detail).set GLB.OWN_ERR.VALID 1).raise EV_OWN_REFUSED

/-- The check of the staged set of partition `n`: the answer, and the device with a failure recorded. -/
def Dev.ownCheck (d : Dev) (n : Nat) : Bool × Dev :=
  match d.ownFault n (1 - d.get (GLB.PART_CTL.ACTIVE n)) with
  | none => (true, d)
  | some (c, x) => (false, ((d.set (GLB.PART_CTL.ARM n) 0).set (GLB.PART_CTL.ARM_REFUSED n) 1).ownErr n c x)

-- Arming (R41 to R43).

/-- A host write of GLB.PART_CTL_n. -/
def Dev.partCtlWrite (d : Dev) (n v : Nat) : Dev :=
  let d := if bit v 9 then d.set (GLB.PART_CTL.WRITE_REFUSED n) 0 else d
  let d := if bit v 8 then d.set (GLB.PART_CTL.ARM_REFUSED n) 0 else d
  if d.is GLB.EPOCH_STAT.ADV_BUSY && d.ep.advPart == some n then d
  else if !bit v 1 then d.set (GLB.PART_CTL.ARM n) 0
  else if d.is (GLB.PART_CTL.RETIRING n) then d.set (GLB.PART_CTL.ARM_REFUSED n) 1
  else match d.ownCheck n with
    | (true, d) => d.set (GLB.PART_CTL.ARM n) 1
    | (false, d) => d

/-- PART_ARM: a host write `v` of GLB.PART_CTL_n with ARM = 1. -/
def execPartArm (n v : Nat) (s : State) : Out :=
  hostAct s (GLB.PART_CTL.ACTIVE (n % 105)) (fun d => d.partCtlWrite (n % 105) (setBit v 1))

-- Epochs in flight (R44).

/-- Every frame that the device holds, wherever it stands. -/
def Dev.framesHeld (d : Dev) : List Pkt :=
  d.pipe ++ d.eng.dq.flatMap (fun e => e.2) ++ d.eng.ord.flatMap (fun e => e.2.filterMap (fun o => o.pkt)) ++
    d.eng.ctxs.filterMap (fun e => e.2.pkt) ++ d.swc.adms.map (fun a => a.pkt) ++ d.swc.crosses.map (fun c => c.pkt) ++
    d.swc.crosses.flatMap (fun c => c.resid.map (fun r => r.adm.pkt)) ++ d.swc.residues.map (fun r => r.adm.pkt) ++
    d.swc.queues.flatMap (fun e => e.2.ents.map (fun q => q.pkt)) ++ d.tmu.buoys.flatMap (fun e => e.2.map (fun q => q.pkt)) ++
    d.mac.tx.filterMap (fun e => e.2.map (fun q => q.pkt)) ++ d.mac.recirc.flatMap (fun e => e.2)

/-- The epochs of every packet and thread in flight. -/
def Dev.epochsHeld (d : Dev) : List Nat :=
  d.framesHeld.filterMap (fun k => k.epoch) ++ (d.eng.ctxs.filter (fun e => e.2.st != .free)).filterMap (fun e => e.2.epoch)

/-- Whether epoch `e` is live. -/
def Dev.epochLive (d : Dev) (e : Nat) : Bool := d.get GLB.EPOCH_CUR.CUR == e || d.epochsHeld.contains e

/-- GLB.EPOCH_STAT.LIVE. -/
def Dev.liveMask (d : Dev) : Nat := (List.range 8).foldl (fun m e => if d.epochLive e then m + 2 ^ e else m) 0

/-- The oldest live epoch: the largest age. -/
def Dev.oldest (d : Dev) : Nat :=
  (List.range 8).foldl (fun o e => if d.epochLive e && Nat.blt (d.age o) (d.age e) then e else o) (d.get GLB.EPOCH_CUR.CUR)

/-- Units of 10 µs since the oldest live epoch was current. -/
def Dev.oldestAge (d : Dev) : Nat :=
  let o := d.oldest
  if o = d.get GLB.EPOCH_CUR.CUR then 0 else min 65535 ((d.tick - sget d.ep.epochEnd o 0) / 10000)

-- The advance (Table 2.12).

/-- The partitions that are armed. -/
def Dev.armed (d : Dev) : List Nat := (List.range 105).filter (fun n => d.is (GLB.PART_CTL.ARM n))

/-- A write of GO = 1 to GLB.EPOCH_ADV. -/
def Dev.advGo (d : Dev) : Dev :=
  let next := (d.get GLB.EPOCH_CUR.CUR + 1) % 8
  if d.is GLB.EPOCH_STAT.ADV_BUSY || Nat.blt 1 d.armed.length || d.epochLive next then
    (d.set GLB.EPOCH_STAT.ADV_REFUSED 1).raise EV_EPOCH_ADV_REFUSED
  else { d.set GLB.EPOCH_STAT.ADV_BUSY 1 with ep.advPart := d.armed.head?, ep.advAt := d.tick }

/-- EPOCH_ADV_GO. -/
def execEpochAdvGo (s : State) : Out := hostAct s GLB.EPOCH_ADV.GO (fun d => d.advGo)

/-- Step 4: the stamp. A check that fails here switches nothing (R354); an octet's new port mode takes its ports through R51. -/
def stampEff (d : Dev) : Dev :=
  let e := d.get GLB.EPOCH_CUR.CUR
  let e' := (e + 1) % 8
  let part := d.ep.advPart
  let d := { (d.set GLB.EPOCH_CUR.CUR e').set GLB.EPOCH_STAT.ADV_BUSY 0 with
    ep.advPart := none, ep.epochEnd := sset d.ep.epochEnd e d.tick 0, ep.drainWarned := clrBit d.ep.drainWarned e' }
  match part with
  | none => d
  | some n => match d.ownCheck n with
    | (false, d) => d
    | (true, d) =>
      let old := d.octetMode (n - 72)
      let d := (((d.set (GLB.PART_CTL.ACTIVE n) (1 - d.get (GLB.PART_CTL.ACTIVE n))).set (GLB.PART_CTL.SWITCH_EPOCH n) e').set
        (GLB.PART_CTL.RETIRING n) 1).set (GLB.PART_CTL.ARM n) 0
      if Nat.ble 72 n && Nat.blt n 104 then d.octetSwitch (n - 72) old else d

/-- EPOCH_STAMP: the implicit fence has completed. -/
def execEpochStamp (s : State) : Out := act s (fun d => d.is GLB.EPOCH_STAT.ADV_BUSY && d.fenceMayEnd d.ep.advAt) stampEff

/-- EPOCH_RETIRE of partition `n`: no packet or thread of an epoch older than its switch is in flight. -/
def execEpochRetire (n : Nat) (s : State) : Out :=
  let n := n % 105
  act s (fun d => d.is (GLB.PART_CTL.RETIRING n) && Nat.ble (d.age d.oldest) (d.age (d.get (GLB.PART_CTL.SWITCH_EPOCH n))))
    (fun d => d.set (GLB.PART_CTL.RETIRING n) 0)

/-- EPOCH_DRAIN_WARN: once for the oldest epoch (R44). -/
def execEpochDrainWarn (s : State) : Out :=
  act s (fun d => d.get GLB.EPOCH_CFG.DRAIN_WARN != 0 && Nat.ble (d.get GLB.EPOCH_CFG.DRAIN_WARN) d.oldestAge && !bit d.ep.drainWarned d.oldest)
    (fun d => ({ d with ep.drainWarned := setBit d.ep.drainWarned d.oldest } : Dev).raise EV_EPOCH_DRAIN_SLOW)

end Sys2Proof.Machine
end

