-- ==== Sys2Proof/Machine/Debug.lean ====
section
/-! DEFINITION. The engine debug port: its commands, registers and context windows, as the host and JTAG reach them (spec/15 R378 to R381, Tables 15.10 and 15.11). -/

namespace Sys2Proof.Machine

open Sys2Proof

-- Commands (Table 15.10).

/-- HALT, or HALT_RELEASE with `rel`, of context `n`: the status and the effect. -/
def dbgHalt (n : Nat) (rel : Bool) (d : Dev) : Nat × Dev :=
  let x := d.ctx n
  match x.st with
  | .free | .faulted => (2, d)
  | .halted => (0, if rel && !x.relHalt then
      let d := d.doHalt n true false
      d.setCtx n { d.ctx n with byBp := x.byBp }
    else d)
  | .waitEvent | .keeperIdle => (0, d.doHalt n rel false)
  | .ready => (0, if x.cur.isNone then d.doHalt n rel false else d.setCtx n { x with haltReq := if rel then 2 else 1 })
  | .waitMem => (0, d.setCtx n { x with haltReq := if rel then 2 else 1 })

/-- The halted thread goes on at its PC; `skip` executes its word without halting on it. A reclaimed channel shows as CHANNEL_LOST (R198). -/
def dbgGo (n : Nat) (skip : Bool) (d : Dev) : Dev :=
  let x := d.ctx n
  let x := if x.chanLost then { x.setCond 0x09 true with chanLost := false } else x
  d.setCtx n { x with st := .ready, byBp := false, skipBp := skip }

/-- RESUME of context `n`. A FAULTED keeper restarts through the debug port (R204): RESUME gives up what it holds and starts it at its entry (log entry 110). -/
def dbgResume (n : Nat) (d : Dev) : Nat × Dev :=
  let x := d.ctx n
  if x.st = .halted then
    let d := dbgGo n x.byBp d
    (0, d.setCtx n { d.ctx n with relHalt := false })
  else if x.st == .faulted && d.isKeeper n then (0, (d.dropThread n).startKeeper (n / 64) (n / 8 % 8))
  else (3, d)

/-- STEP of context `n`: DONE stays 0 until the word is over. -/
def dbgStep (c n : Nat) (d : Dev) : Dev :=
  if (d.ctx n).st = .halted then
    let d := dbgGo n true d
    let d := d.setCtx n { d.ctx n with stepping := true }
    { d.set (DBG.CMD.DONE c) 0 with eng.stepCmd := sset d.eng.stepCmd c (n + 1) 0 }
  else d.set (DBG.CMD.STATUS c) 3

/-- Runs debug command `op` on cluster `c`, context number `n`. -/
def dbgRun (op c n : Nat) (d : Dev) : Dev :=
  let all := fun (f : Nat → Dev → Dev) => (List.range 64).foldl (fun (d : Dev) t => f (64 * c + t) d) d
  let fin := fun (r : Nat × Dev) => r.2.set (DBG.CMD.STATUS c) r.1
  match op with
  | 0 => fin (dbgHalt n false d)
  | 1 => fin (dbgHalt n true d)
  | 2 => fin (dbgResume n d)
  | 3 => dbgStep c n d
  | 4 => fin (0, all (fun m d => (dbgHalt m false d).2))
  | 5 => fin (0, all (fun m d => if (d.ctx m).st = .halted then (dbgResume m d).2 else d))
  | _ => fin (6, d)

/-- A write of DBG.CMD_c by its owner; with GO while DONE is 0 it is ignored. -/
def Dev.dbgCmdWrite (d : Dev) (c v : Nat) : Dev :=
  let put := fun (d : Dev) => (d.set (DBG.CMD.OP c) (bits v 2 0)).set (DBG.CMD.CONTEXT c) (bits v 8 3)
  if !bit v 17 then put d
  else if !d.is (DBG.CMD.DONE c) then d
  else dbgRun (bits v 2 0) c (64 * c + bits v 8 3) (put d)

-- Ownership (R378).

/-- Whether a context of cluster `c` is HALTED. -/
def Dev.anyHalted (d : Dev) (c : Nat) : Bool := (List.range 64).any (fun t => (d.ctx (64 * c + t)).st == .halted)

/-- A write of DBG.CTL_c from path `path`: OWNER from either path while no context is HALTED, the rest from the owner. -/
def Dev.dbgCtlWrite (d : Dev) (path c v : Nat) : Dev :=
  let own := d.get (DBG.CTL.OWNER c)
  let d := if d.anyHalted c then d else d.set (DBG.CTL.OWNER c) (bits v 0 0)
  if own = path then
    let d := ((d.set (DBG.CTL.BRK_EN c) (bits v 1 1)).set (DBG.CTL.BP_RELEASE c) (bits v 2 2)).set (DBG.CTL.HOLD_DISPATCH c) (bits v 3 3)
    if bit v 4 then d.set (DBG.CTL.FOREIGN c) 0 else d
  else if d.get (DBG.CTL.OWNER c) = path then d
  else d.set (DBG.CTL.FOREIGN c) 1

-- Context windows (R381).

/-- The state word of context `n` (Table 15.11). -/
def Dev.stateWord (d : Dev) (n : Nat) : Nat :=
  let x := d.ctx n
  let st := match x.st with
    | .free => 0 | .ready => 1 | .waitMem => 2 | .waitEvent => 3 | .faulted => 4 | .halted => 5 | .keeperIdle => 6
  x.pc % 8192 + st * 2 ^ 13 + b2n (x.st == .halted && x.relHalt) * 2 ^ 16 + b2n x.byBp * 2 ^ 17 +
    (List.range 19).foldl (fun m j => if x.test (d.isKeeper n) none j then m + 2 ^ (20 + j) else m) 0

/-- The return stack, top in [12:0]. -/
def stackWord (x : Ctx) : Nat := (x.stack.take 4).foldr (fun a m => a % 8192 + m * 8192) 0

/-- The header window of a context, 256 bytes. -/
def Ctx.headerWin (x : Ctx) : List Byte :=
  match x.pkt with
  | some k => sliceB (k.body.take k.winLen) 0 256
  | none => List.replicate 256 0

/-- The 64-bit word at offset `o` of the context windows of cluster `c`. -/
def Dev.dbgWinRead (d : Dev) (c o : Nat) : Nat :=
  let hdr := Nat.ble 0x9000 o
  let n := 64 * c + (if hdr then (o - 0x9000) / 0x100 else (o - 0x1000) / 0x200)
  let r := (o - 0x1000) % 0x200
  let x := d.ctx n
  if !hdr && r == 0x140 then d.stateWord n
  else if x.st != .halted then 0
  else if hdr then leNat (sliceB x.headerWin (o % 0x100) 8)
  else if Nat.blt r 0x100 then (x.p (r / 8)).toNat
  else if Nat.blt r 0x140 then Dev.dword x ((r - 0x100) / 8)
  else if r = 0x148 then stackWord x
  else 0

/-- A write of the word at offset `o` of the context windows, applied while the context is HALTED; the bytes of `v` at and above `lo`, below `hi`, are written. -/
def Dev.dbgWinWrite (d : Dev) (c o lo hi v : Nat) : Dev :=
  let hdr := Nat.ble 0x9000 o
  let n := 64 * c + (if hdr then (o - 0x9000) / 0x100 else (o - 0x1000) / 0x200)
  let r := (o - 0x1000) % 0x200
  let x := d.ctx n
  let mix := fun (old : Nat) => leNat ((natLE 8 old).take lo ++ ((natLE 8 v).drop lo).take (hi - lo) ++ (natLE 8 old).drop hi)
  if x.st != .halted then d
  else if hdr then
    match x.pkt with
    | some k =>
      let bs := ((natLE 8 v).drop lo).take (hi - lo)
      let at_ := o % 0x100 + lo
      d.setCtx n { x with pkt := some { k with body := writeB k.body at_ (bs.take (k.winLen - at_)) } }
    | none => d
  else if Nat.blt r 0x100 then (d.setCtx n (x.setP (r / 8) (BitVec.ofNat 64 (mix (x.p (r / 8)).toNat)))).mend (regKey n (r / 8))
  else if r = 0x118 then (d.setCtx n { x with pkt := x.pkt.map (fun k => k.writeD3 (mix k.d3)) }).mend (regKey n 35)
  else if r = 0x140 && lo == 0 then d.setCtx n { x with pc := v % 8192 }
  else d

-- The port as a whole.

/-- DBG.CHAN_c_i. -/
def Dev.chanWord (d : Dev) (c i : Nat) : Nat :=
  let x := d.chan c i
  x.st % 4 + (if x.st = 1 then x.holder % 64 * 4 else 0) + x.staged.foldl (fun m e => m + 2 ^ (8 + e.1 % 8)) 0 +
    (if x.st = 1 then min 65535 ((d.tick - x.openAt) / 1000) * 2 ^ 16 else 0)

/-- DBG.HALT_STAT_c. -/
def Dev.haltStat (d : Dev) (c : Nat) : Nat :=
  (List.range 64).foldl (fun m t => if (d.ctx (64 * c + t)).st = .halted then m + 2 ^ t else m) 0

/-- The 64-bit word at offset `o` of cluster `c`'s debug port. -/
def Dev.dbgRead (d : Dev) (c o : Nat) : Nat :=
  if Nat.ble 0x1000 o && Nat.blt o 0xD000 then d.dbgWinRead c o
  else if o = 0x48 then d.haltStat c
  else if Nat.ble 0x100 o && Nat.blt o 0x180 then d.chanWord c ((o - 0x100) / 8)
  else match findReg layoutFlow (0x3000000 + 0x10000 * c + o) with
    | some (a, r) => d.regHeld a r
    | none => 0

/-- A write `v` to the 64-bit word at offset `o` of cluster `c`'s debug port from path `path` (0 PCIe, 1 JTAG), of the bytes from `lo` to below `hi`; `v` holds the whole register. -/
def Dev.dbgWrite (d : Dev) (path c o lo hi v : Nat) : Dev :=
  if o = 0 then d.dbgCtlWrite path c v
  else if d.get (DBG.CTL.OWNER c) != path then d.set (DBG.CTL.FOREIGN c) 1
  else if o = 0x40 then d.dbgCmdWrite c v
  else if Nat.ble 0x1000 o && Nat.blt o 0xD000 then d.dbgWinWrite c o lo hi v
  else match findReg layoutFlow (0x3000000 + 0x10000 * c + o) with
    | some (a, r) => d.regWrite a r v
    | none => d

/-- DBG_CTL_WRITE: a host write of DBG.CTL_c. -/
def execDbgCtlWrite (c v : Nat) (s : State) : Out := hostAct s (DBG.CTL.OWNER (c % 64)) (fun d => d.dbgWrite 0 (c % 64) 0 0 8 v)

/-- A host write of DBG.CMD_c with GO = 1, OP `op` and context `t`. -/
def dbgCommand (op c t : Nat) (s : State) : Out :=
  hostAct s (DBG.CMD.OP (c % 64)) (fun d => d.dbgWrite 0 (c % 64) 0x40 0 8 (op + t % 64 * 8 + 2 ^ 17))

/-- HALT. -/
def execHalt (c t : Nat) (s : State) : Out := dbgCommand 0 c t s
/-- HALT_RELEASE. -/
def execHaltRelease (c t : Nat) (s : State) : Out := dbgCommand 1 c t s
/-- RESUME. -/
def execDbgResume (c t : Nat) (s : State) : Out := dbgCommand 2 c t s
/-- STEP. -/
def execStep (c t : Nat) (s : State) : Out := dbgCommand 3 c t s
/-- HALT_ALL. -/
def execHaltAll (c : Nat) (s : State) : Out := dbgCommand 4 c 0 s
/-- RESUME_ALL. -/
def execResumeAll (c : Nat) (s : State) : Out := dbgCommand 5 c 0 s

/-- DBG_ACCESS: a JTAG access to the debug space at offset `o`; an offset beyond it, and a parked cluster's port, take no write and read as reserved and as unreachable (log entry 77). -/
def execDbgAccess (wr : Bool) (o v : Nat) (s : State) : Out :=
  act s always (fun d =>
    let o := o % 2 ^ 32 / 8 * 8
    let c := o / 0x10000
    let d := { d with host.tapIr := 0x31 }
    if Nat.ble 64 c then (if wr then d else { d with host.tapData := 0 })
    else if d.clusterParked c then (if wr then d else { d with host.tapData := 2 ^ 64 - 1 })
    else if wr then d.dbgWrite 1 c (o % 0x10000) 0 8 (v % 2 ^ 64)
    else { d with host.tapData := d.dbgRead c (o % 0x10000) })

end Sys2Proof.Machine
end

