-- ==== Sys2Proof/Machine/Bmc.lean ====
section
/-! DEFINITION. GPIO, the SMBus view for the board management controller, the TAP and the fuses (spec/15 R372 to R377). -/

namespace Sys2Proof.Machine

open Sys2Proof

-- The beacon and GPIO (R372, R373).

/-- GLB.BEACON. -/
def Dev.beacon (d : Dev) : Nat :=
  (List.range 32).foldl (fun m g =>
    if Nat.land (d.get (GLB.EVT_STAT.STAT g)) (65535 - d.get (GLB.EVT_MASK.MASK g)) != 0 then m + 2 ^ g else m) 0

/-- The level that function `fn` of Table 15.7 drives. -/
def Dev.gpioFn (d : Dev) (fn : Nat) : Bool :=
  match fn with
  | 1 => d.beacon != 0
  | 2 => (List.range 8).any (fun s => d.is (PWR.PACE_STAT.LOW_ACTIVE s))
  | 3 => d.gateOpen
  | _ => (List.range 512).any (fun e => d.is (ENG.FAULT_HOST.VALID (e / 8) (e % 8)))

/-- Whether `fn` is a function of Table 15.7; a reserved one is treated as a plain pin. -/
def gpioFnUsed (fn : Nat) : Bool := Nat.ble 1 fn && Nat.ble fn 4

/-- Whether GPIO `i` is driven by the device: by the boundary cells while they hold the balls, HIGHZ apart; else by its function or as an output. -/
def Dev.gpioDriven (d : Dev) (i : Nat) : Bool :=
  if d.host.balls then !d.host.floating else gpioFnUsed (d.get (GLB.GPIO_FN.FN i)) || bit (d.get GLB.GPIO_OE.OE) i

/-- The level at the ball of GPIO `i`; the board drives it where the device does not. -/
def Dev.gpioLevel (d : Dev) (i : Nat) : Bool :=
  let fn := d.get (GLB.GPIO_FN.FN i)
  if !d.gpioDriven i then bit d.pin.gpioExt i
  else if d.host.balls then Config.cellLevel d.host.cells i
  else if gpioFnUsed fn then d.gpioFn fn
  else bit (d.get GLB.GPIO_OUT.OUT) i

/-- GLB.GPIO_IN. -/
def Dev.gpioIn (d : Dev) : Nat := (List.range 16).foldl (fun m i => if d.gpioLevel i then m + 2 ^ i else m) 0

/-- A host write of GLB.GPIO_FN_i: ignored where it would give a second pin a function in use. -/
def Dev.gpioFnWrite (d : Dev) (i v : Nat) : Dev :=
  let fn := v % 8
  if gpioFnUsed fn && (List.range 16).any (fun j => j != i && d.get (GLB.GPIO_FN.FN j) == fn) then d.raise EV_OWN_REFUSED
  else d.set (GLB.GPIO_FN.FN i) fn

/-- GPIO_FN_WRITE. -/
def execGpioFnWrite (i v : Nat) (s : State) : Out := hostAct s (GLB.GPIO_FN.FN (i % 16)) (fun d => d.gpioFnWrite (i % 16) v)

-- Identification (R370).

def Dev.dieId (_ : Dev) : Nat := 0x01512000 + (if Config.isES then 0xE else 1)
def Dev.uidLo (_ : Dev) : Nat := Config.uid.toNat % 2 ^ 32
def Dev.uidHi (_ : Dev) : Nat := Config.uid.toNat / 2 ^ 32

/-- The fields of GLB.BOOT_STAT. -/
def Dev.bootStat (d : Dev) : Nat :=
  d.get GLB.BOOT_STAT.STATE + d.get GLB.BOOT_STAT.BOOT * 2 ^ 4 + d.get GLB.BOOT_STAT.XSPI_SPEED * 2 ^ 6 + d.get GLB.BOOT_STAT.SIG_FUSE * 2 ^ 7 +
    d.get GLB.BOOT_STAT.LOADED * 2 ^ 8 + d.get GLB.BOOT_STAT.FALLBACK * 2 ^ 10 + d.get GLB.BOOT_STAT.ERR_FIRST * 2 ^ 16 + d.get GLB.BOOT_STAT.ERR_LAST * 2 ^ 24

-- SMBus (R374, R375).

/-- Whether the device is held in reset: SYS_RESET_N is low, or VDD_CORE has dipped. -/
def Dev.inReset (d : Dev) : Bool := !d.pin.sysResetN || d.pwr.dip.isSome

/-- The SMBus packet error code: CRC-8 with polynomial x^8 + x^2 + x + 1 (PRESUMED, log entry 54). -/
def crc8Bit (c : Nat) : Nat := if Nat.ble 128 c then Nat.xor (2 * c % 256) 7 else 2 * c % 256
def crc8 (bs : List Byte) : Nat :=
  bs.foldl (fun c b => crc8Bit (crc8Bit (crc8Bit (crc8Bit (crc8Bit (crc8Bit (crc8Bit (crc8Bit (Nat.xor c b.toNat))))))))) 0

/-- What the target sends for command code `code`: the data, and the PEC byte where the master clocks one more. -/
def Dev.smbSend (d : Dev) (code : Nat) (pec : Bool) (data : List Byte) : Dev :=
  let a := 2 * (0x58 + bits d.pin.straps 5 3)
  let sum := crc8 ([BitVec.ofNat 8 a, BitVec.ofNat 8 code, BitVec.ofNat 8 (a + 1)] ++ data)
  { d with host.bus := data ++ (if pec then [BitVec.ofNat 8 sum] else []) }

/-- Whether the SMBus target does not acknowledge: the device is in reset, or the boundary cells hold the bus's balls (R376, log entry 96). -/
def Dev.smbDeaf (d : Dev) : Bool := d.inReset || d.host.balls

/-- An SMBus read: a target that does not acknowledge sends nothing. -/
def smbCmd (f : Dev → Dev) (s : State) : Out := act s always (fun d => if d.smbDeaf then { d with host.bus := [] } else f d)

/-- A Block Read: its byte count comes first. -/
def smbBlock (code n : Nat) (pec : Bool) (v : Dev → Nat) (s : State) : Out :=
  smbCmd (fun d => d.smbSend code pec (BitVec.ofNat 8 n :: natLE n (v d))) s

/-- IDENT. -/
def execIdent (pec : Bool) (s : State) : Out := smbBlock 0 12 pec (fun d => d.dieId + d.uidLo * 2 ^ 32 + d.uidHi * 2 ^ 64) s
/-- BEACON. -/
def execBeacon (pec : Bool) (s : State) : Out := smbBlock 1 4 pec Dev.beacon s
/-- BOOT. -/
def execBoot (pec : Bool) (s : State) : Out := smbBlock 2 4 pec Dev.bootStat s

/-- A Read Word. -/
def smbWord (code : Nat) (pec : Bool) (v : Dev → Nat × Dev) (s : State) : Out :=
  smbCmd (fun d => (v d).2.smbSend code pec (natLE 2 (v d).1)) s

/-- TEMP_MAX: `t0` and `t1` are what the sensors of the halves show, in 0.125 °C (log entry 55). -/
def execTempMax (pec : Bool) (t0 t1 : Int) (s : State) : Out := smbWord 0x10 pec (fun d => (toWord 16 (max t0 t1), d)) s
/-- TEMP_H0. -/
def execTempH0 (pec : Bool) (t : Int) (s : State) : Out := smbWord 0x11 pec (fun d => (toWord 16 t, d)) s
/-- TEMP_H1. -/
def execTempH1 (pec : Bool) (t : Int) (s : State) : Out := smbWord 0x12 pec (fun d => (toWord 16 t, d)) s
/-- VCORE_REQ. -/
def execVcoreReq (pec : Bool) (s : State) : Out := smbWord 0x18 pec (fun d => (d.get PWR.AVS_STAT.V_REQ, d)) s
/-- VCORE_MEAS: the rail's voltage to ±10 mV, a free value in that range. -/
def execVcoreMeas (pec : Bool) (s : State) : Out :=
  smbWord 0x19 pec (fun d => (d.pwr.vMeas + d.fresh.1 % 21 - 10, d.fresh.2)) s
/-- POWER: the estimate is a free value; the manual gives no formula. -/
def execPower (pec : Bool) (s : State) : Out := smbWord 0x1A pec (fun d => (d.fresh.1 % 65536, d.fresh.2)) s
/-- PACE_MIN: over the slices that are not parked (log entry 74). -/
def execPaceMin (pec : Bool) (s : State) : Out :=
  smbWord 0x1B pec (fun d =>
    ((((List.range 8).filter (fun s => !d.sliceParked s)).map (fun s => d.get (PWR.PACE_STAT.PACE s))).min?.getD 0, d)) s

/-- HEALTH (Table 15.8). -/
def Dev.health (d : Dev) : Nat :=
  b2n ((List.range 8).any (fun s => d.is (PWR.PACE_STAT.LOW_ACTIVE s))) + b2n (d.is PWR.AVS_STAT.NO_REPLY) * 2 +
    b2n d.thermalLimit * 4 + b2n (d.get GLB.BOOT_STAT.STATE == 8) * 8
def execHealth (pec : Bool) (s : State) : Out := smbCmd (fun d => d.smbSend 0x20 pec (natLE 1 d.health)) s

/-- SMBUS_NAK: nothing is sent. -/
def execSmbusNak (s : State) : Out := smbCmd (fun d => { d with host.bus := [] }) s
/-- SMBUS_SCL_TIMEOUT: the transaction is over. -/
def execSmbusSclTimeout (s : State) : Out := smbCmd (fun d => { d with host.bus := [] }) s

-- The TAP (R376).

/-- The boundary cells take the balls, or leave them floating: every link drops until TAP reset. -/
def Dev.takeBalls (d : Dev) (floating : Bool) : Dev :=
  let d := { d with host.balls := true, host.floating := floating }
  (List.range 257).foldl (fun (d : Dev) p => if d.linkUp p || d.bringAt p != 0 then (d.linkDown p).setBring p 0 else d) d

/-- A test instruction: `cells` are scanned into the boundary cells. -/
def tapTest (ir cells : Nat) (s : State) : Out :=
  act s always (fun d => ({ d with host.tapIr := ir, host.cells := cells } : Dev).takeBalls false)

/-- EXTEST. -/
def execExtest (cells : Nat) (s : State) : Out := tapTest 0 cells s
/-- EXTEST_PULSE. -/
def execExtestPulse (cells : Nat) (s : State) : Out := tapTest 5 cells s
/-- EXTEST_TRAIN. -/
def execExtestTrain (cells : Nat) (s : State) : Out := tapTest 6 cells s

/-- SAMPLE/PRELOAD: the cells are preloaded, and the data register holds the sampled balls, whose place in the chain the manual does not give: a free value. -/
def execSamplePreload (cells : Nat) (s : State) : Out :=
  act s always (fun d =>
    let (r, d) := d.fresh
    { d with host.tapIr := 1, host.cells := cells, host.tapData := r })

/-- IDCODE. -/
def execIdcode (s : State) : Out := act s always (fun d => { d with host.tapIr := 2, host.tapData := 0x0512074B })

/-- HIGHZ: every output is high-impedance. -/
def execHighz (s : State) : Out := act s always (fun d => ({ d with host.tapIr := 3, host.tapData := 0 } : Dev).takeBalls true)

/-- CLAMP: the boundary cells drive the outputs and the bypass register is selected. -/
def execClamp (s : State) : Out := act s always (fun d => ({ d with host.tapIr := 4, host.tapData := 0 } : Dev).takeBalls false)

/-- BYPASS, by its own or an unlisted code; a listed code is another command. -/
def execBypass (code : Nat) (s : State) : Out :=
  act s (fun _ => !([0, 1, 2, 3, 4, 5, 6, 0x30, 0x31].contains (code % 256))) (fun d => { d with host.tapIr := 0xFF, host.tapData := 0 })

/-- TAP_RESET: IDCODE is selected; the balls return to the device, whose ports start their bring-up again. -/
def execTapReset (s : State) : Out :=
  act s always (fun d =>
    let was := d.host.balls
    let d := { d with host.tapIr := 2, host.balls := false, host.floating := false }
    if was then (List.range 257).foldl (fun (d : Dev) p => d.startBring p 2) d else d)

-- Fuses (R377).

/-- FUSE at Capture-DR: the fuses as programmed and the status of the last command. -/
def Dev.fuseCapture (d : Dev) : Dev :=
  { d with host.tapIr := 0x30
           host.tapData := d.boot.progHash % 2 ^ 384 + b2n d.boot.progSig * 2 ^ 384 + d.boot.fuseStatus % 256 * 2 ^ 392 }

/-- A fuse command at Update-DR: BUSY while one runs, REFUSED by R377, else it runs. -/
def Dev.fuseUpdate (d : Dev) (cmd v : Nat) : Dev :=
  let st := d.get GLB.BOOT_STAT.STATE
  let b := d.boot
  if b.fuseCmd.isSome then { d with boot.fuseStatus := 1 }
  else if !(st == 7 || st == 8) || (cmd == 1 && b.progHash != 0) || (cmd == 2 && (b.progHash == 0 || b.progSig)) then { d with boot.fuseStatus := 2 }
  else { d with boot.fuseCmd := some (cmd, v % 2 ^ 384), boot.fuseAt := d.tick, boot.fuseStatus := 1 }

/-- PROG_HASH. -/
def execProgHash (hash : Nat) (s : State) : Out := act s always (fun d => d.fuseCapture.fuseUpdate 1 hash)
/-- PROG_SIG. -/
def execProgSig (s : State) : Out := act s always (fun d => d.fuseCapture.fuseUpdate 2 0)
/-- READ. -/
def execFuseRead (s : State) : Out := act s always (fun d => d.fuseCapture.fuseUpdate 3 0)

/-- FUSE_CMD_DONE, 20 ms after the command. -/
def execFuseCmdDone (s : State) : Out :=
  act s (fun d => d.boot.fuseCmd.isSome && Nat.ble (d.boot.fuseAt + 20000000) d.tick) (fun d =>
    let d' := { d with boot.fuseCmd := none, boot.fuseStatus := 0 }
    match d.boot.fuseCmd with
    | some (1, h) => { d' with boot.progHash := h }
    | some (2, _) => { d' with boot.progSig := true }
    | _ => d')

end Sys2Proof.Machine
end

