-- ==== Sys2Proof/Machine/Crypto.lean ====
section
/-! DEFINITION. SHA-384 and the check of an ECDSA P-384 signature, as the published standards define them (spec/14 R353 names them; PRESUMED, log entry 57). -/

namespace Sys2Proof.Machine

open Sys2Proof

-- SHA-384. Its constants are leading fraction bits of roots of primes, so they are computed here and not listed.

/-- The primes up to 409, the first eighty: none has a divisor below 23 but itself. -/
def shaPrimes : List Nat :=
  (List.range 410).filter (fun n => Nat.ble 2 n && [2, 3, 5, 7, 11, 13, 17, 19].all (fun q => n == q || n % q != 0))

/-- The integer `e`-th root of `n`, found digit by digit from the top; `k` bits are enough for it. -/
def intRoot (e : Nat) : Nat → Nat → Nat
  | 0, _ => 0
  | k + 1, n =>
    let r := 2 * intRoot e k (n / 2 ^ e)
    if Nat.ble ((r + 1) ^ e) n then r + 1 else r

/-- The first 64 fraction bits of the `e`-th root of `p`. -/
def rootFrac (e p : Nat) : Word64 := BitVec.ofNat 64 (intRoot e 70 (p * 2 ^ (64 * e)))

/-- The round constants: cube roots of the eighty primes. -/
def shaK : List Word64 := shaPrimes.map (rootFrac 3)

/-- The initial hash value: square roots of the ninth to sixteenth prime. -/
def shaInit : List Word64 := ((shaPrimes.drop 8).take 8).map (rootFrac 2)

/-- The sum without carry of `acc` and the rotations of `x` by the amounts listed. -/
def shaMix (x acc : Word64) (rs : List Nat) : Word64 := rs.foldl (fun s r => s ^^^ x.rotateRight r) acc

/-- The message schedule from its last 16 words, newest first: `n` more words, in order. -/
def shaSched : Nat → List Word64 → List Word64
  | 0, _ => []
  | n + 1, w =>
    let at_ := fun i => nthD w i 0
    let x := shaMix (at_ 1) (at_ 1 >>> 6) [19, 61] + at_ 6 + shaMix (at_ 14) (at_ 14 >>> 7) [1, 8] + at_ 15
    x :: shaSched n (x :: w.take 15)

/-- The working variables as two histories, newest first: a, b, c, d are the last four values of the one, e, f, g, h those of the other. -/
structure ShaVars where
  hi : List Word64
  lo : List Word64
deriving DecidableEq, Repr

/-- One round: each history gains a value and loses its oldest. `kw` is the round constant and its message word. -/
def shaRound (v : ShaVars) (kw : Word64 × Word64) : ShaVars :=
  let hi := fun i => nthD v.hi i 0
  let lo := fun i => nthD v.lo i 0
  let chosen := lo 2 ^^^ (lo 0 &&& (lo 1 ^^^ lo 2))
  let most := (hi 0 &&& (hi 1 ||| hi 2)) ||| (hi 1 &&& hi 2)
  let t := kw.1 + kw.2 + lo 3 + chosen + shaMix (lo 0) 0 [14, 18, 41]
  ⟨(t + most + shaMix (hi 0) 0 [28, 34, 39]) :: v.hi.take 3, (t + hi 3) :: v.lo.take 3⟩

/-- The block of 128 bytes as sixteen words. -/
def shaWords (bs : List Byte) : List Word64 := (List.range 16).map (fun i => BitVec.ofNat 64 (beAt bs (8 * i) 8))

/-- The compression of one block. -/
def shaBlock (h : List Word64) (bs : List Byte) : List Word64 :=
  let w := shaWords bs
  let v := (shaK.zip (w ++ shaSched 64 w.reverse)).foldl shaRound ⟨h.take 4, h.drop 4⟩
  List.zipWith (fun a b => a + b) h (v.hi ++ v.lo)

/-- The padding after `n` bytes. -/
def shaPad (n : Nat) : List Byte := 0x80 :: List.replicate ((239 - n % 128) % 128) 0 ++ natBE 16 (8 * n)

/-- Runs the compression over `n` blocks. -/
def shaRun : Nat → List Word64 → List Byte → List Word64
  | 0, h, _ => h
  | n + 1, h, bs => shaRun n (shaBlock h (bs.take 128)) (bs.drop 128)

/-- SHA-384, as a number whose first byte is the most significant. -/
def sha384 (bs : List Byte) : Nat :=
  let m := bs ++ shaPad bs.length
  ((shaRun (m.length / 128) shaInit m).take 6).foldl (fun n w => n * 2 ^ 64 + w.toNat) 0

-- P-384.

def p384P : Nat := 2 ^ 384 - 2 ^ 128 - 2 ^ 96 + 2 ^ 32 - 1
def p384N : Nat := 0xffffffffffffffffffffffffffffffffffffffffffffffffc7634d81f4372ddf581a0db248b0a77aecec196accc52973
def p384B : Nat := 0xb3312fa7e23ee7e4988e056be3f82d19181d9c6efe8141120314088f5013875ac656398d8a2ed19d2a85c8edd3ec2aef
def p384G : Nat × Nat :=
  (0xaa87ca22be8b05378eb1c71ef320ad746e1d3b628ba79b9859f741e082542a385502f25dbf55296c3a545e3872760ab7,
   0x3617de4a96262c6f5d9e98bf9292dc29f8f41dbd289a147ce9da3113b5f0b8c00a60b1ce1d7e819d7a431d7c90ea0e5f)

/-- `a` to the power of the low `n` bits of `e`, modulo `m`. -/
def powMod (m : Nat) : Nat → Nat → Nat → Nat
  | 0, _, _ => 1 % m
  | n + 1, a, e =>
    let r := powMod m n (a * a % m) (e / 2)
    if e % 2 = 1 then a * r % m else r

/-- The inverse modulo a prime. -/
def invMod (m a : Nat) : Nat := powMod m 384 (a % m) (m - 2)

/-- A point; none is the point at infinity. -/
abbrev Point := Option (Nat × Nat)

/-- The sum of two points of the curve. -/
def ecAdd (a b : Point) : Point :=
  let p := p384P
  match a, b with
  | none, b => b
  | a, none => a
  | some (x1, y1), some (x2, y2) =>
    if x1 = x2 && (y1 + y2) % p == 0 then none
    else
      let l := if x1 = x2 then (3 * x1 * x1 + (p - 3)) * invMod p (2 * y1) % p
        else (y2 + p - y1) * invMod p (x2 + p - x1) % p
      let x := (l * l + 2 * p - x1 - x2) % p
      some (x, (l * (x1 + p - x) + (p - y1)) % p)

/-- The multiple of a point by the low `n` bits of `k`. -/
def ecMul : Nat → Nat → Point → Point
  | 0, _, _ => none
  | n + 1, k, a =>
    let r := ecMul n (k / 2) (ecAdd a a)
    if k % 2 = 1 then ecAdd a r else r

/-- Whether a point lies on the curve. -/
def onCurve (x y : Nat) : Bool :=
  let p := p384P
  Nat.blt x p && Nat.blt y p && y * y % p == (x * x * x + (p - 3) * x + p384B) % p

/-- Whether (r, s) is a valid signature of hash `z` under the public key (x, y). -/
def ecdsaOk (x y r s z : Nat) : Bool :=
  let n := p384N
  if onCurve x y && r != 0 && Nat.blt r n && s != 0 && Nat.blt s n then
    let w := invMod n s
    match ecAdd (ecMul 384 (z * w % n) (some p384G)) (ecMul 384 (r * w % n) (some (x, y))) with
    | none => false
    | some (px, _) => px % n == r
  else false

end Sys2Proof.Machine
end

