-- ==== Sys2Proof/Machine/Reset.lean ====
section
/-! DEFINITION. Resets, the retirement map at boot, power failure and the flash controller's bursts (spec/14 R338 to R343, R359, R360; spec/17 R406, R411, R415; spec/20 R448). -/

namespace Sys2Proof.Machine

open Sys2Proof

-- The flash (R341, Table 14.12).

/-- Bytes of the flash; an erased byte reads 0xFF. -/
def Dev.flashBytes (d : Dev) (a : Nat) : Nat → List Byte
  | 0 => []
  | n + 1 => sget d.boot.flash a 0xFF :: d.flashBytes (a + 1) n

/-- Density of the flash in bytes. -/
def Dev.flashD (d : Dev) : Nat := 2 ^ d.get NVS.FL_INFO.DENSITY_LOG2

/-- Flash byte at which a slot starts: 0 A, 1 B (R342). -/
def Dev.slotBase (d : Dev) (slot : Nat) : Nat := if slot = 0 then 0 else d.flashD / 2

/-- The largest image of a slot (R342). -/
def Dev.slotMax (d : Dev) : Nat := min (d.flashD / 2) 0x8000000

/-- Erases the sector that holds byte `a`. -/
def Dev.flashErase (d : Dev) (a : Nat) : Dev :=
  let n := 2 ^ d.boot.sectorLog
  let b := a / n * n
  { d with boot.flash := d.boot.flash.filter (fun e => Nat.blt e.1 b || Nat.ble (b + n) e.1) }

/-- Programs bytes from `a` on, which clears bits only; the offsets in `lost` do not take. -/
def flashProg (lost : List Nat) (a : Nat) : Nat → List Byte → Sparse Byte → Sparse Byte
  | _, [], m => m
  | i, b :: bs, m => flashProg lost a (i + 1) bs (if lost.contains i then m else sset m (a + i) (sget m (a + i) 0xFF &&& b) 0xFF)

/-- Bytes of the staging area (R344). -/
def Dev.staged (d : Dev) (o n : Nat) : List Byte := d.rdBytes (tabA 0 o) n

/-- IMAGE_SIZE of the staged image. -/
def Dev.stagedSize (d : Dev) : Nat := leNat (d.staged 0x0C 4)

/-- The bytes, from the slot's start, of the page program at `pos`: up to the end of its page or of the image; the header is one program. -/
def Dev.pageRange (d : Dev) (f : FlashOp) : Nat × Nat :=
  if f.step = 5 then (0, 256)
  else
    let p := 2 ^ d.boot.pageLog
    let e := min ((f.pos / p + 1) * p) d.stagedSize
    (f.pos, e - f.pos)

/-- Makes the burst of the flash command in progress: an erase, or the program of the first `sent` bytes of its page. -/
def Dev.flashBurst (d : Dev) (lost : List Nat) (sent : Nat) : Dev :=
  let f := d.boot.flop
  let b := d.slotBase f.slot
  if f.op != 2 || f.deferAt != 0 then d
  else if f.step = 1 || f.step = 2 then d.flashErase (b + f.pos)
  else if f.step = 3 || f.step = 5 then
    let (o, n) := d.pageRange f
    { d with boot.flash := flashProg lost (b + o) 0 ((d.staged o n).take sent) d.boot.flash }
  else d

/-- A flash command ends with a status; a WRITE that does not end at step 6 leaves a slot that is no candidate (R360, log entry 98). -/
def Dev.flashEnd (d : Dev) (status : Nat) : Dev :=
  let f := d.boot.flop
  { (d.set NVS.FL_CTL.STATUS status).set NVS.FL_CTL.DONE 1 with
    boot.flop := {}, boot.unverified := if f.op = 2 then sset d.boot.unverified f.slot (if status = 0 then 0 else 1) 0 else d.boot.unverified }

-- Resets (R340, Table 14.2).

/-- Whether an address lies in the persistent store. -/
def inPs (a : Nat) : Bool := Nat.ble 0x8000000000 a && Nat.blt a 0x8001000000

/-- What a reset keeps beside the persistent store: the flash and the fuses, the boundary-scan chain, what lies outside the device, and the spare rows that repairs have used. -/
def Dev.keepBoot (d : Dev) : BootSt :=
  { BootSt.reset with
    flash := d.boot.flash, unverified := d.boot.unverified, sectorLog := d.boot.sectorLog, pageLog := d.boot.pageLog, keyHash := d.boot.keyHash, sigEn := d.boot.sigEn,
    progHash := d.boot.progHash, progSig := d.boot.progSig }

/-- The device after a reset of every block. -/
def Dev.cleared (d : Dev) : Dev :=
  { Dev.reset with
    tick := d.tick, freeCtr := d.freeCtr, nextId := d.nextId,
    mem := d.mem.filter (fun e => inPs e.1), bad := d.bad.filter (fun e => inPs e.1),
    pin := d.pin, boot := d.keepBoot,
    host := { HostSt.reset with tapIr := d.host.tapIr, cells := d.host.cells, balls := d.host.balls, floating := d.host.floating, tapData := d.host.tapData },
    pwr := { PwrSt.reset with tempH0 := d.pwr.tempH0, tempH1 := d.pwr.tempH1, vMeas := d.pwr.vMeas, dip := d.pwr.dip },
    flt := { FltSt.reset with pwrFail := d.flt.pwrFail, spareUsed := d.flt.spareUsed } }

/-- A WRITE of the flash ends before its step 6: the burst under way completes, a page with the bytes sent, and the slot is no candidate (R360). -/
def Dev.flashCut (d : Dev) (sent : Nat) : Dev :=
  if d.boot.flop.op != 2 then d else { d.flashBurst [] sent with boot.unverified := sset d.boot.unverified d.boot.flop.slot 1 0 }

/-- The burst at the head of the map queue stops, where the check lets one run (R415). -/
def Dev.mapStop (d : Dev) : Dev :=
  if d.flt.mapQ.isEmpty then d
  else match d.psCheck with
    | (true, d) => d.mapCut
    | (false, d) => d

/-- What a reset cuts short: `word` says that the word in progress of a persistent-store burst is still written, the host's or that of the map (R411, R447); a flash burst that has begun completes, a page with the bytes sent. -/
def Dev.resetCut (d : Dev) (word : Bool) (sent : Nat) : Dev :=
  let d := if !word then d else match d.flt.psCmd with
    | some c => if c.addr != 0 && c.status == 0 && !c.waiting then d.wr64 (psA (nthD c.data 0 0)) (nthD c.data 1 0) else d.mapStop
    | none => d.mapStop
  d.flashCut sent

/-- Copies fields from `d`. -/
def Dev.carry (r d : Dev) (l : List Fld) : Dev := l.foldl (fun (r : Dev) f => r.set f (d.get f)) r

/-- A cold reset; the device stays in it until RESET_RELEASE. -/
def Dev.coldReset (d : Dev) (word : Bool) (sent : Nat) : Dev :=
  let d := d.resetCut word sent
  d.cleared.set NVS.HU_STAT.PF (b2n d.flt.pwrFail)

/-- A soft reset: the straps stay as sampled, and the boot sequence starts again. -/
def Dev.softReset (d : Dev) (word : Bool) (sent : Nat) : Dev :=
  let d := d.resetCut word sent
  let r := d.cleared.carry d [GLB.BOOT_CTL.NEXT, GLB.BOOT_STAT.BOOT, GLB.BOOT_STAT.XSPI_SPEED, GLB.BOOT_STAT.SIG_FUSE]
  let r := (r.set NVS.HU_STAT.PF (b2n d.flt.pwrFail)).set GLB.BOOT_STAT.STATE 1
  { r with boot.phase := .hbm, host.hostData := d.host.hostData, host.pcie := d.host.pcie }

/-- COLD_RESET: SYS_RESET_N goes low. -/
def execColdReset (word : Bool) (sent : Nat) (s : State) : Out :=
  act s always (fun d => { d.coldReset word sent with pin.sysResetN := false })

/-- A host write of GLB.RESET (R340). -/
def Dev.resetWrite (d : Dev) (v : Nat) (word : Bool) (sent : Nat) : Dev :=
  if bits v 31 16 = 0x5120 && bit v 0 then d.softReset word sent else d

/-- SOFT_RESET: a host write of GLB.RESET with GO = 1 and key `key`. -/
def execSoftReset (key : Nat) (word : Bool) (sent : Nat) (s : State) : Out :=
  hostAct s GLB.RESET.GO (fun d => d.resetWrite (1 + key % 2 ^ 16 * 2 ^ 16) word sent)

/-- The endpoint as the host has set it up after link-up: memory requests, BARs assigned, D0 (log entry 97). -/
def PcieCfg.setUp : PcieCfg := { PcieCfg.reset with memEn := true, bar0 := some (Config.hostBar 0), bar2 := some (Config.hostBar 1) }

/-- Boot step 2: straps and fuses are read (R338, R339). The link comes up and the host enumerates the endpoint meanwhile. -/
def Dev.release (d : Dev) (straps : Nat) : Dev :=
  let d := { d with host.pcie := .setUp, pin.straps := straps % 64, boot.phase := .hbm, boot.keyHash := d.boot.progHash, boot.sigEn := d.boot.progSig }
  (((d.set GLB.BOOT_STAT.BOOT (bits straps 1 0)).set GLB.BOOT_STAT.XSPI_SPEED (bits straps 2 2)).set GLB.BOOT_STAT.SIG_FUSE (b2n d.boot.progSig)).set
    GLB.BOOT_STAT.STATE 1

/-- RESET_RELEASE: SYS_RESET_N rises with the straps at `straps`. -/
def execResetRelease (straps : Nat) (s : State) : Out :=
  act s (fun d => !d.pin.sysResetN) (fun d =>
    let d := { d with pin.sysResetN := true }
    if d.pwr.dip.isSome then d else d.release straps)

/-- VCORE_DIP: the core rail, at `mv`, has stayed below 0.60 V for 1 µs (R448). In the reset that this brings, a rail that is not above 0.62 V starts the 10 ms afresh. -/
def execVcoreDip (mv : Nat) (word : Bool) (sent : Nat) (s : State) : Out :=
  act s (fun d => Nat.blt mv 600 || (d.pwr.dip.isSome && Nat.ble mv 620)) (fun d =>
    { (if d.pwr.dip.isSome then d else d.coldReset word sent) with pwr.dip := some d.tick, pwr.vMeas := mv })

/-- VCORE_RECOVER: the rail, at `mv`, has been above 0.62 V for 10 ms, so at least as long ago it last dipped; the straps are sampled now. -/
def execVcoreRecover (mv straps : Nat) (s : State) : Out :=
  act s (fun d => Nat.blt 620 mv && d.pwr.dip.any (fun t => Nat.ble (t + 10000000) d.tick)) (fun d =>
    let d := { d with pwr.dip := none, pwr.vMeas := mv }
    if d.pin.sysResetN then d.release straps else d)

-- Power failure (R415, R360).

/-- PWR_FAIL_ASSERT: `cut` says that a map entry's burst is under way with word 0 written; `sent` are the bytes of a flash page already sent, up to the next word boundary. -/
def execPwrFailAssert (cut : Bool) (sent : Nat) (s : State) : Out :=
  act s (fun d => !d.flt.pwrFail) (fun d =>
    let d := psCutEff cut d
    let d := ({ d with flt.pwrFail := true }.set NVS.HU_STAT.PF 1).raise EV_NVS_PWR_FAIL
    let f := d.boot.flop
    if f.op != 2 then d
    else
      let sent := (sent + 7) / 8 * 8
      let short := (f.step == 3 || f.step == 5) && f.deferAt == 0 && Nat.blt sent (d.pageRange f).2
      let d := (d.flashBurst [] sent).flashEnd 0x43
      if short then d.cntNvs 5 else d)

/-- PWR_FAIL_DEASSERT: queued map writes resume. -/
def execPwrFailDeassert (s : State) : Out :=
  act s (fun d => d.flt.pwrFail) (fun d =>
    { d.set NVS.HU_STAT.PF 0 with flt.pwrFail := false, flt.mapQ := d.flt.mapQ.map (fun (m : MapW) => { m with deferAt := 0 }) })

-- Boot step 4 (R406, R411).

/-- Whether LOCATION `l` names a resource of class `c` (Table 17.2). -/
def locOk (c l : Nat) : Bool :=
  match c with
  | 0 => Nat.blt l (2 ^ 21)
  | 1 => Nat.blt (l / 8) 49152
  | 2 => Nat.blt (l / 8) 4096
  | 3 => Nat.blt (l / 32) (match l / 8 % 4 with
      | 0 => 262144
      | 1 => 524288
      | 2 => 1048576
      | _ => 16384)
  | 4 => Nat.blt (l / 8) (2 ^ 22)
  | 5 => Nat.blt l (2 ^ 20)
  | 6 => Nat.blt l 512
  | 7 => Nat.blt l (2 ^ 31) && Nat.blt (l % 4) 2
  | 8 => Nat.blt l 16
  | _ => false

/-- Sets the flags of a retired resource in its own block. -/
def Dev.retireFlag (d : Dev) (c l : Nat) : Dev :=
  match c with
  | 1 => d.setCtl (l % 8) (l / 8) (clrBit (setBit (d.entW (l % 8) (l / 8) 10) 24) 0)
  | 2 => let a := patA (l % 8) (l / 8) 4
         d.wr64 a (clrBit (setBit (d.rd64 a) 16) 0)
  | 3 => let t := l / 8 % 4
         let a := fwdA (l % 8) t (l / 32) 0
         d.wr64 a (setBit (d.rd64 a) (if t = 3 then 59 else 63))
  | 5 => { d.set (ENG.MCHK.LASTING (l % 64)) 1 with flt.lastingWords := if d.flt.lastingWords.contains l then d.flt.lastingWords else d.flt.lastingWords ++ [l] }
  | 8 => (d.setBitF (SWC.HALF_STAT.GROUP_FAIL 0) l).setBitF (SWC.HALF_STAT.GROUP_FAIL 1) l
  | _ => d

/-- Row `l` was repaired in an earlier life of the device: it is repaired again if the stack has not kept the repair (R403, log entry 99). -/
def Dev.rowAgain (d : Dev) (l : Nat) : Dev :=
  let (v, d) := d.fresh
  if v % 2 = 0 then d else d.startRepair l

/-- Applies a map entry with class `c`, location `l` and action `x`: a withdrawn row is withdrawn again (R403). -/
def Dev.retireApply (d : Dev) (c l x : Nat) : Dev :=
  if !locOk c l || Nat.ble 2 x then d
  else if c = 7 && x = 1 then d.rowAgain l
  else
    let d := d.retireFlag c l
    if c = 4 || c = 5 || x = 1 || d.isRetired c l then d
    else
      let d := { d with flt.retired := d.flt.retired ++ [(c, l)] }
      if c = 7 then d.withdraw l (hbmA (l / 2 ^ 30) (Config.rowAddr l % 0xC00000000)) else d

/-- The map entries whose byte keys are among `l`, each once, in order. -/
def mapIdx (l : List Nat) : List Nat := l.foldl (fun r a =>
  if Nat.ble (mapA 0 0) a && Nat.blt a (mapA 65536 0) then
    let i := (a - mapA 0 0) / 16
    if r.contains i then r else r ++ [i]
  else r) []

/-- The entries that show an uncorrectable word. -/
def Dev.mapBad (d : Dev) : List Nat := mapIdx ((d.bad.filter (fun e => e.2 == 2)).map (fun e => e.1))

/-- Reads and applies the retirement map. -/
def Dev.mapApply (d : Dev) : Dev :=
  let bads := d.mapBad
  let d := bads.foldl (fun (d : Dev) _ => (d.cntNvs 6).raise EV_NVS_ECC) d
  let good := (mapIdx (d.mem.map (fun e => e.1))).filter (fun i => d.mapValid i && !bads.contains i)
  good.foldl (fun (d : Dev) i =>
    let w := d.rd64 (mapA i 0)
    d.retireApply (w % 16) (bits w 47 8) (bits (d.rd64 (mapA i 1)) 35 32)) d

/-- MAGIC of the store's header. -/
def psMagic : Nat := 0x0000505357440001

/-- Reads the map where the store has one and queues the write of BOOTS; an empty store is queued to be initialised. -/
def Dev.storeBoot (d : Dev) : Dev :=
  if d.rd64 (psA 0) = psMagic then
    let d := d.mapApply
    { d with flt.mapQ := d.flt.mapQ ++ [⟨some 8, (d.rd64 (psA 8) + 1) % 2 ^ 64, 0, 0⟩] }
  else { d with flt.mapQ := d.flt.mapQ ++ [⟨some 0x1000, 0, 0, 0⟩, ⟨some 0, psMagic, 0, 0⟩, ⟨some 8, 1, 0, 0⟩] }

end Sys2Proof.Machine
end

