-- ==== Sys2Proof/Machine/Flash.lean ====
section
/-! DEFINITION. The Wepel image and its checks, candidates, the outcome of a boot attempt, and the starts of boot and flash commands (spec/14 R342 to R353, R355, R357, R359, R360). -/

namespace Sys2Proof.Machine

open Sys2Proof

-- The image (R348 to R352).

/-- Little-endian field of `n` bytes at `o`. -/
def le (bs : List Byte) (o n : Nat) : Nat := leNat (sliceB bs o n)

/-- What a header must hold to be a candidate in a slot of `slot` bytes (R342): 0, or the code of Table 14.9. -/
def hdrErr (h : List Byte) (slot : Nat) : Nat :=
  if le h 0 4 != 0x4D495744 then 3
  else if fcsOf (sliceB h 0 252) != le h 0xFC 4 then 4
  else if le h 4 2 != 1 || le h 6 2 != 0x100 then 5
  else if le h 0x1C 4 != 0x5120 then 6
  else if Nat.blt slot (le h 0x0C 4) then 7
  else 0

/-- An entry of the section table (Table 14.5). -/
structure Ent where
  kind : Nat
  flags : Nat
  inst : Nat
  off : Nat
  len : Nat
  dest : Nat
  crc : Nat
  part : Nat
deriving DecidableEq, Repr

/-- Entry from its 32 bytes. -/
def entOf (b : List Byte) : Ent := ⟨le b 0 2, le b 2 2, le b 4 4, le b 8 4, le b 0x0C 4, le b 0x10 8, le b 0x18 4, le b 0x1C 2⟩

/-- The 32-byte entries of an image's table. -/
def imgTable (img : List Byte) : List (List Byte) := (List.range (le img 0x10 2)).map (fun i => sliceB img (le img 0x14 4 + 32 * i) 32)

/-- Bytes of a section. -/
def secBytes (img : List Byte) (e : Ent) : List Byte := sliceB img e.off e.len

/-- Known kind, INSTANCE and FLAGS (Tables 14.5 and 14.6). -/
def Ent.kindOk (e : Ent) : Bool :=
  let n := if e.kind = 5 then 2 else if e.kind = 0xC || e.kind = 0xD then 64
    else if e.kind = 7 || e.kind = 8 || e.kind = 9 || e.kind = 0xA || e.kind = 0xB || e.kind = 0xE then 8 else 1
  Nat.ble 1 e.kind && Nat.ble e.kind 0xF && Nat.blt e.inst n &&
    (if e.kind = 0xB then e.flags % 4 / 2 == 0 && Nat.blt e.flags 12 else Nat.blt e.flags 2)

/-- Kinds that may occur any number of times (R349). -/
def Ent.many (e : Ent) : Bool := e.kind == 0xB || e.kind == 0xC || e.kind == 0xF

/-- Kinds whose sections hold records (Table 14.6). -/
def Ent.recs (e : Ent) : Bool := !e.many

/-- Microcode stays within the bank, HBM data within the half and on 64-byte boundaries (R352, Table 14.5). -/
def Ent.destOk (e : Ent) : Bool :=
  if e.kind = 0xC then Nat.ble (e.dest % 0x2000 + e.len / 24) 0x2000
  else if e.kind = 0xF then e.dest % 64 == 0 && Nat.ble (e.dest % 2 ^ 36 + e.len) 0xC00000000
  else true

/-- Whether a record's fields are well-formed (R350). -/
def recOk (b : List Byte) : Bool :=
  let w := le b 0 8
  let op := bits w 59 56
  Nat.ble op 2 && Nat.ble (bits w 63 60) 1 && bits w 55 40 == 0 && bits w 39 0 % (if op = 1 then 8 else 4) == 0

/-- The first piece of a section that is not well-formed: a record, or a microword whose upper bytes are not 0. -/
def Ent.badPiece (e : Ent) (bs : List Byte) : Option Nat :=
  let n := if e.kind = 0xC then 24 else if e.kind = 0xB then 32 else 16
  if e.kind = 0xF then none
  else
    match (List.range (e.len / n)).find? (fun i =>
      let b := sliceB bs (n * i) n
      if e.kind = 0xC then le b 20 4 != 0 else if e.kind = 0xB then false else !recOk b) with
    | some i => some i
    | none => if e.len % n = 0 then none else some (e.len / n)

/-- A failure: code, section, record. -/
abbrev Fail := Nat × Nat × Nat

/-- Header and table (steps 5 and 6); `slot` is the size of the slot. -/
def imgHdrErr (img : List Byte) (slot : Nat) : Option Fail :=
  let size := le img 0x0C 4
  let flags := le img 0x12 2
  let n := le img 0x10 2
  let t := le img 0x14 4
  if hdrErr img slot != 0 then some (hdrErr img slot, 0, 0)
  else if Nat.ble 2 flags || !(sliceB img 0x40 184).all (fun b => b == 0) || n == 0 || Nat.blt 1024 n || t % 64 != 0 ||
      le img 0x18 4 != (if flags = 1 then size - 192 else 0) then some (5, 0, 0)
  else if Nat.blt size (256 + (if flags = 1 then 192 else 0)) || Nat.blt size (t + 32 * n) then some (7, 0, 0)
  else if fcsOf (sliceB img t (32 * n)) != le img 0xF8 4 then some (8, 0, 0)
  else none

/-- Entry `i` of the table against those before it and the fixed structures (R348, R349). -/
def entErr (img : List Byte) (tab : List Ent) (i : Nat) (e : Ent) : Option Fail :=
  let size := le img 0x0C 4
  let sig := if le img 0x12 2 = 1 then 192 else 0
  let before := tab.take i
  if !e.kindOk then some (0xA, i, 0)
  else if !e.many && before.any (fun f => f.kind == e.kind && f.inst == e.inst) then some (0xB, i, 0)
  else if Nat.blt size (e.off + e.len) then some (7, i, 0)
  else if e.off % 64 != 0 || meets e.off e.len 0 256 || meets e.off e.len (le img 0x14 4) (32 * tab.length) || meets e.off e.len (size - sig) sig ||
      before.any (fun f => meets e.off e.len f.off f.len) || !e.destOk then some (0xC, i, 0)
  else none

/-- Section `i`: its CRC and the form of its records. -/
def secErr (img : List Byte) (i : Nat) (e : Ent) : Option Fail :=
  let bs := secBytes img e
  if fcsOf bs != e.crc then some (9, i, 0)
  else (e.badPiece bs).map (fun j => (0x10, i, j))

/-- Everything that step 6 checks. -/
def imgErr (img : List Byte) (slot : Nat) : Option Fail :=
  match imgHdrErr img slot with
  | some f => some f
  | none =>
    let tab := (imgTable img).map entOf
    match ((List.range tab.length).zip tab).findSome? (fun x => entErr img tab x.1 x.2) with
    | some f => some f
    | none => ((List.range tab.length).zip tab).findSome? (fun x => secErr img x.1 x.2)

-- Boot attempts (R342, R345).

/-- The largest image of candidate `c`: 1 A, 2 B, 3 staged by the host. -/
def Dev.candMax (d : Dev) (c : Nat) : Nat := if c = 3 then 0x8000000 else d.slotMax

/-- The first `n` bytes of candidate `c`. -/
def Dev.candBytes (d : Dev) (c n : Nat) : List Byte := if c = 3 then d.staged 0 n else d.flashBytes (d.slotBase (c - 1)) n

/-- The bytes of candidate `c`'s image, as long as its header claims within its slot. -/
def Dev.candImage (d : Dev) (c : Nat) : List Byte := d.candBytes c (max 256 (min (le (d.candBytes c 256) 0x0C 4) (d.candMax c)))

/-- Header code of candidate `c`; a slot that a WRITE left unverified counts as one without a header (R360, log entry 98). -/
def Dev.candErr (d : Dev) (c : Nat) : Nat :=
  if c != 3 && sget d.boot.unverified (c - 1) 0 = 1 then 3 else hdrErr (d.candBytes c 256) (d.candMax c)

/-- Whether SEQ `a` is later than `b`. -/
def seqLater (a b : Nat) : Bool := let x := subMod 32 a b
  x != 0 && Nat.blt x (2 ^ 31)

/-- Both candidates in the order of R342. -/
def Dev.candOrder (d : Dev) : List Nat :=
  let next := d.get GLB.BOOT_CTL.NEXT
  if next = 1 then [1, 2] else if next = 2 then [2, 1]
  else if seqLater (le (d.candBytes 2 256) 8 4) (le (d.candBytes 1 256) 8 4) then [2, 1] else [1, 2]

/-- STRAP_BOOT as it acts: while SIG_EN is 1, 3 is treated as 0 (R339). -/
def Dev.bootStrap (d : Dev) : Nat := if d.boot.sigEn && d.get GLB.BOOT_STAT.BOOT = 3 then 0 else d.get GLB.BOOT_STAT.BOOT

/-- The boot sequence goes on to a step, with the STATE that goes with it. -/
def Dev.bootTo (d : Dev) (p : BootPhase) (st : Nat) : Dev := { d.set GLB.BOOT_STAT.STATE st with boot.phase := p }

/-- The code of a failed attempt (Table 14.10). -/
def Dev.bootCode (d : Dev) (f : Fail) : Dev :=
  let d := if d.get GLB.BOOT_STAT.ERR_FIRST = 0 then d.set GLB.BOOT_STAT.ERR_FIRST f.1 else d
  ((d.set GLB.BOOT_STAT.ERR_LAST f.1).set GLB.BOOT_DETAIL.SECTION f.2.1).set GLB.BOOT_DETAIL.RECORD f.2.2

/-- No load succeeds. -/
def Dev.bootFailed (d : Dev) : Dev := ({ d.bootTo .none 8 with boot.cands := [] }).raise EV_BOOT_FAILED

/-- The current attempt fails: the other candidate is tried once, or the boot has failed (R342, R345). -/
def Dev.bootFail (d : Dev) (f : Fail) : Dev :=
  let first := d.get GLB.BOOT_STAT.ERR_FIRST == 0
  let d := d.bootCode f
  match d.boot.cands with
  | _ :: c :: rest => { ((d.set GLB.BOOT_STAT.FALLBACK 1).raise EV_BOOT_FALLBACK).bootTo .image 3 with boot.cands := c :: rest }
  | [c] => (if first && c != 3 then d.set GLB.BOOT_STAT.FALLBACK 1 else d).bootFailed
  | [] => d.bootFailed

/-- Step 6 has found an image good: what the device keeps of it (R353), and step 7, or 8 while SIG_EN is 0. -/
def Dev.imageGood (d : Dev) (img : List Byte) : Dev :=
  let t := imgTable img
  ({ d with boot.table := t, boot.hashes := t.map (fun b => sha384 (secBytes img (entOf b))) }).bootTo (if d.boot.sigEn then .verify else .own) 4

/-- Step 10: held locks, the gate, EV_BOOT_DONE (R346, R347). -/
def Dev.bootDone (d : Dev) (loaded : Nat) : Dev :=
  let d := if bit d.boot.heldLocks 0 then d.set GLB.LOCK.LOCK 1 else d
  let d := if bit d.boot.heldLocks 1 then d.set GLB.PATCH_LOCK.LOCK 1 else d
  (({ d with boot.heldLocks := 0, boot.cands := [] }.set GLB.BOOT_STAT.LOADED loaded).bootTo .none 6).raise EV_BOOT_DONE

-- Boot controls (R347).

/-- Whether the host may load or open: HOST_WAIT or FAILED. -/
def Dev.hostMayBoot (d : Dev) : Bool := d.get GLB.BOOT_STAT.STATE == 7 || d.get GLB.BOOT_STAT.STATE == 8

/-- LOAD: the staged image is checked; then steps 7 to 10 follow. -/
def Dev.bootLoad (d : Dev) : Dev :=
  if !d.hostMayBoot || !d.boot.hbmOk then d
  else
    let img := d.candImage 3
    let d := { d with boot.cands := [3] }
    match imgErr img 0x8000000 with
    | some f => d.bootFail f
    | none => d.imageGood img

/-- OPEN: step 10 without an image. -/
def Dev.bootOpen (d : Dev) : Dev := if !d.hostMayBoot || d.boot.sigEn then d else { d with boot.heldLocks := 0 }.bootDone 0

/-- A write of GLB.BOOT_CTL. -/
def Dev.bootCtlWrite (d : Dev) (v : Nat) : Dev :=
  let d := d.set GLB.BOOT_CTL.NEXT (bits v 3 2)
  if bit v 0 then d.bootLoad else if bit v 1 then d.bootOpen else d

/-- BOOT_LOAD: a host write `v` of GLB.BOOT_CTL with LOAD = 1. -/
def execBootLoad (v : Nat) (s : State) : Out := hostAct s GLB.BOOT_CTL.NEXT (fun d => d.bootCtlWrite (setBit v 0))

/-- BOOT_OPEN: a host write `v` of GLB.BOOT_CTL with OPEN = 1 and LOAD = 0. -/
def execBootOpen (v : Nat) (s : State) : Out := hostAct s GLB.BOOT_CTL.NEXT (fun d => d.bootCtlWrite (setBit (clrBit v 0) 1))

-- Flash commands (R357, R359, R360, Table 14.13).

/-- Kinds with a reload (Table 14.6). -/
def Ent.reloads (e : Ent) : Bool := e.kind == 4 || e.kind == 8 || e.kind == 9 || e.kind == 0xA || e.kind == 0xC || e.kind == 0xD

/-- The partition of an entry: its PART field. -/
def Ent.partBusy (e : Ent) (d : Dev) : Bool := Nat.blt e.part 105 && (d.is (GLB.PART_CTL.ARM e.part) || d.is (GLB.PART_CTL.RETIRING e.part))

/-- Why RELOAD of section `i` is refused, 0 if it is not (R357). -/
def Dev.reloadRefusal (d : Dev) (i : Nat) : Nat :=
  let l := d.get GLB.BOOT_STAT.LOADED
  if l = 0 || l = 3 || Nat.ble d.boot.table.length i then 0x32
  else
    let e := entOf (nthD d.boot.table i [])
    if !bit e.flags 0 || !e.reloads || Nat.blt 0x1000000 e.len then 0x30
    else if e.partBusy d then 0x31
    else 0

/-- Why WRITE to a slot is refused, 0 if it is not (R359). -/
def Dev.writeRefusal (d : Dev) (slot : Nat) : Nat :=
  if d.get GLB.BOOT_STAT.LOADED = slot + 1 then 0x40
  else if hdrErr (d.staged 0 256) d.slotMax != 0 then 0x41
  else 0

/-- The energy of the flash burst that comes next; none for a read-back. -/
def Dev.flashCost (d : Dev) : Option Nat :=
  let f := d.boot.flop
  if f.step = 1 || f.step = 2 then some (d.get GLB.HU_COST.E_ERASE_UJ)
  else if f.step = 3 || f.step = 5 then some (d.get GLB.HU_COST.E_PAGE_UJ)
  else none

/-- The hold-up check before the next burst; a deferred one waits 1 ms (R360). -/
def Dev.flashTry (d : Dev) : Dev :=
  match d.flashCost with
  | none => d
  | some c => match d.holdUp c with
    | (true, d) => { d with boot.flop.deferAt := 0 }
    | (false, d) =>
      let d := (d.cntNvs 4).addSat NVS.FL_PROG.DEFERRALS 1
      let d := if d.boot.flop.deferred then d else d.raise EV_NVS_FLASH_DEFER
      { d with boot.flop.deferAt := d.tick + 1, boot.flop.deferred := true }

/-- Starts a flash command. -/
def Dev.flashGo (d : Dev) (op slot sec : Nat) : Dev :=
  let start := fun (f : FlashOp) => ({ (((d.set NVS.FL_CTL.DONE 0).set NVS.FL_PROG.DEFERRALS 0).set NVS.FL_PROG.BYTES 0) with boot.flop := f } : Dev)
  let st := if op = 0 then d.reloadRefusal sec else if op = 1 then d.writeRefusal slot else 0x33
  if st != 0 then d.set NVS.FL_CTL.STATUS st
  else if op = 0 then start { op := 1, section_ := sec }
  else (start { op := 2, slot := slot, step := 1 }).flashTry

/-- A write of NVS.FL_CTL; with GO while DONE is 0 it is ignored. -/
def Dev.flCtlWrite (d : Dev) (v : Nat) : Dev :=
  let w := ((d.set NVS.FL_CTL.SECTION (bits v 25 16)).set NVS.FL_CTL.SLOT (bits v 4 4)).set NVS.FL_CTL.OP (bits v 2 1)
  if !bit v 0 then w
  else if !d.is NVS.FL_CTL.DONE then d
  else w.flashGo (bits v 2 1) (bits v 4 4) (bits v 25 16)

/-- FL_RELOAD: a host write of NVS.FL_CTL with GO and OP RELOAD, for section `i`. -/
def execFlReload (i : Nat) (s : State) : Out := hostAct s NVS.FL_CTL.GO (fun d => d.flCtlWrite (i % 1024 * 2 ^ 16 + 1))

/-- FL_WRITE: a host write of NVS.FL_CTL with GO and OP WRITE, for a slot, with `mv` at HOLDUP_SENSE. -/
def execFlWrite (slot mv : Nat) (s : State) : Out := hostAct s NVS.FL_CTL.GO (fun d => (d.sense mv).flCtlWrite (slot % 2 * 2 ^ 4 + 3))

/-- The burst after the one just made: erases up to IMAGE_SIZE, programs from byte 256, the read-back, the header. -/
def Dev.flashNext (d : Dev) (f : FlashOp) : FlashOp :=
  let size := d.stagedSize
  let n := 2 ^ d.boot.sectorLog
  if f.step = 1 || f.step = 2 then
    if Nat.blt (f.pos + n) size then { f with step := 2, pos := f.pos + n } else if Nat.blt 256 size then { f with step := 3, pos := 256 } else { f with step := 4, pos := 256 }
  else if f.step = 3 then
    let p := f.pos + (d.pageRange f).2
    if Nat.blt p size then { f with pos := p } else { f with step := 4, pos := 256 }
  else { f with step := 5, pos := 0 }

/-- Whether bytes [o, o + n) of the slot equal the source. -/
def Dev.flashSame (d : Dev) (slot o n : Nat) : Bool := d.flashBytes (d.slotBase slot + o) n == d.staged o n

/-- An erase, page program or read-back of a WRITE completes; the program leaves the bytes at the offsets `lost` as they were. -/
def Dev.flashStep (d : Dev) (lost : List Nat) : Dev :=
  let f := d.boot.flop
  let size := d.stagedSize
  let d := d.flashBurst lost (2 ^ 32)
  let done := if f.step = 3 then f.pos + (d.pageRange f).2 else if f.step = 1 || f.step = 2 then 0 else size
  let d := d.set NVS.FL_PROG.BYTES done
  if f.step = 4 && !d.flashSame f.slot 256 (size - 256) then d.flashEnd 0x42
  else if f.step = 5 then (if d.flashSame f.slot 0 256 then (d.flashEnd 0).raise EV_NVS_FLASH_DONE else d.flashEnd 0x42)
  else ({ d with boot.flop := d.flashNext f } : Dev).flashTry

/-- FLASH_OP_DONE, with `mv` at HOLDUP_SENSE for the check of the next burst. -/
def execFlashOpDone (mv : Nat) (lost : List Nat) (s : State) : Out :=
  act s (fun d => d.boot.flop.op == 2 && d.boot.flop.deferAt == 0) (fun d => (d.sense mv).flashStep lost)

/-- FLASH_DEFER_RETRY: 1 ms after a deferral, with `mv` at HOLDUP_SENSE. -/
def execFlashDeferRetry (mv : Nat) (s : State) : Out :=
  act s (fun d => d.boot.flop.op == 2 && d.boot.flop.deferAt != 0 && Nat.ble (d.boot.flop.deferAt + 1000000) (d.tick + 1))
    (fun d => (d.sense mv).flashTry)

/-- FLASH_BUSY_TIMEOUT: a flash write ends (Table 14.9, 0x44). -/
def execFlashBusyTimeout (s : State) : Out :=
  act s (fun d => d.boot.flop.op == 2 && d.boot.flop.deferAt == 0 && d.boot.flop.step != 4) (fun d => d.flashEnd 0x44)

/-- A WRITE reads back: step 4, or step 5 once the header is programmed. -/
def FlashOp.reads (f : FlashOp) : Bool := f.op == 2 && f.deferAt == 0 && (f.step == 4 || f.step == 5)

/-- FLASH_READ_TIMEOUT: a reload, a WRITE's read-back, or the boot attempt that reads headers or an image from flash, ends with IMG_E_FLASH_READ. -/
def execFlashReadTimeout (s : State) : Out :=
  act s (fun d => d.boot.flop.op == 1 || d.boot.flop.reads || d.boot.phase == .headers || (d.boot.phase == .image))
    (fun d => if d.boot.flop.op = 1 then d.flashEnd 0x12
      else if d.boot.flop.reads then (d.flashBurst [] (2 ^ 32)).flashEnd 0x12
      else d.bootFail (0x12, 0, 0))

end Sys2Proof.Machine
end

