-- ==== Sys2Proof/Machine/Bus.lean ====
section
/-! DEFINITION. Host and image writes: every BAR0 register and every device address, by what the owning chapter says a write does (spec/15 R362 to R368; spec/19 R429 to R435). -/

namespace Sys2Proof.Machine

open Sys2Proof

-- Registers. `img` marks a write made by an image record (R347); `a` is the register's offset, `r` its layout, `v` the whole value.

/-- A write with no effect beyond the fields; the word carries no error afterwards. -/
def Dev.plainPut (d : Dev) (a : Nat) (r : RegFam) (v : Nat) : Dev := (d.regWrite a r v).mend (bar0W a)

/-- A write to a structure of set `x` of partition `n` (R41). -/
def Dev.setPut (d : Dev) (n x a : Nat) (r : RegFam) (v : Nat) : Dev := d.partWrite n x (fun d => d.plainPut a r v)

/-- GLB. Image writes of the locks are held for boot step 10 (R347). -/
def Dev.glbPut (d : Dev) (img : Bool) (a : Nat) (r : RegFam) (v : Nat) : Dev :=
  if a = 0x40 && img then (if bit v 0 then { d with boot.heldLocks := setBit d.boot.heldLocks 0 } else d)
  else if a = 0x240 && img then (if bit v 0 then { d with boot.heldLocks := setBit d.boot.heldLocks 1 } else d)
  else if a = 0x200 then d.fenceWrite (v % 2 ^ 16)
  else if a = 0x214 then (if bit v 0 then d.advGo else d)
  else if a = 0x300 then d.mgtCfgWrite v
  else if Nat.ble 0x640 a && Nat.blt a 0x680 && !img then d.gpioFnWrite ((a - 0x640) / 4) v
  else if Nat.ble 0x1000 a then d.partCtlWrite ((a - 0x1000) / 4) v
  else d.plainPut a r v

/-- TMU; `o` is the offset in the block. Bit 3 of each nibble of QLAUNCH is reserved (Table 13.5). -/
def Dev.tmuPut (d : Dev) (a : Nat) (r : RegFam) (v o : Nat) : Dev :=
  if o = 0 then (d.plainPut a r v).tmuCtlDone
  else if o = 8 then (d.plainPut a r v).refCfgDone
  else if o = 0x30 then d.incrWrite v
  else if o = 0x38 then d.adjWrite (v % 2 ^ 40)
  else if o = 0x40 then d.stepCtlWrite (v % 8)
  else if Nat.ble 0x4000 o && Nat.blt o 0x6000 then d.setPut 104 (o / 0x1000 % 2) a r (Nat.land v 0x7777777777777777)
  else if Nat.ble 0x2000 o && Nat.blt o 0x8000 then d.setPut 104 (o / 0x1000 % 2) a r v
  else d.plainPut a r v

/-- PWR: VMAX below VMIN, and HIGH at or below TARGET, are ignored (Tables 16.8 and 16.9); AT_MAX follows VMAX. -/
def Dev.pwrPut (d : Dev) (a : Nat) (r : RegFam) (v o : Nat) : Dev :=
  let e := d.plainPut a r v
  if o = 0 then d.pwrReqWrite v
  else if o = 0x40 && Nat.blt (e.get PWR.AVS_CFG.VMAX_MV) (e.get PWR.AVS_CFG.VMIN_MV) then (e.set PWR.AVS_CFG.VMAX_MV (d.get PWR.AVS_CFG.VMAX_MV)).atMax
  else if o = 0x50 && Nat.ble (e.get PWR.PACE_CFG.HIGH) (e.get PWR.PACE_CFG.TARGET) then e.set PWR.PACE_CFG.HIGH (d.get PWR.PACE_CFG.HIGH)
  else if o = 0x40 then e.atMax
  else e

/-- Counters of the groups that CTR.CHAIN_g and SCT.CHAIN_g chain (R426, Table 18.1). -/
def ctrChainLen (g : Nat) : Nat := nthD [12, 12, 6, 6, 7, 7, 7, 7, 11, 10, 7, 4] g 0
def sctChainLen (g : Nat) : Nat := nthD [7, 10, 17, 16, 17] g 13

/-- A write of a chain register: ignored while the reader runs; bits whose next counter lies outside the group read 0 (R426). -/
def Dev.chainPut (d : Dev) (f : Fld) (n v : Nat) : Dev := if d.is CTR.CTL.EN then d else d.set f (v % 2 ^ (n - 1))

/-- CTR. -/
def Dev.ctrPut (d : Dev) (a : Nat) (r : RegFam) (v o : Nat) : Dev :=
  if o = 0 then d.ctrCtlWrite v
  else if o = 0x20 then d.syncWrite (v % 2 ^ 16)
  else if Nat.ble 0x100 o then d.chainPut (CTR.CHAIN.CHAIN ((o - 0x100) / 8)) (ctrChainLen ((o - 0x100) / 8)) v
  else d.plainPut a r v

/-- BPM of half `h` (R270). -/
def Dev.bpmPut (d : Dev) (a : Nat) (r : RegFam) (v h o : Nat) : Dev :=
  let cmd := match v / 2 % 4 with
    | 0 => bpmReadMeta h
    | 1 => bpmReleaseQ h
    | 2 => bpmFindQ h
    | _ => fun d => ({ status := 4 }, d)
  if o = 0 then bpmEnableEff h v d
  else if o = 0x400 then d.ringCfgWrite (10 + h) false v
  else if o = 0x408 then d.ringCfgWrite (10 + h) true v
  else if o = 0x418 then d.ringRd (quarList h) (v % 2 ^ 32)
  else if o = 0x500 && bit v 0 then (if bpmIdle h d then bpmCmdEff h v cmd d else d)
  else d.plainPut a r v

/-- MAC of slice `s`. -/
def Dev.macPut (d : Dev) (a : Nat) (r : RegFam) (v s o : Nat) : Dev :=
  if Nat.blt o 0x10 then d.octetModeWrite s (o / 4) v
  else if Nat.blt o 0x40 then d.laneMapWrite s (o / 4 % 4) (o / 16 - 1) v
  else if Nat.ble 0x1000 o && Nat.blt o 0x4000 && o % 0x40 = 0 then
    match portOf s ((o - 0x1000) / 0x40) with
    | some p => d.portCfgWrite p v
    | none => d
  else d.plainPut a r v

/-- PRS of slice `s` (R92, R93); `o` from the block's start. Only a host's write to a profile in use is refused. -/
def Dev.prsPut (d : Dev) (img : Bool) (a : Nat) (r : RegFam) (v s o : Nat) : Dev :=
  if Nat.blt o 0x20 then d.setPut s (o / 0x10) a r v
  else if Nat.ble 0x28 o && Nat.blt o 0x30 then d.setPut s ((o - 0x28) / 4) a r v
  else if Nat.ble 0x2000 o && Nat.blt o 0x3000 then d.setPut s (o / 0x800 % 2) a r v
  else if Nat.ble 0x4000 o && Nat.blt o 0x6000 then d.profileWrite img s ((o - 0x4000) / 0x80) (o % 0x80 / 8) v
  else if Nat.ble 0x8000 o && Nat.blt o 0xC000 then d.setPut s (o / 0x2000 % 2) a r v
  else if Nat.ble 0xE000 o then d.setPut s (o / 0x1000 % 2) a r (cmdHeld v)
  else if Nat.ble 0xC000 o then d.setPut s (o / 0x1000 % 2) a r v
  else d.plainPut a r v

/-- CLS of slice `s` (R110, R118, R123). -/
def Dev.clsPut (d : Dev) (a : Nat) (r : RegFam) (v s o : Nat) : Dev :=
  if o = 8 || o = 0x10 then d.clsDefaultWrite s (o / 8 - 1) v
  else if o = 0x20 || o = 0x28 then d.setPut s (o / 8 % 2) a r v
  else if Nat.ble 0x1000 o && Nat.blt o 0x2000 then d.setPut s (o / 0x800 % 2) a r v
  else if o = 0x2050 then d.clsProbeWrite s v
  else d.plainPut a r v

/-- FWD of slice `s` (R132, R133, R137). -/
def Dev.fwdPut (d : Dev) (a : Nat) (r : RegFam) (v s o : Nat) : Dev :=
  if Nat.ble 0x20 o && Nat.blt o 0x40 then d.setPut s (o / 8 % 2) a r v
  else if o = 0x100 then d.fwdCmdWrite s v
  else if Nat.ble 0x108 o && Nat.blt o 0x128 then
    (if d.is (FWD.CMD_CTL.DONE s) then d.plainPut a r (if o = 0x120 then v % 2 ^ 40 else v) else d)
  else if o = 0x200 then d.ringCfgWrite s false v
  else if o = 0x208 then d.ringCfgWrite s true v
  else if o = 0x218 then d.ringRd (learnLog s) (v % 2 ^ 32)
  else if Nat.ble 0x400 o && Nat.blt o 0x800 then d.setPut s (o / 0x200 % 2) a r v
  else if Nat.ble 0x8000 o then d.setPut s (o / 0x8000 - 1) a r v
  else d.plainPut a r v

/-- Word `w` of a flow record with its reserved bits at 0 (Table 7.4). -/
def recMask (w v : Nat) : Nat :=
  match w with
  | 0 => Nat.land v 0xFF00FFFFFFFFBFFF
  | 1 => v % 2 ^ 56
  | 2 => v % 2 ^ 48
  | 4 => v % 2 ^ 62
  | _ => v

/-- QRY of slice `s` (R174, R175, Tables 7.10 to 7.12). -/
def Dev.qryPut (d : Dev) (a : Nat) (r : RegFam) (v s o : Nat) : Dev :=
  if o = 0 then d.gcfgWrite v
  else if o = 0x30 then
    let x := v % 2 ^ 28
    if x % 65536 != 0 || Nat.blt (2 ^ d.get QRY.GCFG.UNITS_LOG2) x then d else d.plainPut a r v
  else if Nat.ble 0x80 o && Nat.blt o 0xC0 then
    let h := (o - 0x80) / 0x20
    if o % 0x20 = 0 then d.ringCfgWrite (8 + h) false v
    else if o % 0x20 = 8 then d.ringCfgWrite (8 + h) true v
    else if o % 0x20 = 0x18 then d.ringRd (endLog h) (v % 2 ^ 32)
    else d
  else if o = 0x100 then d.qryCmdWrite v
  else if Nat.ble 0x108 o && Nat.blt o 0x200 then
    (if d.is QRY.CMD_CTL.DONE then d.plainPut a r (if Nat.ble 0x180 o then recMask ((o - 0x180) / 8) v else v) else d)
  else if o = 0x1008 then d.faceCfgWrite s v
  else d.plainPut a r v

/-- ENG of cluster `c` (R183, R194, R200, R208, R236). -/
def Dev.engPut (d : Dev) (a : Nat) (r : RegFam) (v c o : Nat) : Dev :=
  if o = 0 then d.clCtlWrite c v
  else if o = 0x18 then d.shareCfgWrite c v
  else if Nat.ble 0x200 o && Nat.blt o 0x400 then d.setPut (8 + c) (o / 0x100 % 2) a r v
  else if Nat.ble 0x400 o && Nat.blt o 0x600 then d.cregSet c ((o - 0x400) / 8) v
  else if o = 0xE00 then d.patchCtlWrite c v
  else if Nat.ble 0x80 o && Nat.blt o 0xC0 then
    let e := (o - 0x80) / 8
    let d := d.plainPut a r v
    if d.is (ENG.MODE.SLEEP_EN c e) then d else { d with pwr.dozing := sset d.pwr.dozing (8 * c + e) 0 0 }
  else d.plainPut a r v

/-- SCT of slice `s` (R426, R428). -/
def Dev.sctPut (d : Dev) (a : Nat) (r : RegFam) (v s o : Nat) : Dev :=
  if Nat.blt o 0x800 && o % 0x20 = 0 then d.bwCfgWrite s (o / 0x20) v
  else if Nat.ble 0x1000 o && Nat.blt o 0x1200 then d.chainPut (SCT.CHAIN_MAC.CHAIN s ((o - 0x1000) / 8)) 20 v
  else if Nat.ble 0x1200 o then d.chainPut (SCT.CHAIN.CHAIN s ((o - 0x1200) / 8)) (sctChainLen ((o - 0x1200) / 8)) v
  else d.plainPut a r v

/-- A write to the switch core of slice `s` at offset `o`; an ingress group follows its new levels at once (R292). -/
def Dev.swcPut (d : Dev) (a : Nat) (r : RegFam) (v s o : Nat) : Dev :=
  let e := d.plainPut a r v
  if Nat.ble 0x9000 o && Nat.blt o (0x9000 + 34 * 0x80) then
    let i := (o - 0x9000) / 0x80
    let p := if Nat.blt i 32 then 32 * s + i else if i = 32 then 256 else 257 + s
    Dev.grpFollow d e p (o % 0x80 / 8) (e.grpCells p (o % 0x80 / 8))
  else e

/-- A register of slice `s` at slice offset `o`. -/
def Dev.slicePut (d : Dev) (img : Bool) (a : Nat) (r : RegFam) (v s o : Nat) : Dev :=
  if Nat.blt o 0x80000 then d.macPut a r v s o
  else if Nat.blt o 0x100000 then d.prsPut img a r v s (o - 0x80000)
  else if Nat.blt o 0x180000 then d.clsPut a r v s (o - 0x100000)
  else if Nat.blt o 0x200000 then d.fwdPut a r v s (o - 0x180000)
  else if Nat.blt o 0x280000 then d.qryPut a r v s (o - 0x200000)
  else if Nat.blt o 0x300000 then d.engPut a r v (8 * s + (o - 0x280000) / 0x10000) (o % 0x10000)
  else if Nat.blt o 0x380000 then d.swcPut a r v s (o - 0x300000)
  else d.sctPut a r v s (o - 0x380000)

/-- Whether a write of the register at `a` is ignored because the unit that it lays out is enabled: CTR's areas (R419), BPM's pools and list (R270), the regions of a half (R434), the Bench (Table 7.10). -/
def Dev.frozen (d : Dev) (a : Nat) : Bool :=
  let h := a / 0x80000 % 2
  let o := a % 0x80000
  if a = 0x400010 || a = 0x400018 then d.is CTR.CTL.EN
  else if Nat.ble 0x500000 a && Nat.blt a 0x600000 then ((Nat.ble 0x100 o && Nat.blt o 0x300) || o == 0x400 || o == 0x408) && d.is (BPM.CTL.EN h)
  else if Nat.ble 0x600000 a && Nat.blt a 0x700000 then o == 0 && (d.is (BPM.CTL.EN h) || d.is QRY.GCFG.EN)
  else Nat.ble 0x1200008 a && Nat.blt a 0x1200038 && d.is QRY.GCFG.EN

/-- A register write that reaches its target, the boot controls and the debug port apart. -/
def Dev.regPut (d : Dev) (img : Bool) (a : Nat) (r : RegFam) (v : Nat) : Dev :=
  if d.frozen a then d
  else if Nat.blt a 0x100000 then d.glbPut img a r v
  else if Nat.blt a 0x200000 then d.tmuPut a r v (a - 0x100000)
  else if Nat.blt a 0x300000 then d.pwrPut a r v (a - 0x200000)
  else if Nat.blt a 0x400000 then (if a = 0x300000 then d.psCtlWrite v else d.plainPut a r v)
  else if Nat.blt a 0x500000 then d.ctrPut a r v (a - 0x400000)
  else if Nat.blt a 0x600000 then d.bpmPut a r v ((a - 0x500000) / 0x80000) (a % 0x80000)
  else if Nat.blt a 0x1000000 then d.plainPut a r v
  else d.slicePut img a r v ((a - 0x1000000) / 0x400000) (a % 0x400000)

/-- A host's register write: the boot controls with their effects (Tables 14.10 and 14.13). -/
def Dev.hostRegPut (d : Dev) (a : Nat) (r : RegFam) (v : Nat) : Dev :=
  if a = 0x10C then d.bootCtlWrite v
  else if a = 0x120 then d.resetWrite v true 0
  else if a = 0x301000 then d.flCtlWrite v
  else d.regPut false a r v

/-- A write of 4 bytes `v`, or of an aligned 8, by way of `put`, the write of a whole register (R362). -/
def Dev.put4 (d : Dev) (put : Dev → Nat → RegFam → Nat → Dev) (a v : Nat) : Dev :=
  match findReg allLayout a with
  | some (b, r) => put d b r (if r.bytes = 8 then d.widen b r (a != b) v else v % 2 ^ 32)
  | none => d

def Dev.put8 (d : Dev) (put : Dev → Nat → RegFam → Nat → Dev) (a v : Nat) : Dev :=
  match findReg allLayout a with
  | some (b, r) => if r.bytes = 8 then put d b r (v % 2 ^ 64) else (d.put4 put a v).put4 put (a + 4) (v / 2 ^ 32)
  | none => d.put4 put (a + 4) (v / 2 ^ 32)

/-- A host write of `n` (4 or 8) bytes to the debug ports (Table 15.11, R381). -/
def Dev.dbgPut (d : Dev) (a n v : Nat) : Dev :=
  let b := a / 8 * 8
  let w := match findReg layoutFlow b with
    | some (_, r) => if n = 8 then v else d.widen b r (a != b) v
    | none => v * 2 ^ (8 * (a - b))
  d.dbgWrite 0 ((a - 0x3000000) / 0x10000) (b % 0x10000) (a - b) (a - b + n) (w % 2 ^ 64)

/-- A host write of 4 or 8 aligned bytes at BAR0 offset `a`. -/
def Dev.bar0Put (d : Dev) (a n v : Nat) : Dev :=
  d.hostReg a (fun d =>
    if Nat.ble 0x3000000 a then d.dbgPut a n v
    else if n = 8 then d.put8 Dev.hostRegPut a v
    else d.put4 Dev.hostRegPut a v)

/-- Whether BAR0 takes a request of `n` bytes at `a` (R362). -/
def bar0Ok (a n : Nat) : Bool := (n == 4 && a % 4 == 0) || (n % 8 == 0 && Nat.ble 8 n && Nat.ble n 64 && a % 8 == 0)

/-- Aligned 8-byte writes in ascending order. -/
def Dev.bar0Words (d : Dev) (a : Nat) : List Byte → Dev
  | b0 :: b1 :: b2 :: b3 :: b4 :: b5 :: b6 :: b7 :: bs => (d.bar0Put a 8 (leNat [b0, b1, b2, b3, b4, b5, b6, b7])).bar0Words (a + 8) bs
  | _ => d

/-- A host write of bytes at BAR0 offset `a`. -/
def Dev.bar0Write (d : Dev) (a : Nat) (bs : List Byte) : Dev :=
  if !bar0Ok a bs.length then d.hostNote GLB.HOST_ERR.BAD_SIZE 0 a
  else if bs.length = 4 then d.bar0Put a 4 (leNat bs)
  else d.bar0Words a bs

/-- HOST_REGISTER_WRITE of bytes `bs` at BAR0 offset `a`. -/
def execHostRegisterWrite (a : Nat) (bs : List Byte) (s : State) : Out :=
  act s (fun d => !d.held) (fun d => d.bar0Write (a % 0x4000000) bs)

/-- HOST_BAD_ACCESS: a BAR0 request of `n` bytes at `a` whose size, alignment or byte enables (`full` false) BAR0 does not take. -/
def execHostBadAccess (rd : Bool) (a n : Nat) (full : Bool) (s : State) : Out :=
  act s (fun d => !d.held && (!bar0Ok a n || !full)) (fun d =>
    let d := d.hostNote GLB.HOST_ERR.BAD_SIZE 0 (a % 0x4000000)
    if rd then d.hostRead [2 ^ (8 * n) - 1] else d)

/-- An access that does not reach its target: its error, and for a read of `n` bytes all ones. -/
def Dev.deny (d : Dev) (f : Fld) (bar a : Nat) (rd : Bool) (n : Nat) : Dev :=
  if rd then (if f = GLB.HOST_ERR.BOOT_DROP then d else d.hostErr f bar a).hostRead [2 ^ (8 * n) - 1] else d.hostDeny f bar a

/-- Device address that BAR2 offset `o` reaches (R368). -/
def Dev.winAddr (d : Dev) (o : Nat) : Nat :=
  (d.get GLB.WIN_BASE_HI.HI * 2 ^ 32 + d.get GLB.WIN_BASE_LO.LO * 2 ^ 30 + o % 0x40000000) % 2 ^ 48

/-- The error of an access through a BAR. -/
def Dev.busErr (d : Dev) (bar a : Nat) : Option Fld := if bar = 0 then d.bar0Err a else d.bar2Err (d.winAddr a)

/-- Offsets in a BAR of the words that an access of `n` bytes at `a` meets: 4 bytes each for BAR0, the rest of an aligned 8 for BAR2; always the first. -/
def spanOffs (bar a n : Nat) : List Nat :=
  if bar = 0 then (List.range (max 1 (n / 4))).map (fun i => a + 4 * i)
  else a :: (List.range ((a % 8 + n + 7) / 8 - 1)).map (fun i => a / 8 * 8 + 8 * i + 8)

/-- The first word of a read that does not reach its target: its error and its offset (R364, log entry 59). -/
def Dev.spanErr (d : Dev) (bar a n : Nat) : Option (Fld × Nat) :=
  (spanOffs bar a n).findSome? (fun o => (d.busErr bar o).map (fun f => (f, o)))

/-- The error of an access at `a`: a write's words are judged one by one, a read fails whole with the first of its words that does (R364). -/
def Dev.accessErr (d : Dev) (rd : Bool) (bar a n : Nat) : Option (Fld × Nat) :=
  if rd then d.spanErr bar a n else (d.busErr bar a).map (fun f => (f, a))

/-- HOST_UNMAPPED_ACCESS: an access of `n` bytes through `bar` at `a` to an unimplemented address, a parked domain or a block that boot keeps closed. -/
def execHostUnmappedAccess (rd : Bool) (bar a n : Nat) (s : State) : Out :=
  let bar := bar % 2
  let a := a % (if bar = 0 then 0x4000000 else 0x40000000)
  act s (fun d => !d.held && (d.accessErr rd bar a n).isSome) (fun d => match d.accessErr rd bar a n with
    | some (f, o) => d.deny f bar o rd n
    | none => d)

/-- An address register with one half of it written; the low half keeps the bits from `k` on. -/
def barPut (old : Option Nat) (k : Nat) (high : Bool) (v : Nat) : Option Nat :=
  let b := old.getD 0
  some (if high then b % 2 ^ 32 + v % 2 ^ 32 * 2 ^ 32 else b / 2 ^ 32 * 2 ^ 32 + v % 2 ^ 32 / 2 ^ k * 2 ^ k)

/-- A configuration write of the 32 bits at offset `o` (R361): the Command register, whose Bus Master Enable takes none, the BARs, the power-management state (D0 and D3hot only), Device Control and AER. The places of the capabilities are the model's (PRESUMED, log entry 97). -/
def PcieCfg.write (c : PcieCfg) (o v : Nat) : PcieCfg :=
  match o / 4 with
  | 1 => { c with memEn := bit v 1 }
  | 4 => { c with bar0 := barPut c.bar0 26 false v }
  | 5 => { c with bar0 := barPut c.bar0 26 true v }
  | 6 => { c with bar2 := barPut c.bar2 30 false v }
  | 7 => { c with bar2 := barPut c.bar2 30 true v }
  | 0x11 => if v % 4 = 0 then { c with d3hot := false } else if v % 4 = 3 then { c with d3hot := true } else c
  | 0x16 => { c with devCtl := Nat.land v 0x70EF }
  | 0x42 => { c with uncMask := v % 2 ^ 32 }
  | 0x43 => { c with uncSev := v % 2 ^ 32 }
  | 0x45 => { c with corMask := v % 2 ^ 32 }
  | _ => c

/-- The 32 bits at offset `o` of the endpoint's configuration (Table 15.1): IDs, Command, Status with its capability list, and the class code; a 64-bit BAR shows its type below its address; BAR4 and the expansion ROM are not there. The list holds Power Management at 0x40 (D0 and D3hot) and PCI Express at 0x50 (Max_Payload_Size 512, a completion boundary of 64 bytes, 32 GT/s and four lanes); AER stands at 0x100. Neither MSI nor MSI-X is in it. The revision is the stepping; places and the bits that Table 15.1 does not name are PRESUMED (log entry 97). -/
def PcieCfg.read (c : PcieCfg) (o : Nat) : Nat :=
  match o / 4 with
  | 0 => 0x51201F3B
  | 1 => b2n c.memEn * 2 + 0x100000
  | 2 => 0x02800000
  | 4 => c.bar0.getD 0 % 2 ^ 32 + 4
  | 5 => c.bar0.getD 0 / 2 ^ 32
  | 6 => c.bar2.getD 0 % 2 ^ 32 + 12
  | 7 => c.bar2.getD 0 / 2 ^ 32
  | 0xD => 0x40
  | 0x10 => 0x00035001
  | 0x11 => 8 + b2n c.d3hot * 3
  | 0x14 => 0x00020010
  | 0x15 => 0x8002
  | 0x16 => c.devCtl
  | 0x17 => 0x45
  | 0x18 => Config.linkStatus.toNat * 2 ^ 16
  | 0x1F => 0x3E
  | 0x40 => 0x00020001
  | 0x42 => c.uncMask
  | 0x43 => c.uncSev
  | 0x45 => c.corMask
  | _ => 0

/-- PCIE_RESET: the endpoint alone; what it still held is lost. Until the host's configuration writes restore the BARs no access arrives (R367, log entry 97). -/
def execPcieReset (s : State) : Out :=
  act s (fun d => !d.inCold && !d.host.balls) (fun d => { d.hostRead [] with host.pcie := .reset })

-- Device addresses (R432 to R435).

/-- Whether R435 and R424 keep the host from writing the HBM word at `a`. -/
def Dev.hostProtected (d : Dev) (a : Nat) : Bool :=
  let h := a / 0x1000000000
  let o := a % 0x1000000000
  let stage := h == 0 && Nat.blt (o - 0xA00000000) 0x8000000 && d.is NVS.FL_CTL.DONE && !(d.boot.cands == [3] && d.boot.phase != .none)
  (d.is QRY.GCFG.EN && Nat.blt o (d.flowBytes h)) || (Nat.ble 0xA00000000 o && Nat.blt o 0xA0C000000 && !stage) || d.inAcc h o 8

/-- A write of the 64-bit word at device address `a`, whole, as its owner applies it. -/
def Dev.devPut (d : Dev) (a v : Nat) : Dev :=
  if Nat.blt a 0x4000000000 then d.hbmPut a (natLE 8 v)
  else if Nat.blt a 0x4020000000 then
    let s := (a - 0x4000000000) / 0x4000000
    let o := a % 0x4000000
    if Nat.blt o 0x1C20000 then d.tableWrite s o v
    else if Nat.blt o 0x1C80000 then d
    else if Nat.blt o 0x2000000 then d.clsPatternWrite s ((o - 0x1C80000) / 0x40) (o % 0x40 / 8) v
    else if Nat.blt o 0x2800000 then d.clsEntryWrite s ((o - 0x2000000) / 0x80) (o % 0x80 / 8) v
    else if Nat.blt o 0x3000000 then d
    else d.wr64 a v
  else d

/-- The host's write of the word at device address `a` through BAR2, in an access at BAR2 offset `o`. -/
def Dev.bar2Put (d : Dev) (o a v : Nat) : Dev :=
  d.hostWord o a (fun d =>
    if (Nat.blt a 0x4000000000 && d.hostProtected a) || inCtlStore a then d.hostErr GLB.HOST_ERR.UNMAPPED 1 o else d.devPut a v)

/-- The word at `a` with the bytes of `bs` that fall into it written over it; `p` is the address of the first of them. -/
def Dev.mixWord (d : Dev) (a p : Nat) (bs : List Byte) : Nat := leNat (writeB ((d.readsAt a 8).rdBytes a 8) (p - a) bs)

/-- Word by word, over at most `n` words (R363). -/
def Dev.bar2Words (o : Nat) : Nat → Dev → Nat → List Byte → Dev
  | 0, d, _, _ => d
  | _, d, _, [] => d
  | n + 1, d, p, bs =>
    let a := p / 8 * 8
    let k := 8 - (p - a)
    (d.bar2Put o a (d.mixWord a p (bs.take k))).bar2Words o n (p + k) (bs.drop k)

/-- BAR2_WRITE of at most 512 bytes `bs` at BAR2 offset `o`. -/
def execBar2Write (o : Nat) (bs : List Byte) (s : State) : Out :=
  act s (fun d => !d.held && Nat.ble bs.length 512) (fun d => d.bar2Words (o % 0x40000000) 65 (d.winAddr o) bs)

-- Reading a register as the device shows it (for the WAIT records of R350).

/-- SWC.QUEUE_STAT of a queue: the counts with the states of Table 12.9. -/
def Dev.queueStat (d : Dev) (p q held : Nat) : Nat :=
  let x := d.queue p q
  let buoy := match x.ents with
    | e :: _ => e.pkt.launch.isSome
    | [] => false
  held % 2 ^ 48 + b2n x.spill * 2 ^ 48 + b2n (d.queuePaused p q) * 2 ^ 49 + b2n buoy * 2 ^ 50

/-- BPM.POOL_STAT of pool `k` of half `h`. -/
def Dev.poolStat (d : Dev) (h k : Nat) : Nat :=
  let c := runsLen (d.cacheOf h k)
  let parked := (d.buf.info.filter (fun e => e.1 / 2 ^ 32 == h && handlePool (e.1 % 2 ^ 32) == k && mPARKED e.2)).length
  (c + runsLen (d.ringOf h k)) % 2 ^ 23 + c % 2 ^ 11 * 2 ^ 24 + parked % 2 ^ 20 * 2 ^ 36

/-- GLB.EPOCH_STAT. -/
def Dev.epochStat (d : Dev) (held : Nat) : Nat :=
  bits held 13 12 * 2 ^ 12 + d.liveMask + d.oldest * 2 ^ 8 + d.oldestAge * 2 ^ 16

/-- Registers of a slice whose value the device computes. -/
def Dev.sliceLive (d : Dev) (s o held : Nat) : Nat :=
  if o = 0x180010 then d.fwdNow
  else if o = 0x200070 then d.qryNow
  else if Nat.ble 0x280000 o && Nat.blt o 0x300000 then
    let c := 8 * s + (o - 0x280000) / 0x10000
    let r := o % 0x10000
    if Nat.ble 0x800 r && Nat.blt r 0xA00 then d.ctxStat (64 * c + (r - 0x800) / 8)
    else if Nat.ble 0x80 r && Nat.blt r 0xC0 then held % 2 ^ 16 + b2n (sget d.pwr.dozing (8 * c + (r - 0x80) / 8) 0 != 0) * 2 ^ 16
    else held
  else if Nat.ble 0x304000 o && Nat.blt o 0x309000 && o % 0x20 = 0x10 then
    match portOf s ((o - 0x304000) / 0x200) with
    | some p => d.queueStat p (o % 0x200 / 0x20) held
    | none => held
  else if o = 0x30B088 then held / 2 ^ 15 * 2 ^ 15 + (d.swc.residues.filter (fun r => r.half == s / 4)).length % 2 ^ 15
  else held

/-- The value that the register at `a` shows. -/
def Dev.regLive (d : Dev) (a : Nat) (r : RegFam) : Nat :=
  let held := d.regHeld a r
  if a = 0 then d.dieId
  else if a = 8 then d.uidLo
  else if a = 0xC then d.uidHi
  else if a = 0x218 then d.epochStat held
  else if a = 0x500 then d.beacon
  else if a = 0x600 then d.gpioIn
  else if a = 0x100038 then toWord 40 d.tmu.slewRem
  else if a = 0x300008 then held / 8 * 8
  else if Nat.ble 0x108000 a && Nat.blt a 0x200000 then d.txtsWord ((a - 0x108000) / 0x20) (a % 0x20 / 8)
  else if Nat.ble 0x200080 a && Nat.blt a 0x2000C0 then held % 2 ^ 25 + b2n (d.sliceParked ((a - 0x200080) / 8)) * 2 ^ 25
  else if a = 0x300110 then clrBit held 48 + b2n (d.flt.mapQ.any (fun m => m.deferAt != 0) || (d.flt.psCmd.map (fun c => c.waiting)).getD false || d.boot.flop.deferAt != 0) * 2 ^ 48
  else if a = 0x300300 then d.flt.tracks.length % 2 ^ 11 + d.mapCount * 2 ^ 12
  else if Nat.ble 0x500000 a && Nat.blt a 0x600000 && Nat.ble 0x300 (a % 0x80000) && Nat.blt (a % 0x80000) 0x340 then
    d.poolStat ((a - 0x500000) / 0x80000) ((a % 0x80000 - 0x300) / 8)
  else if Nat.ble 0x1000000 a && Nat.blt a 0x3000000 then d.sliceLive ((a - 0x1000000) / 0x400000) (a % 0x400000) held
  else held

/-- The 32 bits at BAR0 offset `a`; reserved offsets read 0 (R9). -/
def Dev.read4 (d : Dev) (a : Nat) : Nat :=
  if Nat.ble 0x3000000 a && Nat.blt a 0x3400000 then d.dbgRead ((a - 0x3000000) / 0x10000) (a / 8 * 8 % 0x10000) / 2 ^ (a % 8 / 4 * 32) % 2 ^ 32
  else match findReg allLayout a with
    | some (b, r) => d.regLive b r / 2 ^ (8 * (a - b)) % 2 ^ 32
    | none => 0

-- Host reads (R362 to R365).

/-- The half whose blocks hold BAR0 offset `a`, or the device address that BAR2 reaches. -/
def bar0Half (a : Nat) : Nat :=
  if Nat.blt a 0x500000 then 0
  else if Nat.blt a 0x700000 then a / 0x80000 % 2
  else if Nat.blt a 0x1000000 then 0
  else if Nat.blt a 0x3000000 then (a - 0x1000000) / 0x1000000
  else (a - 0x3000000) / 0x200000 % 2
def bar2Half (a : Nat) : Nat :=
  if Nat.blt a 0x2000000000 then a / 0x1000000000
  else if Nat.blt a 0x4020000000 then (a - 0x4000000000) / 0x10000000 % 2
  else 0

/-- The device addresses of the 64-bit words that a BAR2 read of `n` bytes at offset `o` meets. -/
def Dev.bar2Span (d : Dev) (o n : Nat) : List Nat :=
  let a := d.winAddr o
  (List.range ((a % 8 + n + 7) / 8)).map (fun i => a / 8 * 8 + 8 * i)

/-- Whether a read of `n` bytes at `a` of `bar` is one that the device takes (R362, R363). -/
def readFits (bar a n : Nat) : Bool := if bar = 0 then bar0Ok a n else Nat.blt 0 n && Nat.ble n 4096

/-- The half that the target of a read lies in. -/
def Dev.readHalf (d : Dev) (bar a : Nat) : Nat := if bar = 0 then bar0Half a else bar2Half (d.winAddr a)

/-- The HBM words that a read meets. -/
def Dev.readHbm (d : Dev) (bar a n : Nat) : List Nat := if bar = 0 then [] else (d.bar2Span a n).filter (fun w => Nat.blt w 0x2000000000)

/-- How long, of the time since tick `t0`, something that began at `b` and ended at `e` (0: has not ended) has lasted. -/
def Dev.lasted (d : Dev) (t0 b e : Nat) : Nat := (if e = 0 then d.tick else min e d.tick) - max t0 b

/-- The end of a retry that has at most `w` ns. -/
def Try.till (t : Try) (w : Nat) : Nat := if t.endAt = 0 then t.t0 + w else t.endAt

/-- How long, of the `t` ns since its request, a lower layer reported a retry for a read: the die-to-die link on its way to half 1, the HBM command of one of its words, or the repair of a row of one (Table 17.3, log entry 111). -/
def Dev.readSusp (d : Dev) (bar a n t : Nat) : Nat :=
  let t0 := d.tick - t
  let ws := d.readHbm bar a n
  let link := if d.readHalf bar a = 1 then (d.flt.d2dTry.filter (fun e => e.2.n != 0)).map (fun e => d.lasted t0 e.2.t0 (e.2.till 5000)) else []
  let cmds := (d.flt.hbmTry.filter (fun e => e.2.n != 0 && ws.any (fun w => w / 8 == e.2.loc / 8))).map (fun e => d.lasted t0 e.2.t0 (e.2.till 2000))
  let rows := (d.flt.repairAt.filter (fun e => ws.any (fun w => hbmLoc w == e.1))).map (fun e => d.lasted t0 e.2.1 e.2.2)
  (link ++ cmds ++ rows).foldl max 0

/-- The words of a read of HBM or of the persistent store are read under ECC: the answer says whether one cannot be corrected (Tables 17.1 and 19.4). -/
def Dev.wordsRead (d : Dev) : List Nat → Bool × Dev
  | [] => (false, d)
  | w :: ws =>
    let (b, d) := if Nat.blt w 0x2000000000 then d.hbmCheck (w / 0x1000000000) (w % 0x1000000000)
      else if Nat.ble 0x8000000000 w && d.badAt w != 0 then (if d.badAt w = 1 then (false, d.mend w) else (true, d))
      else (false, d)
    let (b', d) := d.wordsRead ws
    (b || b', d)

/-- Reads what the target of a read holds; the answer says whether the access fails below the timer: the link to half 1 is down (Table 17.3), or a word cannot be corrected. -/
def Dev.readBelow (d : Dev) (bar a n : Nat) : Bool × Dev :=
  if d.readHalf bar a = 1 && d.linkGone then (true, d)
  else if bar = 0 then (false, d)
  else d.wordsRead (d.bar2Span a n)

/-- What a read of the register word at `a` leaves: a read of TXTS word 2 pops its entry (R327), a read-clear field is cleared (R7). -/
def Dev.readEnd (d : Dev) (a : Nat) : Dev :=
  if Nat.ble 0x108000 a && Nat.blt a (0x108000 + 257 * 0x20) && a % 0x20 = 0x10 then d.txtsPop ((a - 0x108000) / 0x20)
  else match findReg allLayout a with
    | some (b, r) => r.flds.foldl (fun (d : Dev) f => if f.acc = .rc && f.lo / 32 == (a - b) / 4 then d.set (f.at b) 0 else d) d
    | none => d

/-- The words of an aligned BAR0 access of 4 or 8 bytes, read at once; a read of TMU.TOD_NS latches the counter first (R319). -/
def Dev.bar0Get (d : Dev) (a n : Nat) : Nat × Dev :=
  let ws := (List.range (n / 4)).map (fun i => a + 4 * i)
  let d := if ws.contains (TMU.TOD_NS.NS.key / 32 * 4) then d.todLatch else d
  (ws.foldr (fun w v => d.read4 w + v * 2 ^ 32) 0, ws.foldl Dev.readEnd d)

/-- A BAR0 read of `k` words of 8 bytes in ascending order (R362). -/
def Dev.bar0Reads (d : Dev) (a : Nat) : Nat → Nat × Dev
  | 0 => (0, d)
  | k + 1 =>
    let (v, d) := d.bar0Get a 8
    let (w, d) := d.bar0Reads (a + 8) k
    (v + w * 2 ^ 64, d)

/-- The bytes, as one number, of a BAR2 read at any alignment (R363). -/
def Dev.bar2Get (d : Dev) (o n : Nat) : Nat :=
  (d.bar2Span o n).foldr (fun w v => (d.readsAt w 8).see64 w + v * 2 ^ 64) 0 / 2 ^ (8 * (d.winAddr o % 8)) % 2 ^ (8 * n)

/-- The response timer of a read has run out `t` ns after the request: 20 µs, for as long as no retry of the access suspended it, and at most 80 µs (R365). -/
def Dev.readLate (d : Dev) (bar a n t : Nat) : Bool := Nat.ble (20000 + d.readSusp bar a n t) t || Nat.ble 80000 t

/-- The answer to a read whose timer has fired: the lower block that carries it discards and counts it when it comes, if it comes (R410, log entry 111). -/
def Dev.lateAnswer (d : Dev) (bar a n : Nat) : Dev :=
  let (v, d) := d.fresh
  if v % 2 = 0 then d
  else if d.readHalf bar a = 1 then d.cntD2d 3
  else match d.readHbm bar a n with
    | w :: _ => d.cntHbc (locStack (hbmLoc w)) 6
    | [] => d

/-- HOST_READ_TIMEOUT: a read of `n.1` bytes through `bar` at `a` whose target has not answered after `n.2` ns. A read of which a word does not reach its target fails as R364 says. Where the timer has run out, or the access fails below, it completes with 0xFF bytes; else the target's answer still completes it (log entry 111). -/
def execHostReadTimeout (bar a : Nat) (n : Nat × Nat) (s : State) : Out :=
  let bar := bar % 2
  let a := a % (if bar = 0 then 0x4000000 else 0x40000000)
  act s (fun d => !d.held && readFits bar a n.1) (fun d =>
    match d.spanErr bar a n.1 with
    | some (f, o) => d.deny f bar o true n.1
    | none =>
      let late := d.readLate bar a n.1 n.2
      let (bad, d) := d.readBelow bar a n.1
      if bad then (d.hostErr GLB.HOST_ERR.RD_TMO bar a).hostRead [2 ^ (8 * n.1) - 1]
      else if late then ((d.lateAnswer bar a n.1).hostErr GLB.HOST_ERR.RD_TMO bar a).hostRead [2 ^ (8 * n.1) - 1]
      else if bar = 0 then
        let (v, d) := if n.1 = 4 then d.bar0Get a 4 else d.bar0Reads a (n.1 / 8)
        d.hostRead [v]
      else d.hostRead [d.bar2Get a n.1])

end Sys2Proof.Machine
end

