-- ==== Sys2Proof/Machine/Boot.lean ====
section
/-! DEFINITION. The boot sequence from HBM training to the gate, and reloads (spec/14 R340 to R358). -/

namespace Sys2Proof.Machine

open Sys2Proof

-- Steps 3 to 6.

/-- Boot step 3: HBM and the flash. `flash` is what the probe found: 0 a flash with density 2^`dens` bytes, sectors of 2^(12 + `sec`) and pages of 2^(8 + `page`) bytes; 1 no SFDP answer; 2 a flash outside R341. -/
def hbmInitEff (hbm : Bool) (flash dens sec page : Nat) (d : Dev) : Dev :=
  if !hbm then { d with boot.hbmOk := false, boot.cands := [] }.bootCode (0x13, 0, 0) |>.bootFailed
  else
    let e := if flash = 0 && (Nat.blt dens 23 || Nat.blt 28 dens) then 2 else flash % 3
    let d := { d with boot.hbmOk := true, boot.flashErr := e, boot.sectorLog := 12 + sec % 8, boot.pageLog := 8 + page % 4 }
    let d := if e = 0 then (d.set NVS.FL_INFO.PRESENT 1).set NVS.FL_INFO.DENSITY_LOG2 dens else d
    d.bootTo .retire 2

/-- HBM_INIT_DONE. -/
def execHbmInitDone (hbm : Bool) (flash dens sec page : Nat) (s : State) : Out :=
  act s (fun d => d.boot.phase == .hbm) (hbmInitEff hbm flash dens sec page)

/-- Boot step 4, and where it leads: HOST_WAIT, a failure of the probe, or step 5. -/
def retireEff (d : Dev) : Dev :=
  let d := d.storeBoot
  if d.bootStrap = 3 then d.bootTo .none 7
  else if d.boot.flashErr != 0 then d.bootFail (d.boot.flashErr, 0, 0)
  else d.bootTo .headers 3

/-- RETIREMENT_MAP_APPLY. -/
def execRetirementMapApply (ups : List (Nat × Nat)) (s : State) : Out :=
  act s (fun d => d.boot.phase == .retire) (fun d => retireEff (d.upset ups))

/-- Boot step 5: the candidates in order; without any, each header's code is a failed attempt. -/
def headersEff (d : Dev) : Dev :=
  let cs := if d.bootStrap = 0 then d.candOrder.filter (fun c => d.candErr c == 0) else [d.bootStrap]
  match cs with
  | [] => ((d.bootCode (d.candErr 1, 0, 0)).bootCode (d.candErr 2, 0, 0)).bootFailed
  | _ => { d with boot.cands := cs }.bootTo .image 3

/-- HEADER_READ_DONE. -/
def execHeaderReadDone (s : State) : Out := act s (fun d => d.boot.phase == .headers && !d.flt.pwrFail) headersEff

/-- Boot step 6: the image is in the staging area and checked. -/
def imageReadEff (c : Nat) (d : Dev) : Dev :=
  let img := d.candImage c
  let d := d.wrBytes (tabA 0 0) img
  match (if d.candErr c != 0 then some (d.candErr c, 0, 0) else imgErr img (d.candMax c)) with
  | some f => d.bootFail f
  | none => d.imageGood img

/-- IMAGE_READ_DONE. -/
def execImageReadDone (s : State) : Out :=
  act s (fun d => d.boot.phase == .image && !d.flt.pwrFail) (fun d => imageReadEff (d.boot.cands.headD 1) d)

-- Step 7 (R353).

/-- The signature's failure, 0 where it verifies. -/
def sigErr (keyHash : Nat) (img : List Byte) : Nat :=
  let b := sliceB img (le img 0x18 4) 192
  let n := fun o => beAt b o 48
  if le img 0x12 2 != 1 then 0x0D
  else if sha384 (b.take 96) != keyHash then 0x0F
  else if ecdsaOk (n 0) (n 48) (n 96) (n 144) (sha384 (img.take (le img 0x18 4))) then 0
  else 0x0E

/-- SIG_VERIFY_DONE. -/
def execSigVerifyDone (s : State) : Out :=
  act s (fun d => d.boot.phase == .verify) (fun d =>
    let e := sigErr d.boot.keyHash (d.candImage 3)
    if e = 0 then d.bootTo .own 4 else d.bootFail (e, 0, 0))

-- Step 8 (R354, Table 14.8).

/-- A record of an image. -/
structure Rec where
  addr : Nat
  op : Nat
  space : Nat
  val : Nat
deriving DecidableEq, Repr

def recOf (b : List Byte) : Rec := ⟨bits (le b 0 8) 39 0, bits (le b 0 8) 59 56, bits (le b 0 8) 63 60, le b 8 8⟩

/-- The records of a section. -/
def Ent.records (e : Ent) (img : List Byte) : List Rec := (List.range (e.len / 16)).map (fun i => recOf (sliceB img (e.off + 16 * i) 16))

/-- Whether `a` lies in `n` bytes from `b`. -/
def within (a b n : Nat) : Bool := Nat.ble b a && Nat.blt a (b + n)

/-- Whether a section may write the 32-bit word at BAR0 offset `a` (Table 14.6). -/
def Ent.mayBar0 (e : Ent) (a : Nat) : Bool :=
  let sl := 0x1000000 + 0x400000 * e.inst
  let inSlice := within a 0x1000000 0x2000000
  let o := a % 0x400000
  match e.kind with
  | 1 => (Nat.blt a 0x100000 && a != 0x10 && a != 0x14 && a != 0x200 && a != 0x214 && a != 0x120 && a != 0x10C && !within a 0x1000 420) || within a 0x600000 0x200000
  | 2 => within a 0x200000 0x100000
  | 3 => within a 0x400000 0x100000 || (inSlice && within o 0x380000 0x80000)
  | 4 => within a 0x100000 0x100000
  | 5 => within a (0x500000 + 0x80000 * e.inst) 0x80000
  | 6 => inSlice && within o 0x200000 0x80000
  | 7 => within a sl 0x80000 || (e.inst == 0 && within a 0x300 0x18)
  | 8 => within a (sl + 0x80000) 0x80000
  | 9 => within a (sl + 0x100000) 0x80000
  | 0xA => within a (sl + 0x180000) 0x80000
  | 0xD => within a (0x1280000 + 0x400000 * (e.inst / 8) + 0x10000 * (e.inst % 8)) 0x10000
  | 0xE => within a (sl + 0x300000) 0x80000
  | _ => false

/-- Whether a section may write device address `a`: a classifier's entries and patterns, a forwarding section's next hops. -/
def Ent.mayDev (e : Ent) (a : Nat) : Bool :=
  match e.kind with
  | 9 => within a (tblA e.inst 0x1C80000) 0x40000 || within a (tblA e.inst 0x2000000) 0x600000
  | 0xA => within a (tblA e.inst 0x1C00000) 0x20000
  | _ => false

/-- Rule 0x20 for one record. -/
def Ent.mayRec (e : Ent) (r : Rec) : Bool :=
  r.op == 2 || (if r.space = 0 then e.mayBar0 r.addr && (r.op != 1 || e.mayBar0 (r.addr + 4)) else e.mayDev r.addr)

/-- The register values in force at the end of the image, as the check takes them (R354, R434): a layout register keeps its value once the image has enabled its unit. -/
def Dev.shadow (d : Dev) (img : List Byte) (tab : List Ent) : Dev :=
  let put := fun (d : Dev) (a : Nat) (r : RegFam) (v : Nat) => if d.frozen a then d else d.regWrite a r v
  tab.foldl (fun (d : Dev) e => if !e.recs then d else (e.records img).foldl (fun (d : Dev) r =>
    if r.op = 2 || r.space != 0 then d else if r.op = 1 then d.put8 put r.addr r.val else d.put4 put r.addr r.val) d) d

/-- Whether no two ranges of a list meet. -/
def apart : List (Nat × Nat) → Bool
  | [] => true
  | r :: rs => rs.all (fun x => !meets r.1 r.2 x.1 x.2) && apart rs

/-- Whether a range lies within [b, e). -/
def inside (b e : Nat) (r : Nat × Nat) : Bool := r.2 == 0 || (Nat.ble b r.1 && Nat.ble (r.1 + r.2) e)

/-- Rule 0x21 on half `h`: every device-managed range in its region (Table 19.10), none meeting another; the staging area lies below all of the tables region. -/
def Dev.rangesOk (d : Dev) (h : Nat) : Bool :=
  let f := d.flowBytes h
  let tables := [d.groupRange h, d.accRange h] ++ d.ringRanges h
  inside 0 f (d.benchRange h) && (d.poolRanges h).all (inside f 0xA00000000) && tables.all (inside 0xA0C000000 0xC00000000) &&
    apart ([d.benchRange h] ++ d.poolRanges h ++ tables)

/-- Whether an HBM data section writes into no device-managed range but a group table. -/
def Dev.dataOk (d : Dev) (e : Ent) : Bool :=
  let h := e.dest / 2 ^ 36 % 2
  let o := e.dest % 2 ^ 36
  !meets o e.len 0xA00000000 0xC000000 &&
    ([d.benchRange h, d.accRange h] ++ d.poolRanges h ++ d.ringRanges h).all (fun r => !meets o e.len r.1 r.2)

/-- Rule 0x23: no two pins carry one function. -/
def Dev.pinsOk (d : Dev) : Bool :=
  (List.range 16).all (fun i => (List.range i).all (fun j =>
    let f := d.get (GLB.GPIO_FN.FN i)
    !gpioFnUsed f || f != d.get (GLB.GPIO_FN.FN j)))

/-- Rule 0x26: microcode sections of one cluster keep apart. -/
def ucodeApart (tab : List Ent) : Bool :=
  (List.range 64).all (fun c => apart ((tab.filter (fun e => e.kind == 0xC && e.inst == c)).map (fun e => (e.dest % 0x2000, e.len / 24))))

/-- The first item, with its number, for which `f` answers. -/
def firstAt {α : Type} (f : Nat → α → Option Fail) : Nat → List α → Option Fail
  | _, [] => none
  | i, a :: as => match f i a with
    | some x => some x
    | none => firstAt f (i + 1) as

/-- The first rule of Table 14.8 that an image breaks. -/
def Dev.ownLoad (d : Dev) (img : List Byte) : Option Fail :=
  let tab := (imgTable img).map entOf
  let e := d.shadow img tab
  match firstAt (fun i (x : Ent) => if x.recs then firstAt (fun j r => if x.mayRec r then none else some (0x20, i, j)) 0 (x.records img) else none) 0 tab with
  | some f => some f
  | none =>
    if !e.rangesOk 0 || !e.rangesOk 1 then some (0x21, 0, 0)
    else match firstAt (fun i (x : Ent) => if x.kind = 0xF && !e.dataOk x then some (0x21, i, 0) else none) 0 tab with
      | some f => some f
      | none =>
        if !e.poolsOk 0 || !e.poolsOk 1 then some (0x22, 0, 0)
        else if !e.pinsOk then some (0x23, 0, 0)
        else if (List.range 64).any (fun c => (e.keeperless c 0).isSome) then some (0x24, 0, 0)
        else if (e.fixedPort 0).isSome then some (0x25, 0, 0)
        else if !ucodeApart tab then some (0x26, 0, 0)
        else none

/-- Set 0 becomes active for every partition (R40); an octet whose port mode this changes takes it as R51 says. -/
def Dev.setsToZero (d : Dev) : Dev :=
  let one := fun (n : Nat) (d : Dev) =>
    if !d.is (GLB.PART_CTL.ACTIVE n) then d
    else
      let old := d.octetMode (n - 72)
      let d := d.set (GLB.PART_CTL.ACTIVE n) 0
      if Nat.ble 72 n && Nat.blt n 104 then d.octetSwitch (n - 72) old else d
  forN 105 d one

/-- OWN_CHECK_DONE. -/
def execOwnCheckDone (s : State) : Out :=
  act s (fun d => d.boot.phase == .own) (fun d => match d.ownLoad (d.candImage 3) with
    | some f => d.bootFail f
    | none => { d.setsToZero with boot.applyAt := (0, 0), boot.waitAt := 0 }.bootTo .apply 5)

-- Step 9 (R345, R347, R350 to R352).

/-- How far an entry has come: done, at a WAIT that is not yet true, or failed. -/
inductive ApplyEnd where
  | ok
  | wait (rec : Nat)
  | fail (code rec : Nat)
deriving DecidableEq, Repr

/-- One record; none for a WAIT that is not met. -/
def Dev.applyRec (d : Dev) (r : Rec) : Option Dev :=
  let half := fun (d : Dev) => bits r.val 31 0 * 2 ^ (r.addr % 8 * 8) + d.rd64 (r.addr / 8 * 8) - d.rd 4 r.addr * 2 ^ (r.addr % 8 * 8)
  match r.op, r.space with
  | 0, 0 => some (d.put4 (fun d => d.regPut true) r.addr r.val)
  | 1, 0 => some (d.put8 (fun d => d.regPut true) r.addr r.val)
  | 0, _ => some (d.devPut (r.addr / 8 * 8) (half d))
  | 1, _ => some (d.devPut r.addr r.val)
  | _, sp =>
    let x := if sp = 0 then d.read4 r.addr else d.rd 4 r.addr
    if Nat.land x (r.val / 2 ^ 32) = r.val % 2 ^ 32 then some d else none

/-- The records of an entry, from number `i` on. -/
def Dev.applyRecs : Dev → Nat → List Rec → Dev × ApplyEnd
  | d, _, [] => (d, .ok)
  | d, i, r :: rs => match d.applyRec r with
    | some d => d.applyRecs (i + 1) rs
    | none => (d, .wait i)

/-- A bulk record: an INSERT in table `t` of slice `s` (R351); the command registers stay as they are. -/
def Dev.bulkPut (d : Dev) (s t : Nat) (b : List Byte) : Nat × Dev :=
  let fs := [FWD.CMD_KEY.W s 0, FWD.CMD_KEY.W s 1, FWD.CMD_KEY.W s 2, FWD.CMD_RES.W s, FWD.CMD_CTL.TABLE s, FWD.CMD_CTL.SETS s]
  let vs := [le b 0 8, le b 8 8, le b 16 8, le b 24 8, t, bits (le b 0 8) 61 60]
  let e := (fs.zip vs).foldl (fun (d : Dev) x => d.set x.1 x.2) d
  let (c, e) := fwdInsert s e
  (c.status, e.carry d fs)

/-- The records of a bulk entry. -/
def Dev.applyBulk : Dev → Nat → Nat → Nat → List (List Byte) → Dev × ApplyEnd
  | d, _, _, _, [] => (d, .ok)
  | d, s, t, i, b :: bs => match d.bulkPut s t b with
    | (0, d) => d.applyBulk s t (i + 1) bs
    | (_, d) => (d, .fail 0x14 i)

/-- Pieces of `n` bytes of a section. -/
def Ent.pieces (e : Ent) (img : List Byte) (n : Nat) : List (List Byte) := (List.range (e.len / n)).map (fun i => sliceB img (e.off + n * i) n)

/-- One entry, from record `j` on. -/
def Dev.applyEnt (d : Dev) (img : List Byte) (e : Ent) (j : Nat) : Dev × ApplyEnd :=
  if e.kind = 0xB then d.applyBulk e.inst (bits e.flags 3 2) 0 (e.pieces img 32)
  else if e.kind = 0xC then
    (forN (e.len / 24) d (fun i d => d.ucodeWrite e.inst 0 (e.dest % 0x2000 + i) (le img (e.off + 24 * i) 20)), .ok)
  else if e.kind = 0xF then (d.wrBytes (hbmA (e.dest / 2 ^ 36 % 2) (e.dest % 2 ^ 36)) (secBytes img e), .ok)
  else d.applyRecs j ((e.records img).drop j)

/-- Entries in table order from number `i`, the first of them from record `j` on. -/
def Dev.applyEnts (img : List Byte) : Dev → Nat → Nat → List Ent → Dev × Nat × ApplyEnd
  | d, i, _, [] => (d, i, .ok)
  | d, i, j, e :: es => match d.applyEnt img e j with
    | (d, .ok) => Dev.applyEnts img d (i + 1) 0 es
    | (d, x) => (d, i, x)

/-- A failure of step 9 resets every functional block as a soft reset does: a command on the flash or the persistent store is cut short (log entry 102). HBM, the straps and what the boot has found stay (R345). -/
def Dev.applyReset (d : Dev) : Dev :=
  let (v, d) := d.fresh
  let d := d.resetCut (v % 2 == 1) (v / 2)
  let keep := fun (a : Nat) => inPs a || Nat.blt a 0x2000000000
  let r := { d.cleared with
    mem := d.mem.filter (fun e => keep e.1), bad := d.bad.filter (fun e => keep e.1),
    boot := { d.boot with flop := {}, heldLocks := 0, applyAt := (0, 0), waitAt := 0 }, host := d.host,
    flt := { d.flt with tracks := [], psCmd := none, hbmTry := [], d2dTry := [] } }
  let r := r.carry d [GLB.BOOT_STAT.ERR_LAST, GLB.BOOT_STAT.ERR_FIRST, GLB.BOOT_STAT.FALLBACK, GLB.BOOT_STAT.SIG_FUSE, GLB.BOOT_STAT.XSPI_SPEED,
    GLB.BOOT_STAT.BOOT, GLB.BOOT_STAT.STATE, GLB.BOOT_DETAIL.RECORD, GLB.BOOT_DETAIL.SECTION, GLB.BOOT_CTL.NEXT, NVS.FL_INFO.PRESENT,
    NVS.FL_INFO.DENSITY_LOG2, NVS.HU_STAT.PF]
  let r := d.flt.retired.foldl (fun (r : Dev) x => r.retireFlag x.1 x.2) r
  d.flt.lastingWords.foldl (fun (r : Dev) x => r.retireFlag 5 x) r

/-- Boot step 9, as far as it comes: it stops at a WAIT that is not met, and goes on from there; after 100 ms the WAIT fails. -/
def applyEff (d : Dev) : Dev :=
  let img := d.candImage 3
  let (i, j) := d.boot.applyAt
  let fresh := d.boot.waitAt == 0
  let t0 := d.boot.waitAt
  match d.applyEnts img i j (((imgTable img).map entOf).drop i) with
  | (d, _, .ok) => (d.set GLB.BOOT_SEQ.SEQ (le img 8 4)).bootDone (d.boot.cands.headD 0)
  | (d, k, .wait x) =>
    if fresh || d.boot.applyAt != (k, x) then { d with boot.applyAt := (k, x), boot.waitAt := d.tick + 1 }
    else if Nat.ble (t0 + 100000000) (d.tick + 1) then d.applyReset.bootFail (0x11, k, x)
    else d
  | (d, k, .fail c x) => d.applyReset.bootFail (c, k, x)

/-- IMAGE_APPLY_DONE. -/
def execImageApplyDone (s : State) : Out := act s (fun d => d.boot.phase == .apply) applyEff

-- Reload (R357, R358).

/-- How far the structure of set 1 lies above that of set 0 which holds BAR0 offset `a`; none outside set 0. -/
def setStride (a : Nat) : Option Nat :=
  let o := a % 0x400000
  let hit := fun (b n st : Nat) => if within o b n then some st else none
  if within a 0x100000 0x100000 then
    (if within a 0x102000 0x1000 || within a 0x104000 0x1000 || within a 0x106000 0x1000 then some 0x1000 else none)
  else
    [hit 0x80000 0x10 0x10, hit 0x80028 4 4, hit 0x82000 0x800 0x800, hit 0x88000 0x2000 0x2000, hit 0x8C000 0x1000 0x1000, hit 0x8E000 0x1000 0x1000,
     hit 0x100008 8 8, hit 0x100020 8 8, hit 0x101000 0x800 0x800, hit 0x180020 8 8, hit 0x180030 8 8, hit 0x180400 0x200 0x200,
     hit 0x188000 0x8000 0x8000, (if within o 0x280000 0x80000 && within (o % 0x10000) 0x200 0x100 then some 0x100 else none)].findSome? id

/-- The partition of a reloadable entry (Table 14.6). -/
def Ent.partition (e : Ent) : Nat := if e.kind = 4 then 104 else if e.kind = 0xC || e.kind = 0xD then 8 + e.inst else e.inst

/-- A reload's write of `n` bytes to a set-0 register goes to the staged set `x`; the count is 1 where it is applied. -/
def Dev.reloadPut (d : Dev) (x a n v : Nat) : Nat × Dev :=
  match setStride a with
  | none => (0, d)
  | some st => (1, if n = 8 then d.put8 (fun d => d.regPut true) (a + x * st) v else d.put4 (fun d => d.regPut true) (a + x * st) v)

/-- One record of a reload; the count is 1 where it is skipped. -/
def Dev.reloadRec (d : Dev) (e : Ent) (x : Nat) (r : Rec) : Nat × Dev :=
  if r.op = 2 || r.space != 0 || !e.mayRec r then (1, d)
  else
    let wide := match findReg allLayout r.addr with
      | some (_, f) => f.bytes == 8
      | none => false
    if r.op = 0 then
      let (k, d) := d.reloadPut x r.addr 4 r.val
      (1 - k, d)
    else if wide then
      let (k, d) := d.reloadPut x r.addr 8 r.val
      (1 - k, d)
    else
      let (k, d) := d.reloadPut x r.addr 4 r.val
      let (m, d) := d.reloadPut x (r.addr + 4) 4 (r.val / 2 ^ 32)
      (1 - k - m, d)

/-- A reload that has read its section `bs` writes it to the staged set. -/
def Dev.reloadApply (d : Dev) (e : Ent) (bs : List Byte) : Dev :=
  let n := e.partition
  let x := 1 - d.get (GLB.PART_CTL.ACTIVE n)
  let f : Ent := { e with off := 0 }
  if e.kind = 0xC then
    d.partWrite n x (fun d => forN (e.len / 24) d (fun i d => d.ucodeWrite e.inst x (e.dest % 0x2000 + i) (le bs (24 * i) 20)))
  else
    let (k, d) := (f.records bs).foldl (fun (r : Nat × Dev) y =>
      let (m, d) := r.2.reloadRec f x y
      (r.1 + m, d)) (0, d)
    d.set NVS.FL_PROG.SKIPPED (min k 65535)

/-- A reload finishes. -/
def reloadEff (d : Dev) : Dev :=
  let i := d.boot.flop.section_
  let e := entOf (nthD d.boot.table i [])
  let bs := d.flashBytes (d.slotBase (d.get GLB.BOOT_STAT.LOADED - 1) + e.off) e.len
  let d := (((d.wrBytes (tabA 0 0x8000000) bs).set NVS.FL_PROG.SKIPPED 0).set NVS.FL_PROG.BYTES e.len)
  if fcsOf bs != e.crc then d.flashEnd 9
  else if d.boot.sigEn && sha384 bs != nthD d.boot.hashes i 0 then d.flashEnd 0x0E
  else (d.reloadApply e bs).flashEnd 0

/-- RELOAD_DONE. -/
def execReloadDone (s : State) : Out := act s (fun d => d.boot.flop.op == 1 && !d.flt.pwrFail) reloadEff

end Sys2Proof.Machine
end

