-- ==== Sys2Proof/Machine/Dispatch.lean ====
section
/-! DEFINITION. Which meaning each command has. -/

namespace Sys2Proof.Machine

/-- The effect of a command on everything but the queue. -/
def exec (i : Instr) (s : State) : Host.Outcome State Fault Refusal :=
  match i with
  | .hostRegisterWrite a bs => Sys2Proof.Machine.execHostRegisterWrite a bs s
  | .hostBadAccess rd a n full => Sys2Proof.Machine.execHostBadAccess rd a n full s
  | .hostUnmappedAccess rd bar a n => Sys2Proof.Machine.execHostUnmappedAccess rd bar a n s
  | .bar2Write o bs => Sys2Proof.Machine.execBar2Write o bs s
  | .hostReadTimeout bar a n => Sys2Proof.Machine.execHostReadTimeout bar a n s
  | .pcieReset => Sys2Proof.Machine.execPcieReset s
  | .hostFenceWrite token => Sys2Proof.Machine.execHostFenceWrite token s
  | .hostFenceComplete => Sys2Proof.Machine.execHostFenceComplete s
  | .lockWrite v => Sys2Proof.Machine.execLockWrite v s
  | .patchLockWrite v => Sys2Proof.Machine.execPatchLockWrite v s
  | .partArm n v => Sys2Proof.Machine.execPartArm n v s
  | .epochAdvGo => Sys2Proof.Machine.execEpochAdvGo s
  | .epochStamp => Sys2Proof.Machine.execEpochStamp s
  | .epochRetire n => Sys2Proof.Machine.execEpochRetire n s
  | .epochDrainWarn => Sys2Proof.Machine.execEpochDrainWarn s
  | .octetModeWrite sl k v => Sys2Proof.Machine.execOctetModeWrite sl k v s
  | .laneMapWrite sl k w v => Sys2Proof.Machine.execLaneMapWrite sl k w v s
  | .portCfgWrite p v => Sys2Proof.Machine.execPortCfgWrite p v s
  | .mgtCfgWrite v => Sys2Proof.Machine.execMgtCfgWrite v s
  | .pllLock o => Sys2Proof.Machine.execPllLock o s
  | .signalDetect p => Sys2Proof.Machine.execSignalDetect p s
  | .anComplete p => Sys2Proof.Machine.execAnComplete p s
  | .ltComplete p => Sys2Proof.Machine.execLtComplete p s
  | .rxAdaptDone p coefs => Sys2Proof.Machine.execRxAdaptDone p coefs s
  | .pcsAlignDone p skew => Sys2Proof.Machine.execPcsAlignDone p skew s
  | .pcsLockLoss p => Sys2Proof.Machine.execPcsLockLoss p s
  | .laneSignalLoss l ns => Sys2Proof.Machine.execLaneSignalLoss l ns s
  | .adaptUpdate l moves ends margin => Sys2Proof.Machine.execAdaptUpdate l moves ends margin s
  | .rxFrame p bs cut ph fec => Sys2Proof.Machine.execRxFrame p bs cut ph fec s
  | .rxPauseFrame p f => Sys2Proof.Machine.execRxPauseFrame p f s
  | .txFrame p ph und => Sys2Proof.Machine.execTxFrame p ph und s
  | .injectFrame f => Sys2Proof.Machine.execInjectFrame f s
  | .wakeFrame f => Sys2Proof.Machine.execWakeFrame f s
  | .mgtPlainFrame f => Sys2Proof.Machine.execMgtPlainFrame f s
  | .recircFrame sl => Sys2Proof.Machine.execRecircFrame sl s
  | .parseFrame p ups => Sys2Proof.Machine.execParseFrame p ups s
  | .graphWalk sl j ups => Sys2Proof.Machine.execGraphWalk sl j ups s
  | .profileWrite sl p w v => Sys2Proof.Machine.execProfileWrite sl p w v s
  | .payloadScan p ups => Sys2Proof.Machine.execPayloadScan p ups s
  | .classify p ups fl => Sys2Proof.Machine.execClassify p ups fl s
  | .clsScrub sl ix ups fl => Sys2Proof.Machine.execClsScrub sl ix ups fl s
  | .clsEntryWrite sl kind ix w v => Sys2Proof.Machine.execClsEntryWrite sl kind ix w v s
  | .clsProbe sl v => Sys2Proof.Machine.execClsProbe sl v s
  | .clsProbeDone sl ups fl => Sys2Proof.Machine.execClsProbeDone sl ups fl s
  | .forwardLookup p ups => Sys2Proof.Machine.execForwardLookup p ups s
  | .learnApply sl j ups => Sys2Proof.Machine.execLearnApply sl j ups s
  | .fwdAgeVisit sl t k w => Sys2Proof.Machine.execFwdAgeVisit sl t k w s
  | .fwdInsert sl v => Sys2Proof.Machine.execFwdInsert sl v s
  | .fwdDelete sl v => Sys2Proof.Machine.execFwdDelete sl v s
  | .fwdSetSets sl v => Sys2Proof.Machine.execFwdSetSets sl v s
  | .fwdLookup sl v => Sys2Proof.Machine.execFwdLookup sl v s
  | .fwdCmdDone sl => Sys2Proof.Machine.execFwdCmdDone sl s
  | .tableWordWrite sl o v => Sys2Proof.Machine.execTableWordWrite sl o v s
  | .ringRdWrite r v => Sys2Proof.Machine.execRingRdWrite r v s
  | .ringBaseSizeWrite r size v => Sys2Proof.Machine.execRingBaseSizeWrite r size v s
  | .faceLookup p ups => Sys2Proof.Machine.execFaceLookup p ups s
  | .faceMissResume sl => Sys2Proof.Machine.execFaceMissResume sl s
  | .flowUpdate sl ups => Sys2Proof.Machine.execFlowUpdate sl ups s
  | .benchLookup id ups => Sys2Proof.Machine.execBenchLookup id ups s
  | .lookupResponse id => Sys2Proof.Machine.execLookupResponse id s
  | .benchWriteBack id ups => Sys2Proof.Machine.execBenchWriteBack id ups s
  | .benchCommit id ups => Sys2Proof.Machine.execBenchCommit id ups s
  | .commitResponse id => Sys2Proof.Machine.execCommitResponse id s
  | .benchRelease id ups => Sys2Proof.Machine.execBenchRelease id ups s
  | .benchLate id ups => Sys2Proof.Machine.execBenchLate id ups s
  | .pushReceive k => Sys2Proof.Machine.execPushReceive k s
  | .benchTimeout id => Sys2Proof.Machine.execBenchTimeout id s
  | .faceFlush sl x => Sys2Proof.Machine.execFaceFlush sl x s
  | .faceIdleRelease sl x => Sys2Proof.Machine.execFaceIdleRelease sl x s
  | .faceFlushAll sl v => Sys2Proof.Machine.execFaceFlushAll sl v s
  | .qryAgeVisit h b j ups => Sys2Proof.Machine.execQryAgeVisit h b j ups s
  | .benchDelete id ups => Sys2Proof.Machine.execBenchDelete id ups s
  | .deleteInvalidate id sl => Sys2Proof.Machine.execDeleteInvalidate id sl s
  | .deleteFinish id => Sys2Proof.Machine.execDeleteFinish id s
  | .qryLookup v ups => Sys2Proof.Machine.execQryLookup v ups s
  | .qryInsert v ups => Sys2Proof.Machine.execQryInsert v ups s
  | .qryDelete v ups => Sys2Proof.Machine.execQryDelete v ups s
  | .qryRead v ups => Sys2Proof.Machine.execQryRead v ups s
  | .qryWrite v ups => Sys2Proof.Machine.execQryWrite v ups s
  | .qryCmdDone => Sys2Proof.Machine.execQryCmdDone s
  | .qryGcfgWrite v => Sys2Proof.Machine.execQryGcfgWrite v s
  | .benchInitDone => Sys2Proof.Machine.execBenchInitDone s
  | .dispatch c => Sys2Proof.Machine.execDispatch c s
  | .flowOrderRelease c id => Sys2Proof.Machine.execFlowOrderRelease c id s
  | .forkChildReady n => Sys2Proof.Machine.execForkChildReady n s
  | .faultDelivery n => Sys2Proof.Machine.execFaultDelivery n s
  | .keeperTimeout n => Sys2Proof.Machine.execKeeperTimeout n s
  | .threadTimeout n => Sys2Proof.Machine.execThreadTimeout n s
  | .channelReclaim c ix => Sys2Proof.Machine.execChannelReclaim c ix s
  | .fogSignal e => Sys2Proof.Machine.execFogSignal e s
  | .clCtlWrite c v => Sys2Proof.Machine.execClCtlWrite c v s
  | .shareCfgWrite c v => Sys2Proof.Machine.execShareCfgWrite c v s
  | .cregWrite c ix v => Sys2Proof.Machine.execCregWrite c ix v s
  | .microwordFetch e t1 t2 up => Sys2Proof.Machine.execMicrowordFetch e t1 t2 up s
  | .operationComplete n => Sys2Proof.Machine.execOperationComplete n s
  | .fenceLocal n => Sys2Proof.Machine.execFenceLocal n s
  | .fenceFlow n => Sys2Proof.Machine.execFenceFlow n s
  | .fenceAll n => Sys2Proof.Machine.execFenceAll n s
  | .aluNop n ups => Sys2Proof.Machine.execAluNop n ups s
  | .add n ups => Sys2Proof.Machine.execAdd n ups s
  | .sub n ups => Sys2Proof.Machine.execSub n ups s
  | .and n ups => Sys2Proof.Machine.execAnd n ups s
  | .or n ups => Sys2Proof.Machine.execOr n ups s
  | .xor n ups => Sys2Proof.Machine.execXor n ups s
  | .andn n ups => Sys2Proof.Machine.execAndn n ups s
  | .mov n ups => Sys2Proof.Machine.execMov n ups s
  | .shl n ups => Sys2Proof.Machine.execShl n ups s
  | .shr n ups => Sys2Proof.Machine.execShr n ups s
  | .sar n ups => Sys2Proof.Machine.execSar n ups s
  | .srand n ups => Sys2Proof.Machine.execSrand n ups s
  | .shlor n ups => Sys2Proof.Machine.execShlor n ups s
  | .min n ups => Sys2Proof.Machine.execMin n ups s
  | .max n ups => Sys2Proof.Machine.execMax n ups s
  | .mullo n ups => Sys2Proof.Machine.execMullo n ups s
  | .mulhi n ups => Sys2Proof.Machine.execMulhi n ups s
  | .csadd n ups => Sys2Proof.Machine.execCsadd n ups s
  | .crc32c n ups => Sys2Proof.Machine.execCrc32c n ups s
  | .popcnt n ups => Sys2Proof.Machine.execPopcnt n ups s
  | .ffs n ups => Sys2Proof.Machine.execFfs n ups s
  | .memNop n => Sys2Proof.Machine.execMemNop n s
  | .ldh n => Sys2Proof.Machine.execLdh n s
  | .sth n => Sys2Proof.Machine.execSth n s
  | .ldk n => Sys2Proof.Machine.execLdk n s
  | .lds n ups => Sys2Proof.Machine.execLds n ups s
  | .sts n => Sys2Proof.Machine.execSts n s
  | .ldc n ups => Sys2Proof.Machine.execLdc n ups s
  | .stc n => Sys2Proof.Machine.execStc n s
  | .atomAdd n ups => Sys2Proof.Machine.execAtomAdd n ups s
  | .atomSwap n ups => Sys2Proof.Machine.execAtomSwap n ups s
  | .atomCas n ups => Sys2Proof.Machine.execAtomCas n ups s
  | .ldm n ups => Sys2Proof.Machine.execLdm n ups s
  | .stm n => Sys2Proof.Machine.execStm n s
  | .addm n => Sys2Proof.Machine.execAddm n s
  | .balloc n => Sys2Proof.Machine.execBalloc n s
  | .bfree n => Sys2Proof.Machine.execBfree n s
  | .bref n => Sys2Proof.Machine.execBref n s
  | .bld n => Sys2Proof.Machine.execBld n s
  | .bst n => Sys2Proof.Machine.execBst n s
  | .txgen n => Sys2Proof.Machine.execTxgen n s
  | .qrd n => Sys2Proof.Machine.execQrd n s
  | .qwr n => Sys2Proof.Machine.execQwr n s
  | .qadd n => Sys2Proof.Machine.execQadd n s
  | .qrel n => Sys2Proof.Machine.execQrel n s
  | .qtake n => Sys2Proof.Machine.execQtake n s
  | .qins n => Sys2Proof.Machine.execQins n s
  | .qdel n => Sys2Proof.Machine.execQdel n s
  | .copen n => Sys2Proof.Machine.execCopen n s
  | .cput n => Sys2Proof.Machine.execCput n s
  | .ccommit n => Sys2Proof.Machine.execCcommit n s
  | .cabort n => Sys2Proof.Machine.execCabort n s
  | .crecv n ups => Sys2Proof.Machine.execCrecv n ups s
  | .pktSend n => Sys2Proof.Machine.execPktSend n s
  | .pktDrop n => Sys2Proof.Machine.execPktDrop n s
  | .pktPunt n => Sys2Proof.Machine.execPktPunt n s
  | .pktRecirc n => Sys2Proof.Machine.execPktRecirc n s
  | .hins n => Sys2Proof.Machine.execHins n s
  | .hdel n => Sys2Proof.Machine.execHdel n s
  | .kopTake n => Sys2Proof.Machine.execKopTake n s
  | .kopResume n => Sys2Proof.Machine.execKopResume n s
  | .kopDrop n => Sys2Proof.Machine.execKopDrop n s
  | .kopPass n => Sys2Proof.Machine.execKopPass n s
  | .kick n => Sys2Proof.Machine.execKick n s
  | .rdp n => Sys2Proof.Machine.execRdp n s
  | .wrp n => Sys2Proof.Machine.execWrp n s
  | .rdh n => Sys2Proof.Machine.execRdh n s
  | .wrh n => Sys2Proof.Machine.execWrh n s
  | .kopStat n => Sys2Proof.Machine.execKopStat n s
  | .next n => Sys2Proof.Machine.execNext n s
  | .jump n => Sys2Proof.Machine.execJump n s
  | .branch n => Sys2Proof.Machine.execBranch n s
  | .mway n => Sys2Proof.Machine.execMway n s
  | .call n => Sys2Proof.Machine.execCall n s
  | .ret n => Sys2Proof.Machine.execRet n s
  | .waitc n ups => Sys2Proof.Machine.execWaitc n ups s
  | .fork n => Sys2Proof.Machine.execFork n s
  | .join n => Sys2Proof.Machine.execJoin n s
  | .seqEnd n => Sys2Proof.Machine.execEnd n s
  | .kwait n => Sys2Proof.Machine.execKwait n s
  | .patchWrite c v => Sys2Proof.Machine.execPatchWrite c v s
  | .patchCopy c v => Sys2Proof.Machine.execPatchCopy c v s
  | .patchRepair c v => Sys2Proof.Machine.execPatchRepair c v s
  | .patchDone c ups stuck => Sys2Proof.Machine.execPatchDone c ups stuck s
  | .bpmEnable h v => Sys2Proof.Machine.execBpmEnable h v s
  | .bpmInitDone h => Sys2Proof.Machine.execBpmInitDone h s
  | .ringBatch h k => Sys2Proof.Machine.execRingBatch h k s
  | .readMeta h v => Sys2Proof.Machine.execReadMeta h v s
  | .releaseQ h v => Sys2Proof.Machine.execReleaseQ h v s
  | .findQ h v => Sys2Proof.Machine.execFindQ h v s
  | .bpmCmdDone h => Sys2Proof.Machine.execBpmCmdDone h s
  | .admitFrame k bw ups => Sys2Proof.Machine.execAdmit k bw ups s
  | .creditReturn k => Sys2Proof.Machine.execCreditReturn k s
  | .d2dCross k bw => Sys2Proof.Machine.execD2dCross k bw s
  | .scheduleDequeue p err => Sys2Proof.Machine.execScheduleDequeue p err s
  | .overflowReadDone p q => Sys2Proof.Machine.execOverflowReadDone p q s
  | .residueRetry h bw => Sys2Proof.Machine.execResidueRetry h bw s
  | .downHoldExpire p => Sys2Proof.Machine.execDownHoldExpire p s
  | .residencyScan p q => Sys2Proof.Machine.execResidencyScan p q s
  | .pauseRefresh p k => Sys2Proof.Machine.execPauseRefresh p k s
  | .pauseExpire p k => Sys2Proof.Machine.execPauseExpire p k s
  | .d2dFlitCrcError g x => Sys2Proof.Machine.execD2dFlitCrcError g x s
  | .d2dGroupFail g cut => Sys2Proof.Machine.execD2dGroupFail g cut s
  | .hbmCmdRetry k a => Sys2Proof.Machine.execHbmCmdRetry k a s
  | .hbmRetryFail k kind x y old => Sys2Proof.Machine.execHbmRetryFail k kind x y old s
  | .rowRepairDone l => Sys2Proof.Machine.execRowRepairDone l s
  | .trackerWindowEnd cls loc => Sys2Proof.Machine.execTrackerWindowEnd cls loc s
  | .mapWrite mv => Sys2Proof.Machine.execMapWrite mv s
  | .psDeferRetry host mv => Sys2Proof.Machine.execPsDeferRetry host mv s
  | .psRead v ups => Sys2Proof.Machine.execPsRead v ups s
  | .psWrite v mv => Sys2Proof.Machine.execPsWrite v mv s
  | .unretire v mv => Sys2Proof.Machine.execUnretire v mv s
  | .psCmdDone => Sys2Proof.Machine.execPsCmdDone s
  | .pwrFailAssert cut sent => Sys2Proof.Machine.execPwrFailAssert cut sent s
  | .pwrFailDeassert => Sys2Proof.Machine.execPwrFailDeassert s
  | .timeStepGo v => Sys2Proof.Machine.execTimeStepGo v s
  | .timeStep => Sys2Proof.Machine.execTimeStep s
  | .adjWrite v => Sys2Proof.Machine.execAdjWrite v s
  | .slewComplete => Sys2Proof.Machine.execSlewComplete s
  | .incrWrite v => Sys2Proof.Machine.execIncrWrite v s
  | .todRead => Sys2Proof.Machine.execTodRead s
  | .refLoss => Sys2Proof.Machine.execRefLoss s
  | .refLock => Sys2Proof.Machine.execRefLock s
  | .captureEdge k ph => Sys2Proof.Machine.execCaptureEdge k ph s
  | .ppsOutRise => Sys2Proof.Machine.execPpsOutRise s
  | .ppsOutFall => Sys2Proof.Machine.execPpsOutFall s
  | .txtsPop p => Sys2Proof.Machine.execTxtsPop p s
  | .buoyRelease p q => Sys2Proof.Machine.execBuoyRelease p q s
  | .buoyLaunch p ph => Sys2Proof.Machine.execBuoyLaunch p ph s
  | .coldReset word sent => Sys2Proof.Machine.execColdReset word sent s
  | .softReset key word sent => Sys2Proof.Machine.execSoftReset key word sent s
  | .resetRelease straps => Sys2Proof.Machine.execResetRelease straps s
  | .hbmInitDone hbm flash dens sec page => Sys2Proof.Machine.execHbmInitDone hbm flash dens sec page s
  | .retirementMapApply ups => Sys2Proof.Machine.execRetirementMapApply ups s
  | .headerReadDone => Sys2Proof.Machine.execHeaderReadDone s
  | .imageReadDone => Sys2Proof.Machine.execImageReadDone s
  | .sigVerifyDone => Sys2Proof.Machine.execSigVerifyDone s
  | .ownCheckDone => Sys2Proof.Machine.execOwnCheckDone s
  | .imageApplyDone => Sys2Proof.Machine.execImageApplyDone s
  | .bootLoad v => Sys2Proof.Machine.execBootLoad v s
  | .bootOpen v => Sys2Proof.Machine.execBootOpen v s
  | .flReload ix => Sys2Proof.Machine.execFlReload ix s
  | .reloadDone => Sys2Proof.Machine.execReloadDone s
  | .flWrite slot mv => Sys2Proof.Machine.execFlWrite slot mv s
  | .flashOpDone mv lost => Sys2Proof.Machine.execFlashOpDone mv lost s
  | .flashDeferRetry mv => Sys2Proof.Machine.execFlashDeferRetry mv s
  | .gpioFnWrite ix v => Sys2Proof.Machine.execGpioFnWrite ix v s
  | .ident pec => Sys2Proof.Machine.execIdent pec s
  | .beacon pec => Sys2Proof.Machine.execBeacon pec s
  | .boot pec => Sys2Proof.Machine.execBoot pec s
  | .tempMax pec t0 t1 => Sys2Proof.Machine.execTempMax pec t0 t1 s
  | .tempH0 pec t => Sys2Proof.Machine.execTempH0 pec t s
  | .tempH1 pec t => Sys2Proof.Machine.execTempH1 pec t s
  | .vcoreReq pec => Sys2Proof.Machine.execVcoreReq pec s
  | .vcoreMeas pec => Sys2Proof.Machine.execVcoreMeas pec s
  | .power pec => Sys2Proof.Machine.execPower pec s
  | .paceMin pec => Sys2Proof.Machine.execPaceMin pec s
  | .health pec => Sys2Proof.Machine.execHealth pec s
  | .smbusNak => Sys2Proof.Machine.execSmbusNak s
  | .smbusSclTimeout => Sys2Proof.Machine.execSmbusSclTimeout s
  | .extest cells => Sys2Proof.Machine.execExtest cells s
  | .samplePreload cells => Sys2Proof.Machine.execSamplePreload cells s
  | .idcode => Sys2Proof.Machine.execIdcode s
  | .highz => Sys2Proof.Machine.execHighz s
  | .clamp => Sys2Proof.Machine.execClamp s
  | .extestPulse cells => Sys2Proof.Machine.execExtestPulse cells s
  | .extestTrain cells => Sys2Proof.Machine.execExtestTrain cells s
  | .bypass code => Sys2Proof.Machine.execBypass code s
  | .dbgAccess wr o v => Sys2Proof.Machine.execDbgAccess wr o v s
  | .progHash hash => Sys2Proof.Machine.execProgHash hash s
  | .progSig => Sys2Proof.Machine.execProgSig s
  | .fuseRead => Sys2Proof.Machine.execFuseRead s
  | .fuseCmdDone => Sys2Proof.Machine.execFuseCmdDone s
  | .dbgCtlWrite c v => Sys2Proof.Machine.execDbgCtlWrite c v s
  | .halt c t => Sys2Proof.Machine.execHalt c t s
  | .haltRelease c t => Sys2Proof.Machine.execHaltRelease c t s
  | .dbgResume c t => Sys2Proof.Machine.execDbgResume c t s
  | .step c t => Sys2Proof.Machine.execStep c t s
  | .haltAll c => Sys2Proof.Machine.execHaltAll c s
  | .resumeAll c => Sys2Proof.Machine.execResumeAll c s
  | .powerOn v => Sys2Proof.Machine.execPowerOn v s
  | .park v => Sys2Proof.Machine.execPark v s
  | .powerOff v => Sys2Proof.Machine.execPowerOff v s
  | .parkDelayRetry => Sys2Proof.Machine.execParkDelayRetry s
  | .domainEntryDone => Sys2Proof.Machine.execDomainEntryDone s
  | .domainExitDone kind ix => Sys2Proof.Machine.execDomainExitDone kind ix s
  | .engineDoze e => Sys2Proof.Machine.execEngineDoze e s
  | .lineEnergyWake o => Sys2Proof.Machine.execLineEnergyWake o s
  | .governorPeriod paces => Sys2Proof.Machine.execGovernorPeriod paces s
  | .avsResponse mv => Sys2Proof.Machine.execAvsResponse mv s
  | .avsRetry => Sys2Proof.Machine.execAvsRetry s
  | .thermalWarn h t => Sys2Proof.Machine.execThermalWarn h t s
  | .thermalLimit h t => Sys2Proof.Machine.execThermalLimit h t s
  | .thermalTrip h t => Sys2Proof.Machine.execThermalTrip h t s
  | .thermalTripClear t0 t1 => Sys2Proof.Machine.execThermalTripClear t0 t1 s
  | .vcoreDip mv word sent => Sys2Proof.Machine.execVcoreDip mv word sent s
  | .vcoreRecover mv straps => Sys2Proof.Machine.execVcoreRecover mv straps s
  | .ctrSweep us ups => Sys2Proof.Machine.execCtrSweep us ups s
  | .ctrEnable v => Sys2Proof.Machine.execCtrEnable v s
  | .ctrSync token => Sys2Proof.Machine.execCtrSync token s
  | .bwWindowEnd sl j => Sys2Proof.Machine.execBwWindowEnd sl j s
  | .bwCfgWrite sl j v => Sys2Proof.Machine.execBwCfgWrite sl j v s
  | .bwPeakRead sl j => Sys2Proof.Machine.execBwPeakRead sl j s
  | .tapReset => Sys2Proof.Machine.execTapReset s
  | .flashBusyTimeout => Sys2Proof.Machine.execFlashBusyTimeout s
  | .flashReadTimeout => Sys2Proof.Machine.execFlashReadTimeout s
  | .thermalLimitClear h t => Sys2Proof.Machine.execThermalLimitClear h t s

end Sys2Proof.Machine
end

