-- ==== Sys2Proof/Machine/Tick.lean ====
section
/-! DEFINITION. What one nanosecond does with nothing commanded: the time base and the timers that count (spec/08 R199, R203, R205, spec/13 R316, spec/17 R407). A step on an empty queue is one tick (log entry 7). -/

namespace Sys2Proof.Machine

open Sys2Proof

/-- Whether context `n` waits for a lookup that the slice has not sent yet: no lower timer runs. -/
def Dev.unsent (d : Dev) (n : Nat) (x : Ctx) : Bool :=
  d.qry.misses.any (fun m => !m.sent && (m.ctx == n + 1 || x.pkt.any (fun k => k.miss == some m.id)))

/-- Whether the timer of context `n` runs (R199): not while it is HALTED or FAULTED, nor while it waits for an operation of its own that a lower layer times. -/
def Dev.timerRuns (d : Dev) (n : Nat) (x : Ctx) : Bool :=
  !d.isKeeper n && Nat.blt x.timer timerSpent && d.clusterOn (n / 64) &&
    match x.st with
    | .ready | .waitEvent => true
    | .waitMem => match x.wait with
      | .hbm | .fence => false
      | .bench | .fill => d.unsent n x
      | _ => true
    | _ => false

/-- Whether the time that a keeper has for the fault of context `n` runs: not while the keeper is HALTED (R203). -/
def Dev.ageRuns (d : Dev) (n : Nat) (x : Ctx) : Bool :=
  x.st == .faulted && x.delivered && !d.isKeeper n && d.clusterOn (n / 64) && (d.ctx (n / 8 * 8)).st != .halted

/-- One tick of a context. -/
def Dev.ctxTick (d : Dev) (n : Nat) (x : Ctx) : Ctx :=
  { x with timer := if d.timerRuns n x then x.timer + 1 else x.timer
           faultAge := if d.ageRuns n x then x.faultAge + 1 else x.faultAge }

/-- The quiet time of engine `e` after one tick; a condition that no longer holds starts it afresh (R205). -/
def Dev.fogNext (d : Dev) (e : Nat) : Nat :=
  let q := sget d.eng.fogQuiet e 0
  if !d.fogCond e then 0 else if Nat.blt q fogSounded && d.clusterOn (e / 8) then q + 1 else q

/-- One tick of every engine's fog window; an engine none of whose contexts is listed has a FREE context. -/
def Dev.fogTick (d : Dev) : Dev :=
  let es := d.eng.ctxs.foldl (fun (l : List Nat) x => if l.contains (x.1 / 8) then l else (x.1 / 8) :: l) []
  { d with eng.fogQuiet := es.foldl (fun m e => sset m e (d.fogNext e) 0) d.eng.fogQuiet }

/-- The endpoint's configuration after the write, if any, that the host makes at this tick: the endpoint answers it from link-up, also during boot (R366), but not while the boundary cells hold its lanes. -/
def Dev.cfgNow (d : Dev) : PcieCfg := if d.host.balls then d.host.pcie else (Config.hostCfg d.tick).elim d.host.pcie (fun x => d.host.pcie.write x.1 x.2)

/-- Whether any domain is parked. -/
def Dev.anyParked (d : Dev) : Bool := d.get PWR.CL_STATE.PARKED != 0 || d.get PWR.SL_STATE.SLICE != 0 || d.get PWR.SL_STATE.HALF != 0 || d.is PWR.SL_STATE.STANDBY

/-- One tick of the timers that stand while their domain is parked: down-holds, pauses, residue times, open channels, the insertion allowance (R383). -/
def Dev.parkTick (d : Dev) : Dev :=
  if !d.anyParked then d
  else
    { d with swc.downAt := d.swc.downAt.map (fun e => (e.1, if d.portOn e.1 then e.2 else e.2 + 1))
             swc.paused := d.swc.paused.map (fun e => (e.1, if d.portOn (e.1 / 9) then e.2 else e.2 + 1))
             swc.pauseAt := d.swc.pauseAt.map (fun e => (e.1, if d.portOn (e.1 / 9) then e.2 else e.2 + 1))
             swc.residues := d.swc.residues.map (fun r => if d.portOn r.port then r else { r with due := r.due + 1 })
             eng.chans := d.eng.chans.map (fun e => (e.1, if d.clusterOn (e.1 / 16) then e.2 else { e.2 with openAt := e.2.openAt + 1 }))
             qry.insAt := d.qry.insAt.map (fun e => (e.1, if d.halfOn e.1 then e.2 else e.2 + 1)) }

/-- One tick of 1 ns. In cold reset nothing counts but the tick itself. The board may change what it drives on the GPIO balls, and the host may configure the endpoint. -/
def Dev.idleTick (d : Dev) : Dev :=
  let d := { d with tick := d.tick + 1 }
  if d.inCold then d
  else
    let d := { d.timeTick.suspTick.fogTick.parkTick with pin.gpioExt := Config.gpioBoard d.tick, host.pcie := d.cfgNow }
    { d with eng.ctxs := d.eng.ctxs.map (fun x => (x.1, d.ctxTick x.1 x.2)) }

end Sys2Proof.Machine
end

