-- ==== Sys2Proof/Machine/Step.lean ====
section
/-! DEFINITION. One step: the command at the front of the queue, or one tick of 1 ns where none waits. -/

namespace Sys2Proof.Machine

open Sys2Proof

/-- Takes the command at the front of the queue and carries it out; on an empty queue 1 ns passes (log entry 7). -/
def step (s : State) : Host.Outcome State Fault Refusal :=
  match s.pending with
  | [] => .next { s with dev := s.dev.idleTick }
  | c :: cs => exec c { s with pending := cs }

/-- `s` with the command that a word spells put at the front of its queue; `s` itself where the word spells none. -/
def State.withFetchWord (s : State) (nbits w : Nat) : State :=
  match decodeTableWord nbits w with
  | some c => { s with pending := c :: s.pending }
  | none => s

end Sys2Proof.Machine
end

