-- ==== Sys2Proof/Safety.lean ====
section
/-! DEFINITION. What a sound state and a safe step are: the terms in which the statements speak. -/

namespace Sys2Proof.Machine

open Sys2Proof

/-- Memory in its one canonical form: addresses strictly rising, no byte listed that an unlisted address reads as. -/
def Memory.wf (m : List Host.Cell) : Bool := ssorted m && m.all (fun e => e.2 != memDefault e.1)

/-- The ns counter holds a time: less than 10^9 ns, a 32-bit fraction, 48-bit seconds (spec/13 R316). -/
def TmuSt.legal (t : TmuSt) : Prop := t.ns < 1000000000 ∧ t.frac < 2 ^ 32 ∧ t.sec < 2 ^ 48

/-- A sound device: memory is in canonical form, the register fields are listed in rising order, and the ns counter holds a time. -/
def Dev.sound (d : Dev) : Prop := Memory.wf d.mem = true ∧ ssorted d.flds = true ∧ d.tmu.legal

/-- The parts of the device. -/
inductive Part where
  | tick | freeCtr | nextId | flds | mem | mxor | bad | evtMs | pipe | pin | mac | tbl | qry | eng | swc | buf | tmu | boot | host | ep | pwr | flt | ctr
deriving DecidableEq, Repr

/-- Every part not listed is as before. -/
def Dev.sameBut (ps : List Part) (d e : Dev) : Prop :=
  (Part.tick ∈ ps ∨ e.tick = d.tick) ∧
  (Part.freeCtr ∈ ps ∨ e.freeCtr = d.freeCtr) ∧
  (Part.nextId ∈ ps ∨ e.nextId = d.nextId) ∧
  (Part.flds ∈ ps ∨ e.flds = d.flds) ∧
  (Part.mem ∈ ps ∨ e.mem = d.mem) ∧
  (Part.mxor ∈ ps ∨ e.mxor = d.mxor) ∧
  (Part.bad ∈ ps ∨ e.bad = d.bad) ∧
  (Part.evtMs ∈ ps ∨ e.evtMs = d.evtMs) ∧
  (Part.pipe ∈ ps ∨ e.pipe = d.pipe) ∧
  (Part.pin ∈ ps ∨ e.pin = d.pin) ∧
  (Part.mac ∈ ps ∨ e.mac = d.mac) ∧
  (Part.tbl ∈ ps ∨ e.tbl = d.tbl) ∧
  (Part.qry ∈ ps ∨ e.qry = d.qry) ∧
  (Part.eng ∈ ps ∨ e.eng = d.eng) ∧
  (Part.swc ∈ ps ∨ e.swc = d.swc) ∧
  (Part.buf ∈ ps ∨ e.buf = d.buf) ∧
  (Part.tmu ∈ ps ∨ e.tmu = d.tmu) ∧
  (Part.boot ∈ ps ∨ e.boot = d.boot) ∧
  (Part.host ∈ ps ∨ e.host = d.host) ∧
  (Part.ep ∈ ps ∨ e.ep = d.ep) ∧
  (Part.pwr ∈ ps ∨ e.pwr = d.pwr) ∧
  (Part.flt ∈ ps ∨ e.flt = d.flt) ∧
  (Part.ctr ∈ ps ∨ e.ctr = d.ctr)

/-- The command completes: it answers a next state in which the waiting commands are as they were, and a device of which `P` holds. -/
def completes (i : Instr) (s : State) (P : Dev → Prop) : Prop :=
  ∃ t, exec i s = .next t ∧ t.pending = s.pending ∧ P t.dev

/-- A host write of the register that holds field `f` reaches it: the endpoint is not in reset, boot has opened the block, the domain is not parked (spec/15 R364, R366). -/
def Dev.reaches (d : Dev) (f : Fld) : Prop := d.held = false ∧ d.bar0Err (f.key / 32 * 4) = none

/-- A host write of the word at device address `a` reaches it. -/
def Dev.reaches2 (d : Dev) (a : Nat) : Prop := d.held = false ∧ d.bar2Err a = none

/-- Context `n` is READY in a cluster that works, in the middle of the microword of `u` (spec/09 R216). -/
def Dev.inWord (d : Dev) (n : Nat) (u : Cur) : Prop :=
  (d.ctx n).st = .ready ∧ d.clusterOn (n / 64) = true ∧ (d.ctx n).cur = some u

/-- Every byte of memory reads as before. -/
def memSame (d e : Dev) : Prop := ∀ a, e.rdB a = d.rdB a

/-- Every register field reads as before, but those whose keys are listed. -/
def regsSame (d e : Dev) (ks : List Nat) : Prop := ∀ f : Fld, f.key ∉ ks → e.get f = d.get f

end Sys2Proof.Machine
end

