-- ==== Sys2Proof/Certificates/Slice0/Obligations.lean ====
section
/-! DEFINITION. The statements about the model, for the provers. A statement whose docstring cites a rule of spec/ follows that rule; one that rests on a choice of the model names its log entry. -/

open Sys2Proof Sys2Proof.Machine

-- Microwords: the ALU (spec/09 R216, R217, Table 9.3).

/-- Errors in registers of context `n`, as an ALU command meets them. -/
def Sys2Proof.Machine.regErrs (n : Nat) (ups : List (Nat × Nat)) : List (Nat × Nat) := ups.map (fun e => (regKey n (e.1 % 40), e.2))

/-- The ALU part, of operation `op`, of the microword of context `n` is next: its fence is complete, and no operand that it reads holds a parity error. -/
def Sys2Proof.Machine.aluNext (d : Dev) (n op : Nat) (ups : List (Nat × Nat)) (u : Cur) : Prop :=
  d.inWord n u ∧ u.fenceDone = true ∧ u.aluDone = false ∧ uALU u.word = op ∧ (d.upset (regErrs n ups)).operandsBad n u.word = false

/-- The flags after a result `v` with carry `c` and overflow `o`: Z, N, C and V where SET_FLAGS is 1, every other condition as before. -/
def Sys2Proof.Machine.flagsAfter (u : Cur) (x y : Ctx) (v : Word64) (c o : Bool) : Prop :=
  (uFLAGS u.word = false → y.conds = x.conds) ∧
  (uFLAGS u.word = true → y.cond 2 = decide (v = 0) ∧ y.cond 3 = v.msb ∧ y.cond 4 = c ∧ y.cond 5 = o ∧
    ∀ i, i ≠ 2 → i ≠ 3 → i ≠ 4 → i ≠ 5 → y.cond i = x.cond i)

/-- What an ALU operation leaves: its result waits for the end of the word, the address of the memory operation is known, and nothing else changes but the flags. -/
def Sys2Proof.Machine.aluLeaves (d e : Dev) (n : Nat) (u : Cur) (v : Option Word64) : Prop :=
  e.ctx n = { d.ctx n with conds := (e.ctx n).conds, cur := some { u with aluDone := true, alu := v, addr := ((d.operand n u.word (uADDR u.word)).toNat + uOFF u.word) % 2 ^ 64 } } ∧
  (∀ m, m ≠ n → e.ctx m = d.ctx m) ∧ memSame d e ∧ regsSame d e []

/-- R217: the results of ADD and SUB, Z, N, the carry and borrow, and the signed overflow; flags change only when SET_FLAGS is 1. -/
def Sys2Proof.Machine.aluAddSubSays : Prop :=
  ∀ (s : State) (n : Nat) (ups : List (Nat × Nat)) (u : Cur),
    let a := s.dev.operand n u.word (uA u.word)
    let b := s.dev.operand n u.word (uB u.word)
    (aluNext s.dev n 1 ups u → completes (.add n ups) s (fun e => aluLeaves s.dev e n u (some (a + b)) ∧
      flagsAfter u (s.dev.ctx n) (e.ctx n) (a + b) (decide (2 ^ 64 ≤ a.toNat + b.toNat)) (decide ((a + b).toInt ≠ a.toInt + b.toInt)))) ∧
    (aluNext s.dev n 2 ups u → completes (.sub n ups) s (fun e => aluLeaves s.dev e n u (some (a - b)) ∧
      flagsAfter u (s.dev.ctx n) (e.ctx n) (a - b) (decide (a.toNat < b.toNat)) (decide ((a - b).toInt ≠ a.toInt - b.toInt))))

/-- The ALU operations whose C and V are 0: command, code, result from A, B and SHAMT (Table 9.3). -/
def Sys2Proof.Machine.aluTable : List ((Nat → List (Nat × Nat) → Instr) × Nat × (Word64 → Word64 → Nat → Word64)) :=
  [(.and, 3, fun a b _ => a &&& b), (.or, 4, fun a b _ => a ||| b), (.xor, 5, fun a b _ => a ^^^ b), (.andn, 6, fun a b _ => a &&& ~~~b),
   (.mov, 7, fun a _ _ => a), (.shl, 8, fun a _ k => a <<< k), (.shr, 9, fun a _ k => a >>> k), (.sar, 10, fun a _ k => a.sshiftRight k),
   (.srand, 11, fun a b k => (a >>> k) &&& b), (.shlor, 12, fun a b k => (a <<< k) ||| b),
   (.min, 13, fun a b _ => if a ≤ b then a else b), (.max, 14, fun a b _ => if a ≤ b then b else a),
   (.mullo, 15, fun a b _ => (a.setWidth 32).setWidth 64 * (b.setWidth 32).setWidth 64),
   (.mulhi, 16, fun a b _ => ((a.setWidth 32).setWidth 64 * (b.setWidth 32).setWidth 64) >>> 32),
   (.csadd, 17, fun a b _ =>
     let t := a.toNat % 65536 + b.toNat % 65536
     BitVec.ofNat 64 (if 65536 ≤ t then t - 65535 else t)),
   (.crc32c, 18, fun a b _ => BitVec.ofNat 64 (crcRun 0x82F63B78 (a.toNat % 2 ^ 32) (natLE 8 b.toNat))),
   (.popcnt, 19, fun a _ _ => BitVec.ofNat 64 ((List.range 64).filter (fun i => a.getLsbD i)).length),
   (.ffs, 20, fun a _ _ => BitVec.ofNat 64 (((List.range 64).find? (fun i => a.getLsbD i)).getD 64))]

/-- R217 and Table 9.3: the results and flags of the operations other than ADD and SUB; NOP changes no flag and has no result. -/
def Sys2Proof.Machine.aluOthersSays : Prop :=
  ∀ (s : State) (n : Nat) (ups : List (Nat × Nat)) (u : Cur),
    let a := s.dev.operand n u.word (uA u.word)
    let b := s.dev.operand n u.word (uB u.word)
    (∀ p ∈ aluTable, aluNext s.dev n p.2.1 ups u →
      completes (p.1 n ups) s (fun e => aluLeaves s.dev e n u (some (p.2.2 a b (uSHAMT u.word))) ∧
        flagsAfter u (s.dev.ctx n) (e.ctx n) (p.2.2 a b (uSHAMT u.word)) false false)) ∧
    (aluNext s.dev n 0 ups u →
      completes (.aluNop n ups) s (fun e => aluLeaves s.dev e n u none ∧ (e.ctx n).conds = (s.dev.ctx n).conds))

/-- What the ALU part of a word writes: result and flags: `aluAddSubSays`, `aluOthersSays`. -/
def Obligations.AluPart : Prop := aluAddSubSays ∧ aluOthersSays

-- The sequencer (spec/09 R216, R219, R220).

/-- The sequencer part, of operation `q`, of the microword of context `n` is next, and nobody has asked the thread to halt, to step or to fault. -/
def Sys2Proof.Machine.seqNext (d : Dev) (n q : Nat) (u : Cur) : Prop :=
  d.inWord n u ∧ u.memDone = true ∧ uSEQ u.word = q ∧
    (d.ctx n).kickReq = false ∧ (d.ctx n).haltReq = 0 ∧ (d.ctx n).stepping = false

/-- The thread is READY at `pc`, between two microwords; other contexts and memory are as before. -/
def Sys2Proof.Machine.seqLeaves (d e : Dev) (n pc : Nat) : Prop :=
  (e.ctx n).st = .ready ∧ (e.ctx n).pc = pc % 8192 ∧ (e.ctx n).cur = none ∧
    (∀ m, m ≠ n → e.ctx m = d.ctx m) ∧ memSame d e ∧ regsSame d e []

/-- R219: the next PC of NEXT, JUMP, BRANCH and MWAY. -/
def Sys2Proof.Machine.seqNextPcSays : Prop :=
  ∀ (s : State) (n : Nat) (u : Cur),
    let t := fun i => s.dev.seqTest n u i
    (seqNext s.dev n 0 u → completes (.next n) s (fun e => seqLeaves s.dev e n ((s.dev.ctx n).pc + 1))) ∧
    (seqNext s.dev n 1 u → completes (.jump n) s (fun e => seqLeaves s.dev e n (uTARGET u.word))) ∧
    (seqNext s.dev n 2 u → completes (.branch n) s (fun e =>
      seqLeaves s.dev e n (if t 0 = uNEG u.word then (s.dev.ctx n).pc + 1 else uTARGET u.word))) ∧
    (seqNext s.dev n 3 u → uTARGET u.word % 16 = 0 → completes (.mway n) s (fun e =>
      seqLeaves s.dev e n (uTARGET u.word + b2n (t 0) + 2 * b2n (t 1) + 4 * b2n (t 2) + 8 * b2n (t 3))))

/-- R220: CALL pushes PC + 1 on a stack of four entries, RET pops it; a push on a full stack and a pop of an empty one fault the thread with ILLEGAL. -/
def Sys2Proof.Machine.seqCallRetSays : Prop :=
  ∀ (s : State) (n : Nat) (u : Cur),
    let x := s.dev.ctx n
    (seqNext s.dev n 4 u → x.stack.length < 4 → completes (.call n) s (fun e =>
      seqLeaves s.dev e n (uTARGET u.word) ∧ (e.ctx n).stack = (x.pc + 1) % 8192 :: x.stack)) ∧
    (∀ p ps, seqNext s.dev n 5 u → x.stack = p :: ps → completes (.ret n) s (fun e => seqLeaves s.dev e n p ∧ (e.ctx n).stack = ps)) ∧
    (seqNext s.dev n 4 u → 4 ≤ x.stack.length → completes (.call n) s (fun e =>
      (e.ctx n).st = .faulted ∧ (e.ctx n).fault % 256 = 7 ∧ (e.ctx n).stack = x.stack)) ∧
    (seqNext s.dev n 5 u → x.stack = [] → completes (.ret n) s (fun e => (e.ctx n).st = .faulted ∧ (e.ctx n).fault % 256 = 7))

/-- R216, step 6: at the end of the word the ALU result goes to its destination and a loaded value to its register; where both write the same register, the loaded value is kept. R286: a result written to D3 sends the packet to the port, or with GROUP 1 to the group, that EGRESS then names. -/
def Sys2Proof.Machine.wordResultsSays : Prop :=
  ∀ (s : State) (n i : Nat) (u : Cur) (r v : Word64), seqNext s.dev n 0 u → i < 0x20 →
    (uDST u.word < 0x20 → u.alu = some r → u.loads = [] → completes (.next n) s (fun e =>
      (e.ctx n).p (uDST u.word) = r ∧ ∀ j, j < 0x20 → j ≠ uDST u.word → (e.ctx n).p j = (s.dev.ctx n).p j)) ∧
    (uDST u.word < 0x20 → u.alu = some r → u.loads = [(i, v)] → completes (.next n) s (fun e =>
      (e.ctx n).p i = v ∧ (i ≠ uDST u.word → (e.ctx n).p (uDST u.word) = r))) ∧
    (∀ k, uDST u.word = 0x23 → u.alu = some r → u.loads = [] → (s.dev.ctx n).pkt = some k → completes (.next n) s (fun e =>
      (e.ctx n).pkt = some { k with d3 := d3Write k.d3 r.toNat, dest := if d3Group (d3Write k.d3 r.toNat) then .group (d3Egress (d3Write k.d3 r.toNat)) else .port (d3Egress (d3Write k.d3 r.toNat)) }))

/-- Where the sequencer part of a word takes the PC, calls, returns, and the results of a word: `seqNextPcSays`, `seqCallRetSays`, `wordResultsSays`. -/
def Obligations.SequencerPart : Prop := seqNextPcSays ∧ seqCallRetSays ∧ wordResultsSays

-- Microwords: the memory part (spec/09 Table 9.6, R222 to R230).

/-- The memory part, of operation `m`, of the microword of context `n` is next. -/
def Sys2Proof.Machine.memNext (d : Dev) (n m : Nat) (u : Cur) : Prop :=
  d.inWord n u ∧ u.aluDone = true ∧ u.memDone = false ∧ uMEM u.word = m

/-- The memory part is complete: the context is `x` with these values waiting to be written to registers; other contexts and all registers are as before. -/
def Sys2Proof.Machine.opDone (d e : Dev) (n : Nat) (x : Ctx) (u : Cur) (l : List (Nat × Word64)) : Prop :=
  e.ctx n = { x with cur := some { u with memDone := true, loads := u.loads ++ l } } ∧ (∀ m, m ≠ n → e.ctx m = d.ctx m) ∧ regsSame d e []

/-- The memory part has been issued and the context waits for it. -/
def Sys2Proof.Machine.opWaits (d e : Dev) (n : Nat) (x : Ctx) (u : Cur) (w : Wait) (l : List (Nat × Word64)) : Prop :=
  e.ctx n = { x with st := .waitMem, wait := w, cur := some { u with loads := u.loads ++ l } } ∧ (∀ m, m ≠ n → e.ctx m = d.ctx m) ∧ regsSame d e []

/-- R201: the thread stops in FAULTED with this code and keeps what it holds; other contexts and memory are as before. -/
def Sys2Proof.Machine.faults (d e : Dev) (n code : Nat) : Prop :=
  (e.ctx n).st = .faulted ∧ (e.ctx n).fault % 256 = code ∧ (e.ctx n).regs = (d.ctx n).regs ∧ (e.ctx n).held = (d.ctx n).held ∧
    (e.ctx n).handles = (d.ctx n).handles ∧ (e.ctx n).chan = (d.ctx n).chan ∧ (e.ctx n).pkt.isSome = (d.ctx n).pkt.isSome ∧
    (∀ m, m ≠ n → e.ctx m = d.ctx m) ∧ memSame d e

/-- The register of the data operand P[MEM_REG + i]. -/
def Sys2Proof.Machine.dataNo (u : Cur) (i : Nat) : Nat := (uREG u.word + i) % 32

/-- Memory reads as before but for the eight bytes at `a`, which hold `v`. -/
def Sys2Proof.Machine.stored8 (d e : Dev) (a v : Nat) : Prop :=
  e.rd64 a = v % 2 ^ 64 ∧ ∀ b, (b < a ∨ a + 8 ≤ b) → e.rdB b = d.rdB b

/-- R224: LDH reads the header window in network order, bytes at or beyond W as 0; STH stores into it below W, or faults with ADDRESS; without a packet both fault. A word without memory operation goes on. -/
def Sys2Proof.Machine.headerWindowSays : Prop :=
  ∀ (s : State) (n : Nat) (u : Cur),
    let d := s.dev
    let x := d.ctx n
    let m := sizeBytes u.word
    (memNext d n 0 u → completes (.memNop n) s (fun e => opDone d e n x u [] ∧ memSame d e)) ∧
    (∀ k, memNext d n 1 u → x.pkt = some k → completes (.ldh n) s (fun e => memSame d e ∧
      opDone d e n x u [(dataNo u 0, BitVec.ofNat 64 (beNat ((List.range m).map (fun i =>
        if u.addr + i < k.winLen then nthD k.body (u.addr + i) 0 else 0))))])) ∧
    (∀ k, memNext d n 2 u → x.pkt = some k → u.addr + m ≤ k.winLen → completes (.sth n) s (fun e => memSame d e ∧
      opDone d e n { x with pkt := some { k with body := writeB k.body u.addr (natBE m (x.p (uREG u.word)).toNat) } } u [])) ∧
    (∀ k, memNext d n 2 u → x.pkt = some k → k.winLen < u.addr + m → completes (.sth n) s (fun e => faults d e n 3)) ∧
    (memNext d n 1 u → x.pkt = none → completes (.ldh n) s (fun e => faults d e n 3)) ∧
    (memNext d n 2 u → x.pkt = none → completes (.sth n) s (fun e => faults d e n 3))

/-- R224: LDK reads the 128-byte key window of the thread's packet in network order; beyond it, ADDRESS. What the window of a thread that never had a packet holds is open: only the completion is stated (log entry 46). -/
def Sys2Proof.Machine.keyWindowSays : Prop :=
  ∀ (s : State) (n : Nat) (u : Cur),
    let d := s.dev
    let x := d.ctx n
    let m := sizeBytes u.word
    memNext d n 3 u →
    (u.addr + m ≤ 128 → x.key ≠ [] → completes (.ldk n) s (fun e => memSame d e ∧
      opDone d e n x u [(dataNo u 0, BitVec.ofNat 64 (beAt x.key u.addr m))])) ∧
    (u.addr + m ≤ 128 → x.key = [] → completes (.ldk n) s (fun e => memSame d e ∧ ∃ v, opDone d e n x u [(dataNo u 0, v)])) ∧
    (128 < u.addr + m → completes (.ldk n) s (fun e => faults d e n 3))

/-- Loads and stores of the header window and the key: `headerWindowSays`, `keyWindowSays`. -/
def Obligations.PacketWindows : Prop := headerWindowSays ∧ keyWindowSays

/-- No context of the cluster of `n` waits for a cluster register. -/
def Sys2Proof.Machine.noWaitc (d : Dev) (n : Nat) : Prop := ∀ m, m / 64 = n / 64 → (d.ctx m).wait ≠ .creg

/-- R193: scratch loads and stores of an aligned address of the cluster's 512 KiB, and loads and stores of the 64 cluster registers; another scratch address faults with ADDRESS and stores nothing. -/
def Sys2Proof.Machine.scratchAndCregsSays : Prop :=
  ∀ (s : State) (n : Nat) (ups : List (Nat × Nat)) (u : Cur),
    let d := s.dev
    let x := d.ctx n
    let c := n / 64
    let a := scratchA n u.addr
    let r := ENG.CREG.W c (u.addr % 64)
    (memNext d n 4 u → u.addr % 8 = 0 → u.addr < 0x80000 → (d.upset ups).badAt a = 0 → completes (.lds n ups) s (fun e =>
      memSame d e ∧ opWaits d e n x u .op [(dataNo u 0, BitVec.ofNat 64 (d.rd64 a))])) ∧
    (memNext d n 5 u → u.addr % 8 = 0 → u.addr < 0x80000 → completes (.sts n) s (fun e =>
      stored8 d e a (x.p (uREG u.word)).toNat ∧ opWaits d e n x u .op [])) ∧
    (memNext d n 4 u → ¬ (u.addr % 8 = 0 ∧ u.addr < 0x80000) → completes (.lds n ups) s (fun e => faults d e n 3)) ∧
    (memNext d n 5 u → ¬ (u.addr % 8 = 0 ∧ u.addr < 0x80000) → completes (.sts n) s (fun e => faults d e n 3)) ∧
    (memNext d n 6 u → (d.upset ups).badAt (cregKey c (u.addr % 64)) = 0 → completes (.ldc n ups) s (fun e =>
      memSame d e ∧ opWaits d e n x u .op [(dataNo u 0, BitVec.ofNat 64 (d.get r))])) ∧
    (memNext d n 7 u → noWaitc d n → completes (.stc n) s (fun e => memSame d e ∧
      e.ctx n = { x with st := .waitMem, wait := .op } ∧ (∀ m, m ≠ n → e.ctx m = d.ctx m) ∧
      e.get r = (x.p (uREG u.word)).toNat ∧ regsSame d e [r.key]))

/-- R193: the atomic operations on a scratch word: the old value is loaded and the new one stored in one step. -/
def Sys2Proof.Machine.scratchAtomicsSays : Prop :=
  ∀ (s : State) (n : Nat) (ups : List (Nat × Nat)) (u : Cur),
    let d := s.dev
    let x := d.ctx n
    let a := scratchA n u.addr
    let old := d.rd64 a
    memNext d n 8 u → bit (uSIZE u.word) 2 = false → u.addr % 8 = 0 → u.addr < 0x80000 → (d.upset ups).badAt a = 0 →
    (uSIZE u.word % 4 = 0 → completes (.atomAdd n ups) s (fun e =>
      stored8 d e a (old + (x.p (uREG u.word)).toNat) ∧ opWaits d e n x u .op [(dataNo u 0, BitVec.ofNat 64 old)])) ∧
    (uSIZE u.word % 4 = 1 → completes (.atomSwap n ups) s (fun e =>
      stored8 d e a (x.p (uREG u.word)).toNat ∧ opWaits d e n x u .op [(dataNo u 0, BitVec.ofNat 64 old)]))

/-- R193: the same on a cluster register. -/
def Sys2Proof.Machine.cregAtomicsSays : Prop :=
  ∀ (s : State) (n : Nat) (ups : List (Nat × Nat)) (u : Cur),
    let d := s.dev
    let x := d.ctx n
    let c := n / 64
    let i := u.addr % 64
    let r := ENG.CREG.W c i
    let res := fun (e : Dev) (v : Nat) => memSame d e ∧ e.get r = v % 2 ^ 64 ∧ regsSame d e [r.key] ∧ (∀ m, m ≠ n → e.ctx m = d.ctx m) ∧
      e.ctx n = { x with st := .waitMem, wait := .op, cur := some { u with loads := u.loads ++ [(dataNo u 0, BitVec.ofNat 64 (d.get r))] } }
    memNext d n 8 u → bit (uSIZE u.word) 2 = true → (d.upset ups).badAt (cregKey c i) = 0 → noWaitc d n →
    (uSIZE u.word % 4 = 0 → completes (.atomAdd n ups) s (fun e => res e (d.get r + (x.p (uREG u.word)).toNat))) ∧
    (uSIZE u.word % 4 = 1 → completes (.atomSwap n ups) s (fun e => res e (x.p (uREG u.word)).toNat))

/-- R193: compare and swap on a scratch word and on a cluster register: P[MEM_REG] is compared, P[MEM_REG + 1] is stored, CAS_FAIL shows whether the compare failed. Which register holds which operand is the model's reading (log entry 47). -/
def Obligations.CompareAndSwap : Prop :=
  ∀ (s : State) (n : Nat) (ups : List (Nat × Nat)) (u : Cur),
    let d := s.dev
    let x := d.ctx n
    let a := scratchA n u.addr
    let old := d.rd64 a
    let c := n / 64
    let r := ENG.CREG.W c (u.addr % 64)
    let was := d.get r
    let scratch := uSIZE u.word % 8 = 2 ∧ u.addr % 8 = 0 ∧ u.addr < 0x80000 ∧ (d.upset ups).badAt a = 0
    let creg := uSIZE u.word % 8 = 6 ∧ (d.upset ups).badAt (cregKey c (u.addr % 64)) = 0 ∧ noWaitc d n
    memNext d n 8 u →
    (scratch → old = (x.p (uREG u.word)).toNat → completes (.atomCas n ups) s (fun e => stored8 d e a (x.p (uREG u.word + 1)).toNat ∧
      opWaits d e n (x.setCond 0x0C false) u .op [(dataNo u 0, BitVec.ofNat 64 old)])) ∧
    (scratch → old ≠ (x.p (uREG u.word)).toNat → completes (.atomCas n ups) s (fun e => memSame d e ∧
      opWaits d e n (x.setCond 0x0C true) u .op [(dataNo u 0, BitVec.ofNat 64 old)])) ∧
    (creg → was = (x.p (uREG u.word)).toNat → completes (.atomCas n ups) s (fun e => memSame d e ∧ e.get r = (x.p (uREG u.word + 1)).toNat ∧
      regsSame d e [r.key] ∧ (∀ m, m ≠ n → e.ctx m = d.ctx m) ∧
      e.ctx n = { x.setCond 0x0C false with st := .waitMem, wait := .op, cur := some { u with loads := u.loads ++ [(dataNo u 0, BitVec.ofNat 64 was)] } })) ∧
    (creg → was ≠ (x.p (uREG u.word)).toNat → completes (.atomCas n ups) s (fun e => memSame d e ∧
      opWaits d e n (x.setCond 0x0C true) u .op [(dataNo u 0, BitVec.ofNat 64 was)]))

/-- Offset in its half that an address reaches through the cluster's window. -/
def Sys2Proof.Machine.winOff (d : Dev) (n a : Nat) : Nat := d.get (ENG.HBM_WIN.BASE (n / 64)) * 65536 + a % 2 ^ 36

/-- R228: an HBM address: aligned to 8 bytes, [36] the half, [35:0] an offset into the cluster's window, which lies inside the half. -/
def Sys2Proof.Machine.inWindow (d : Dev) (n a : Nat) : Prop :=
  a < 2 ^ 37 ∧ a % 8 = 0 ∧ a % 2 ^ 36 < d.get (ENG.HBM_WIN.SIZE (n / 64)) * 65536 ∧ winOff d n a < 0xC00000000

/-- The stores to HBM that a later FENCE_ALL of the thread covers (R228, R36). -/
def Sys2Proof.Machine.noted (x : Ctx) (a : Nat) : Ctx := if x.stored.contains a then x else { x with stored := x.stored ++ [a] }

/-- R228, R229: LDM loads (the metadata of an HBM buffer where Table 19.9 puts it), STM stores and ADDM adds 64 bits at the address that the window gives; an address outside the window, and a store to a protected range, fault with ADDRESS. R403: a store to a row under repair waits for the repair (log entry 130). -/
def Sys2Proof.Machine.hbmAccessSays : Prop :=
  ∀ (s : State) (n : Nat) (ups : List (Nat × Nat)) (u : Cur),
    let d := s.dev
    let x := d.ctx n
    let h := u.addr / 2 ^ 36
    let o := winOff d n u.addr
    let a := hbmA h o
    let v := (x.p (uREG u.word)).toNat
    (memNext d n 9 u → inWindow d n u.addr → d.inAcc h o 8 = false → (d.upset ups).badAt a = 0 → d.areaWaits a 8 = false → completes (.ldm n ups) s (fun e =>
      memSame d e ∧ opWaits d e n x { u with hbm := a } .hbm [(dataNo u 0, BitVec.ofNat 64 (d.see64 a))])) ∧
    (memNext d n 0xA u → inWindow d n u.addr → d.protectedHbm h o 8 = false → d.areaWaits a 8 = false → completes (.stm n) s (fun e =>
      stored8 d e a v ∧ opDone d e n (noted x a) u [])) ∧
    (memNext d n 0xB u → inWindow d n u.addr → d.protectedHbm h o 8 = false → d.rowWaits a = false → completes (.addm n) s (fun e =>
      stored8 d e a (d.rd64 a + v) ∧ opDone d e n (noted x a) u [])) ∧
    (memNext d n 9 u → ¬ inWindow d n u.addr → completes (.ldm n ups) s (fun e => faults d e n 3)) ∧
    (memNext d n 0xA u → (¬ inWindow d n u.addr ∨ d.protectedHbm h o 8 = true) → completes (.stm n) s (fun e => faults d e n 3)) ∧
    (memNext d n 0xB u → (¬ inWindow d n u.addr ∨ d.protectedHbm h o 8 = true) → completes (.addm n) s (fun e => faults d e n 3)) ∧
    (memNext d n 0xA u → inWindow d n u.addr → d.protectedHbm h o 8 = false → d.areaWaits a 8 = true → completes (.stm n) s (fun e =>
      memSame d e ∧ e.flt.posted = d.flt.posted ++ [⟨a, false, natLE 8 v, 0⟩] ∧ opDone d e n (noted x a) u [])) ∧
    (memNext d n 0xB u → inWindow d n u.addr → d.protectedHbm h o 8 = false → d.rowWaits a = true → completes (.addm n) s (fun e =>
      memSame d e ∧ e.flt.posted = d.flt.posted ++ [⟨a, true, natLE 8 v, 0⟩] ∧ opDone d e n (noted x a) u []))

/-- Loads, stores and atomics on scratch, cluster registers and HBM: `scratchAndCregsSays`, `scratchAtomicsSays`, `cregAtomicsSays`, `hbmAccessSays`. -/
def Obligations.MemoryPart : Prop := scratchAndCregsSays ∧ scratchAtomicsSays ∧ cregAtomicsSays ∧ hbmAccessSays

/-- R195, R276: BALLOC within the share gives a handle that the thread then holds, or sets BUF_EMPTY and gives the handle 0xFFFFFFFF; beyond the share it waits or sets SHARE_EMPTY; a size of 0 or above 256 KiB faults. BFREE of a good handle takes it from the thread. -/
def Sys2Proof.Machine.bufferAllocFreeSays : Prop :=
  ∀ (s : State) (n : Nat) (u : Cur),
    let d := s.dev
    let x := d.ctx n
    (memNext d n 0xC u → 1 ≤ u.addr → u.addr ≤ 262144 → d.handleShare n = true → completes (.balloc n) s (fun e =>
      (e.ctx n).st = .waitMem ∧ (e.ctx n).wait = .op ∧ (∀ m, m ≠ n → e.ctx m = d.ctx m) ∧
      ((∃ y, (e.ctx n).handles = x.handles ++ [y] ∧ (e.ctx n).cond 0x12 = false ∧
          (e.ctx n).cur = some { u with loads := u.loads ++ [(dataNo u 0, BitVec.ofNat 64 y)] }) ∨
       ((e.ctx n).handles = x.handles ∧ (e.ctx n).cond 0x12 = true ∧
          ∃ hint, (e.ctx n).cur = some { u with loads := u.loads ++ [(dataNo u 0, 0xFFFFFFFF), (dataNo u 1, hint)] })))) ∧
    (memNext d n 0xC u → (u.addr = 0 ∨ 262144 < u.addr) → completes (.balloc n) s (fun e => faults d e n 3)) ∧
    (memNext d n 0xC u → 1 ≤ u.addr → u.addr ≤ 262144 → d.handleShare n = false → bit (uSIZE u.word) 3 = true →
      completes (.balloc n) s (fun e => e.ctx n = { x with st := .waitEvent, wait := .share } ∧ memSame d e ∧ regsSame d e [])) ∧
    (memNext d n 0xC u → 1 ≤ u.addr → u.addr ≤ 262144 → d.handleShare n = false → bit (uSIZE u.word) 3 = false →
      completes (.balloc n) s (fun e => (e.ctx n).cond 7 = true ∧ (e.ctx n).handles = x.handles ∧ memSame d e)) ∧
    (memNext d n 0xD u → d.handleOk (ctxHalf n) (u.addr % 2 ^ 32) = true → completes (.bfree n) s (fun e =>
      e.ctx n = { x with st := .waitMem, wait := .op, handles := x.handles.erase (u.addr % 2 ^ 32) } ∧ (∀ m, m ≠ n → e.ctx m = d.ctx m))) ∧
    (memNext d n 0xD u → d.handleOk (ctxHalf n) (u.addr % 2 ^ 32) = false → completes (.bfree n) s (fun e => faults d e n 3))

/-- R278: BREF adds one to the count of a buffer that is in use, and the thread holds one handle more; at 255 it sets SHARE_EMPTY and adds nothing. BLD and BST access a buffer that the thread holds (R224). -/
def Sys2Proof.Machine.bufferRefAccessSays : Prop :=
  ∀ (s : State) (n : Nat) (u : Cur),
    let d := s.dev
    let x := d.ctx n
    let h := ctxHalf n
    let y := u.addr % 2 ^ 32
    let w := d.binfo h y
    let z := (x.p (uREG u.word + 1)).toNat % 2 ^ 32
    let a := d.bufA h z u.addr
    (memNext d n 0xE u → d.handleShare n = true → d.handleOk h y = true → d.metaErr h y = false → 1 ≤ mREF w → mREF w < 255 → mQUAR w = false → mPARKED w = false →
      completes (.bref n) s (fun e => mREF (e.binfo h y) = mREF w + 1 ∧ mOWNER (e.binfo h y) = mOWNER w ∧ (e.ctx n).handles = x.handles ++ [y] ∧
        (e.ctx n).cond 7 = false ∧ memSame d e ∧ regsSame d e [])) ∧
    (memNext d n 0xE u → d.handleShare n = true → d.handleOk h y = true → d.metaErr h y = false → mREF w = 255 → mQUAR w = false → mPARKED w = false →
      completes (.bref n) s (fun e => e.binfo h y = w ∧ (e.ctx n).handles = x.handles ∧ (e.ctx n).cond 7 = true ∧ memSame d e)) ∧
    (memNext d n 0xF u → d.handleOk h z = true → z ∈ x.handles → u.addr + 8 ≤ poolSize (handlePool z) → handlePool z < 4 →
      completes (.bld n) s (fun e => memSame d e ∧ opWaits d e n x u .op [(dataNo u 0, BitVec.ofNat 64 (d.rd64 a))])) ∧
    (memNext d n 0x10 u → d.handleOk h z = true → z ∈ x.handles → x.pkt = none → u.addr + 8 ≤ poolSize (handlePool z) → handlePool z < 4 →
      completes (.bst n) s (fun e => stored8 d e a (x.p (uREG u.word)).toNat ∧ opWaits d e n x u .op [])) ∧
    (memNext d n 0x10 u → d.handleOk h z = true → z ∉ x.handles → x.pkt = none → completes (.bst n) s (fun e => faults d e n 3))

/-- TXGEN (R195, R278): the frame in the buffer goes to the switch core with the queue and port of its operand; the thread gives up the handle and takes a transmit entry. R284: where the buffer's metadata word shows a parity error it does nothing but quarantine that (log entry 117). -/
def Sys2Proof.Machine.txGenSays : Prop :=
  ∀ (s : State) (n : Nat) (u : Cur),
    let d := s.dev
    let x := d.ctx n
    let y := (x.p (uREG u.word)).toNat % 2 ^ 32
    let v := (x.p (uREG u.word + 1)).toNat
    memNext d n 0x11 u → d.handleOk (ctxHalf n) y = true → d.txgenOk n y v = true → d.txShare n = true →
    (d.metaErr (ctxHalf n) y = true → completes (.txgen n) s (fun e => mQUAR (e.binfo (ctxHalf n) y) = true ∧ e.swc = d.swc ∧
        e.ctx n = { x with cur := some { u with memDone := true } } ∧ ∀ m, m ≠ n → e.ctx m = d.ctx m)) ∧
    (d.metaErr (ctxHalf n) y = false → completes (.txgen n) s (fun e => memSame d e ∧ regsSame d e [] ∧ (∀ m, m ≠ n → e.ctx m = d.ctx m) ∧
        (e.ctx n).handles = x.handles.erase y ∧ (e.ctx n).txe = x.txe + 1 ∧ (e.ctx n).cond 7 = false ∧
        ∃ a, e.swc.adms = d.swc.adms ++ [a] ∧ a.dest = .port (bits v 22 14) ∧ a.queue = bits v 26 23 ∧
          a.pkt.body = d.rdBytes (d.bufA (ctxHalf n) y 0) (bits v 13 0)))

/-- Buffers taken, freed, referenced and accessed by threads; frames that a thread generates: `bufferAllocFreeSays`, `bufferRefAccessSays`, `txGenSays`. -/
def Obligations.BuffersAndGeneration : Prop := bufferAllocFreeSays ∧ bufferRefAccessSays ∧ txGenSays

-- Microwords: records, channels, packets, keepers (spec/07 R154, R167, R170; spec/08 R188 to R204; spec/09 R225 to R230).

/-- R167, R225: QRD reads a word of the held record as the thread sees it, QWR writes the STATE-class bits of a word, QADD adds to a counter of its Face line, or, where an error has taken that line, sends what it adds to Bench (log entry 130); without a held record each faults with ADDRESS. -/
def Sys2Proof.Machine.heldRecordSays : Prop :=
  ∀ (s : State) (n : Nat) (u : Cur),
    let d := s.dev
    let x := d.ctx n
    let i := uOFF u.word % 16
    let v := (x.p (uREG u.word)).toNat
    (∀ h, memNext d n 0x12 u → x.held = some h → i < (d.heldWords n h).length → completes (.qrd n) s (fun e =>
      memSame d e ∧ opWaits d e n x u .op [(dataNo u 0, BitVec.ofNat 64 (nthD (d.heldWords n h) i 0))])) ∧
    (∀ h, memNext d n 0x13 u → x.held = some h → completes (.qwr n) s (fun e => memSame d e ∧ ∃ g,
      opWaits d e n { x with held := some g } u .op [] ∧ g.handle = h.handle ∧ g.ver = h.ver ∧ (h.changed = true → g.changed = true) ∧
      (nthD g.words i 0 ≠ nthD h.words i 0 → g.changed = true) ∧
      g.words = setNth h.words i (maskIn (stateMask (rFULL (nthD h.words 0 0)) i) (nthD h.words i 0) v))) ∧
    (∀ h l, memNext d n 0x14 u → x.held = some h → d.lineOf (n / 512) h.handle = some l → l.st ≠ .filling → completes (.qadd n) s (fun e =>
      memSame d e ∧ opWaits d e n { x with wrote := if h.handle ∈ x.wrote then x.wrote else x.wrote ++ [h.handle] } u .op [] ∧ ∃ m, e.lineOf (n / 512) h.handle = some m ∧ m.st = .dirty ∧ m.words = l.words ∧
        m.dPkts = l.dPkts + (if uSIZE u.word = 0 then v else 0) ∧ m.dBad = l.dBad + (if uSIZE u.word = 1 then v else 0) ∧
        m.dOct = l.dOct + (if uSIZE u.word = 2 then v else 0))) ∧
    (x.held = none → (memNext d n 0x12 u → completes (.qrd n) s (fun e => faults d e n 3)) ∧
      (memNext d n 0x13 u → completes (.qwr n) s (fun e => faults d e n 3)) ∧
      (memNext d n 0x14 u → completes (.qadd n) s (fun e => faults d e n 3)) ∧
      (memNext d n 0x15 u → completes (.qrel n) s (fun e => faults d e n 3)) ∧
      (memNext d n 0x18 u → completes (.qdel n) s (fun e => faults d e n 3))) ∧
    (∀ h, memNext d n 0x14 u → x.held = some h → d.lineOf (n / 512) h.handle = none → completes (.qadd n) s (fun e => memSame d e ∧
      (e.ctx n).st = .waitMem ∧ (e.ctx n).wait = .op ∧ (e.ctx n).held = some h ∧ (∀ m, m ≠ n → e.ctx m = d.ctx m) ∧
      ∃ t, e.qry.txns = d.qry.txns ++ [t] ∧ t.kind = .writeBack ∧ t.slice = n / 512 ∧ t.handle = h.handle ∧ t.ctx = n + 1 ∧
        t.dPkts = (if uSIZE u.word = 0 then v else 0) ∧ t.dBad = (if uSIZE u.word = 1 then v else 0) ∧ t.dOct = (if uSIZE u.word = 2 then v else 0)))

/-- Nobody else of the slice waits for the record with this handle. -/
def Sys2Proof.Machine.noWaiter (d : Dev) (n handle : Nat) : Prop := d.recWaiter (n / 512) handle = none

/-- No word of the line has an error mark. -/
def Sys2Proof.Machine.wordsGood (d : Dev) (sl : Nat) (l : Line) : Prop := ∀ w ∈ l.ways, ∀ i, i < 8 → d.badAt (faceA sl l.set w i) = 0

/-- The slice holds a filled line of the record, in ways that are in service, and no word of the line has an error mark. -/
def Sys2Proof.Machine.readable (d : Dev) (sl handle : Nat) (l : Line) : Prop := d.lineOf sl handle = some l ∧ wordsGood d sl l ∧ d.lineRetired l = false

/-- R154, R189: QREL and QDEL end the hold; QDEL issues a deletion. QTAKE of a cached record that nobody holds takes it, and of "no flow" sets Q_FAIL. -/
def Sys2Proof.Machine.takeAndReleaseSays : Prop :=
  ∀ (s : State) (n : Nat) (u : Cur),
    let d := s.dev
    let x := d.ctx n
    let sl := n / 512
    let released := fun (e : Dev) => e.ctx n = { x with held := none, cur := some { u with memDone := true } } ∧ ∀ m, m ≠ n → e.ctx m = d.ctx m
    (∀ h, memNext d n 0x15 u → x.held = some h → noWaiter d n h.handle → completes (.qrel n) s (fun e => memSame d e ∧
      released e ∧ (h.changed = true → ∃ t ∈ e.qry.txns, t.kind = .commit ∧ t.handle = h.handle ∧ t.words = h.words ∧ t.ver = h.ver))) ∧
    (∀ h, memNext d n 0x18 u → x.held = some h → noWaiter d n h.handle → completes (.qdel n) s (fun e => memSame d e ∧
      released e ∧ ∃ t ∈ e.qry.txns, t.kind = .delete ∧ t.handle = h.handle ∧ t.ctx = n + 1 ∧ t.half = flowHalf h.handle)) ∧
    (∀ l, memNext d n 0x16 u → x.held = none → u.addr % 2 ^ 32 ≠ noFlow → d.goneStatus sl (u.addr % 2 ^ 32) = none →
      readable d sl (u.addr % 2 ^ 32) l → d.holder sl (u.addr % 2 ^ 32) = none → noWaiter d n (u.addr % 2 ^ 32) →
      completes (.qtake n) s (fun e => memSame d e ∧ (e.ctx n).held = some ⟨l.handle, lineNow l, l.ver, false⟩ ∧
        (e.ctx n).cond 0x0D = false ∧ (e.ctx n).st = .waitMem ∧ (e.ctx n).wait = .op ∧ (∀ m, m ≠ n → e.ctx m = d.ctx m))) ∧
    (memNext d n 0x16 u → x.held = none → u.addr % 2 ^ 32 = noFlow → completes (.qtake n) s (fun e => memSame d e ∧
        (e.ctx n).held = none ∧ (e.ctx n).cond 0x0D = true ∧ (e.ctx n).st = .waitMem ∧ (∀ m, m ≠ n → e.ctx m = d.ctx m)))

/-- R164, R225: QINS issues an insertion for the key in its registers and waits for Bench; while Quarry is off it sets Q_FAIL and gives "no flow". -/
def Sys2Proof.Machine.qinsIssueSays : Prop :=
  ∀ (s : State) (n : Nat) (u : Cur),
    let d := s.dev
    let x := d.ctx n
    let on := d.is QRY.GCFG.EN = true ∧ d.is QRY.GCFG.READY = true ∧ d.is (QRY.CTL.EN (n / 512)) = true
    memNext d n 0x17 u →
    (on → completes (.qins n) s (fun e => memSame d e ∧ e.ctx n = { x with st := .waitMem, wait := .bench } ∧ (∀ m, m ≠ n → e.ctx m = d.ctx m) ∧
      ∃ t, e.qry.txns = d.qry.txns ++ [t] ∧ t.kind = .qins ∧ t.slice = n / 512 ∧ t.ctx = n + 1 ∧ t.fkey = d.qinsKey n u ∧
        t.h1 = d.hash1 (d.qinsKey n u) ∧ t.half = t.h1 / 2 ^ 31 ∧ t.done = false)) ∧
    (¬ on → completes (.qins n) s (fun e => memSame d e ∧
      opDone d e n (x.setCond 0x0D true) u [(dataNo u 0, 0xFFFFFFFF), (dataNo u 1, 5)]))

/-- What a thread does to the record it holds, takes, releases or inserts: `heldRecordSays`, `takeAndReleaseSays`, `qinsIssueSays`. -/
def Obligations.RecordOperations : Prop := heldRecordSays ∧ takeAndReleaseSays ∧ qinsIssueSays

/-- R197: COPEN of an EMPTY channel holds it, CPUT stages a word, CCOMMIT publishes the message, CABORT empties the channel, CRECV takes a published message. -/
def Sys2Proof.Machine.channelsSays : Prop :=
  ∀ (s : State) (n : Nat) (ups : List (Nat × Nat)) (u : Cur),
    let d := s.dev
    let x := d.ctx n
    let c := n / 64
    let i := u.addr % 16
    x.chanLost = false →
    (memNext d n 0x19 u → x.chan = none → (d.chan c i).st = 0 → completes (.copen n) s (fun e => memSame d e ∧
      (e.ctx n).chan = some i ∧ (e.ctx n).cond 8 = false ∧ (e.ctx n).cond 9 = false ∧ (e.chan c i).st = 1 ∧ (e.chan c i).holder = n ∧
      (e.chan c i).staged = [] ∧ (e.ctx n).cur = some { u with memDone := true } ∧ regsSame d e [])) ∧
    (memNext d n 0x19 u → x.chan = none → (d.chan c i).st ≠ 0 → bit (uSIZE u.word) 3 = true → completes (.copen n) s (fun e => memSame d e ∧
      e.ctx n = { x with st := .waitEvent, wait := .chanOpen i } ∧ (e.chan c i).opens = (d.chan c i).opens ++ [n] ∧ regsSame d e [])) ∧
    (memNext d n 0x19 u → x.chan = none → (d.chan c i).st ≠ 0 → bit (uSIZE u.word) 3 = false → completes (.copen n) s (fun e => memSame d e ∧
      opDone d e n (x.setCond 8 true) u [] ∧ e.chan c i = d.chan c i)) ∧
    (∀ j, memNext d n 0x1A u → x.chan = some j → completes (.cput n) s (fun e => memSame d e ∧ opDone d e n x u [] ∧
      sget (e.chan c j).staged (uSIZE u.word % 8) 0 = x.p (uREG u.word) ∧
      ∀ w, w ≠ uSIZE u.word % 8 → sget (e.chan c j).staged w 0 = sget (d.chan c j).staged w 0)) ∧
    (∀ j, memNext d n 0x1B u → x.chan = some j → (d.chan c j).recvs = [] → completes (.ccommit n) s (fun e => memSame d e ∧
      opDone d e n { x with chan := none } u [] ∧ e.chan c j = { d.chan c j with st := 2, holder := 0 })) ∧
    (∀ j, memNext d n 0x1C u → x.chan = some j → (d.chan c j).opens = [] → completes (.cabort n) s (fun e => memSame d e ∧
      opDone d e n { x with chan := none } u [] ∧ e.chan c j = { d.chan c j with st := 0, holder := 0, staged := [] })) ∧
    (memNext d n 0x1D u → (d.chan c i).st = 2 → (d.chan c i).opens = [] → x.kickReq = false → (∀ w, w < 8 → (d.upset ups).badAt (chanKey c i w) = 0) →
      completes (.crecv n ups) s (fun e => memSame d e ∧ (e.chan c i).st = 0 ∧ (e.chan c i).staged = [] ∧
        opDone d e n { x with wait := .none } u ((List.range 8).map (fun w => (dataNo u w, sget (d.chan c i).staged w 0))))) ∧
    (memNext d n 0x1D u → (d.chan c i).st ≠ 2 → completes (.crecv n ups) s (fun e => memSame d e ∧
      e.ctx n = { x with st := .waitEvent, wait := .chanRecv i } ∧ (e.chan c i).recvs = (d.chan c i).recvs ++ [n]))

/-- R226: COPEN in a thread that holds a channel gives CHANNEL_BUSY and does nothing, CPUT, CCOMMIT and CABORT without one set CHANNEL_LOST and do nothing. R198: after its channel was reclaimed the thread's next channel operation gives CHANNEL_LOST and does nothing further. -/
def Sys2Proof.Machine.channelRefusalsSays : Prop :=
  ∀ (s : State) (n : Nat) (ups : List (Nat × Nat)) (u : Cur),
    let d := s.dev
    let x := d.ctx n
    let refused := fun (e : Dev) (y : Ctx) => memSame d e ∧ opDone d e n y u [] ∧ ∀ c i, e.chan c i = d.chan c i
    (∀ j, memNext d n 0x19 u → x.chanLost = false → x.chan = some j → completes (.copen n) s (fun e => refused e (x.setCond 8 true))) ∧
    (x.chanLost = false → x.chan = none →
      (memNext d n 0x1A u → completes (.cput n) s (fun e => refused e (x.setCond 9 true))) ∧
      (memNext d n 0x1B u → completes (.ccommit n) s (fun e => refused e (x.setCond 9 true))) ∧
      (memNext d n 0x1C u → completes (.cabort n) s (fun e => refused e (x.setCond 9 true)))) ∧
    (x.chanLost = true → let y := { x.setCond 9 true with chanLost := false }
      (memNext d n 0x19 u → completes (.copen n) s (fun e => refused e y)) ∧
      (memNext d n 0x1A u → completes (.cput n) s (fun e => refused e y)) ∧
      (memNext d n 0x1B u → completes (.ccommit n) s (fun e => refused e y)) ∧
      (memNext d n 0x1C u → completes (.cabort n) s (fun e => refused e y)) ∧
      (memNext d n 0x1D u → completes (.crecv n ups) s (fun e => refused e y)))

/-- The thread has let its packet go; memory and the other contexts are as before. -/
def Sys2Proof.Machine.letsGo (d e : Dev) (n : Nat) (x : Ctx) (u : Cur) : Prop :=
  opDone d e n { x with pkt := none, released := true, epoch := none } u []

/-- Packet sub-operation `k` is next. -/
def Sys2Proof.Machine.pktNext (d : Dev) (n k : Nat) (u : Cur) : Prop := memNext d n 0x1E u ∧ uSIZE u.word = k

/-- No frame goes to the switch core and none leaves it; only a reference may pass to a copy that waits for one (R278). -/
def Sys2Proof.Machine.noneSent (d e : Dev) : Prop :=
  let plain := fun (s : SwcSt) => (s.adms.map (fun (a : Adm) => { a with needRef := [] }), s.crosses.map (fun (c : Cross) => { c with needRef := [] }), s.queues)
  plain e.swc = plain d.swc

/-- R188, R227: SEND, PUNT and RECIRC pass the packet on; where no earlier packet of its flow is still in the cluster, it goes to the switch core with its destination (R286: as forwarding or the last write of D3 left it) and the queue of D3, to port 256 (a punt keeps the class of D3, log entry 20), or to the slice's recirculation port. A second release faults with RELEASE_TWICE, one without a packet with ADDRESS. -/
def Sys2Proof.Machine.packetReleaseSays : Prop :=
  ∀ (s : State) (n : Nat) (u : Cur),
    let d := s.dev
    let x := d.ctx n
    let sent := fun (e : Dev) (k : Pkt) (dest : Dest) => memSame d e ∧ letsGo d e n x u ∧
      ∃ a, e.swc.adms = d.swc.adms ++ [a] ∧ a.dest = dest ∧ a.cls = d3Class k.d3 ∧ a.pkt.id = k.id
    let first := fun (k : Pkt) => heldBack k.h1 k.h2 k.id (d.ordOf (flowCluster k.slice k.h1)) = false
    (∀ k, pktNext d n 0 u → x.pkt = some k → first k → completes (.pktSend n) s (fun e =>
      sent e k k.dest ∧ e.swc.adms.getLast?.map (fun a => a.queue) = some (match k.dest with
        | .group _ => 12 + d3MQ k.d3
        | _ => d3UQ k.d3))) ∧
    (∀ k, pktNext d n 2 u → x.pkt = some k → first k → completes (.pktPunt n) s (fun e => sent e k (.port 256))) ∧
    (∀ k, pktNext d n 3 u → x.pkt = some k → first k → completes (.pktRecirc n) s (fun e => sent e k (.port (257 + n / 512)))) ∧
    (∀ k, pktNext d n 1 u → x.pkt = some k → completes (.pktDrop n) s (fun e => (e.ctx n).pkt = none ∧ (e.ctx n).released = true ∧
      (∀ m, m ≠ n → e.ctx m = d.ctx m) ∧ noneSent d e ∧ ∀ o ∈ e.ordOf (flowCluster k.slice k.h1), o.id ≠ k.id)) ∧
    (x.pkt = none → x.released = true → (pktNext d n 0 u → completes (.pktSend n) s (fun e => faults d e n 6)) ∧
      (pktNext d n 1 u → completes (.pktDrop n) s (fun e => faults d e n 6)) ∧ (pktNext d n 2 u → completes (.pktPunt n) s (fun e => faults d e n 6)) ∧
      (pktNext d n 3 u → completes (.pktRecirc n) s (fun e => faults d e n 6))) ∧
    (x.pkt = none → x.released = false → pktNext d n 0 u → completes (.pktSend n) s (fun e => faults d e n 3))

/-- R227: HINS inserts and HDEL deletes P[MEM_REG] [6:0] bytes at the address, and the IP header of a routed frame keeps its place among the other bytes (R128; where the deletion takes its first byte, log entry 109); the net change stays within −64 and +64 and the address, with the bytes that HDEL deletes (log entry 43), within W, or the thread faults with ADDRESS. -/
def Sys2Proof.Machine.headerReshapeSays : Prop :=
  ∀ (s : State) (n : Nat) (u : Cur) (k : Pkt),
    let d := s.dev
    let x := d.ctx n
    let len := (x.p (uREG u.word)).toNat % 128
    x.pkt = some k →
    (pktNext d n 4 u → u.addr ≤ k.winLen → k.hnet + len ≤ 128 → completes (.hins n) s (fun e => memSame d e ∧
      opDone d e n { x with pkt := some { k with hnet := k.hnet + len, l3 := if k.l3 < u.addr then k.l3 else k.l3 + len, body := k.body.take u.addr ++ List.replicate len 0 ++ k.body.drop u.addr } } u [])) ∧
    (pktNext d n 5 u → len ≤ k.hnet → u.addr + len ≤ k.winLen → completes (.hdel n) s (fun e => memSame d e ∧
      opDone d e n { x with pkt := some { k with hnet := k.hnet - len, l3 := if k.l3 < u.addr then k.l3 else max u.addr (k.l3 - len), body := k.body.take u.addr ++ k.body.drop (u.addr + len) } } u [])) ∧
    (pktNext d n 4 u → (k.winLen < u.addr ∨ 128 < k.hnet + len) → completes (.hins n) s (fun e => faults d e n 3)) ∧
    (pktNext d n 5 u → (k.winLen < u.addr + len ∨ k.hnet < len) → completes (.hdel n) s (fun e => faults d e n 3))

/-- Channels between threads; release and reshaping of the packet: `channelsSays`, `channelRefusalsSays`, `packetReleaseSays`, `headerReshapeSays`. -/
def Obligations.ChannelsAndPacket : Prop := channelsSays ∧ channelRefusalsSays ∧ packetReleaseSays ∧ headerReshapeSays

/-- Keeper sub-operation `k` is next. -/
def Sys2Proof.Machine.kopNext (d : Dev) (n k : Nat) (u : Cur) : Prop := memNext d n 0x1F u ∧ uSIZE u.word = k

/-- The word goes on with these values loaded. -/
def Sys2Proof.Machine.kopDone (d e : Dev) (n : Nat) (u : Cur) (l : List (Nat × Word64)) : Prop :=
  e.ctx n = { d.ctx n with cur := some { u with memDone := true, loads := u.loads ++ l } }

/-- R202, R230: what a keeper reads and writes of a FAULTED context of its engine: RDP (a parity error in the register faults the keeper with POISON_READ, Table 17.1), WRP, RDH and WRH, the status of a context, the oldest queued fault record. -/
def Sys2Proof.Machine.keeperReadsSays : Prop :=
  ∀ (s : State) (n : Nat) (u : Cur),
    let d := s.dev
    let m := n / 8 * 8 + u.addr % 8
    let y := d.ctx m
    let i := u.addr / 8 % 32
    let o := u.addr / 256 % 256
    let v := (d.ctx n).p (uREG u.word)
    (∀ r rs, kopNext d n 0 u → d.kqOf (n / 8) = r :: rs → completes (.kopTake n) s (fun e => memSame d e ∧ e.kqOf (n / 8) = rs ∧
      opDone d e n ((d.ctx n).setCond 0x11 true) u [(dataNo u 0, BitVec.ofNat 64 r)])) ∧
    (kopNext d n 0 u → d.kqOf (n / 8) = [] → completes (.kopTake n) s (fun e => memSame d e ∧
      opDone d e n ((d.ctx n).setCond 0x11 false) u [(dataNo u 0, 0)])) ∧
    (kopNext d n 5 u → (y.st = .faulted → d.badAt (regKey m i) = 0) → completes (.rdp n) s (fun e => memSame d e ∧
      opDone d e n (d.ctx n) u [(dataNo u 0, if y.st = .faulted then y.p i else 0)])) ∧
    (kopNext d n 5 u → y.st = .faulted → d.badAt (regKey m i) ≠ 0 → completes (.rdp n) s (fun e => (e.ctx n).st = .faulted ∧ (e.ctx n).fault % 256 = 8)) ∧
    (kopNext d n 6 u → y.st = .faulted → completes (.wrp n) s (fun e => memSame d e ∧ kopDone d e n u [] ∧ e.ctx m = y.setP i v)) ∧
    (kopNext d n 6 u → y.st ≠ .faulted → completes (.wrp n) s (fun e => memSame d e ∧ opDone d e n (d.ctx n) u [])) ∧
    (∀ k, kopNext d n 7 u → y.st = .faulted → y.pkt = some k → o ≤ 248 → completes (.rdh n) s (fun e => memSame d e ∧
      opDone d e n (d.ctx n) u [(dataNo u 0, BitVec.ofNat 64 (beNat (k.header o 8)))])) ∧
    (∀ k, kopNext d n 8 u → y.st = .faulted → y.pkt = some k → o ≤ 248 → o + 8 ≤ k.winLen → completes (.wrh n) s (fun e => memSame d e ∧
      kopDone d e n u [] ∧ e.ctx m = { y with pkt := some { k with body := writeB k.body o (natBE 8 v.toNat) } })) ∧
    (kopNext d n 9 u → completes (.kopStat n) s (fun e => memSame d e ∧ opDone d e n (d.ctx n) u [(dataNo u 0, BitVec.ofNat 64 (d.ctxStat m))]))

/-- R202: RESUME makes a FAULTED worker READY at the PC that P[MEM_REG] gives, DROP and PASS free it, KICK faults a READY one; a context that is not FAULTED is left as it is by the first three. -/
def Sys2Proof.Machine.keeperActsSays : Prop :=
  ∀ (s : State) (n : Nat) (u : Cur),
    let d := s.dev
    let m := n / 8 * 8 + u.addr % 8
    let y := d.ctx m
    (kopNext d n 1 u → y.st = .faulted → d.isKeeper m = false → completes (.kopResume n) s (fun e => memSame d e ∧ kopDone d e n u [] ∧
      e.ctx m = { y with st := .ready, pc := ((d.ctx n).p (uREG u.word)).toNat % 8192, fault := 0, delivered := false, faultAge := 0 } ∧
      ∀ r ∈ e.kqOf (n / 8), bits r 10 8 ≠ m % 8)) ∧
    (kopNext d n 2 u → y.st = .faulted → d.isKeeper m = false → y.held = none → y.chan = none → y.parent = 0 →
      completes (.kopDrop n) s (fun e => kopDone d e n u [] ∧ e.ctx m = { txe := y.txe } ∧ noneSent d e)) ∧
    (∀ k, kopNext d n 3 u → y.st = .faulted → d.isKeeper m = false → y.held = none → y.chan = none → y.parent = 0 → y.pkt = some k →
      heldBack k.h1 k.h2 k.id (d.ordOf (flowCluster k.slice k.h1)) = false →
      completes (.kopPass n) s (fun e => kopDone d e n u [] ∧ e.ctx m = { txe := y.txe } ∧
        ∃ a, e.swc.adms = d.swc.adms ++ [a] ∧ a.dest = k.dest ∧ a.pkt.id = k.id)) ∧
    (kopNext d n 4 u → y.st = .ready → y.cur = none → d.isKeeper m = false → completes (.kick n) s (fun e => memSame d e ∧
      kopDone d e n u [] ∧ (e.ctx m).st = .faulted ∧ (e.ctx m).fault % 256 = 9)) ∧
    (y.st ≠ .faulted → (kopNext d n 1 u → completes (.kopResume n) s (fun e => kopDone d e n u [] ∧ (m ≠ n → e.ctx m = y))) ∧
      (kopNext d n 2 u → completes (.kopDrop n) s (fun e => kopDone d e n u [] ∧ (m ≠ n → e.ctx m = y))) ∧ (kopNext d n 3 u → completes (.kopPass n) s (fun e => kopDone d e n u [] ∧ (m ≠ n → e.ctx m = y))))

/-- R223: OPERATION_COMPLETE ends a wait for the thread's own operation: the thread is READY for the rest of its word. R222: a local fence is complete at once; a fence of kind flow or all is complete once nothing of the thread is on its way to Bench and no PUSH of its is, and shows in STATE_CONFLICT whether a COMMIT was refused; before that it sends the COMMIT of a held record that the thread has changed (R167), or the deltas of the record. One of kind all also sends and waits for deltas of records that the thread no longer holds (Table 2.4), and waits while a lower layer delays the thread's own stores (R36, R37). -/
def Sys2Proof.Machine.operationsAndFencesSays : Prop :=
  ∀ (s : State) (n : Nat) (u : Cur),
    let d := s.dev
    let x := d.ctx n
    let sl := n / 512
    let busy := d.recPending n = true ∨ ∃ p ∈ d.qry.pushes, p.ctx = n + 1
    let fence := fun (k : Nat) => d.inWord n u ∧ u.fenceDone = false ∧ uFENCE u.word = k
    let ends := fun (e : Dev) (y : Ctx) => memSame d e ∧ regsSame d e [] ∧ (∀ m, m ≠ n → e.ctx m = d.ctx m) ∧
      e.ctx n = { y with st := .ready, wait := .none, cur := some { u with fenceDone := true } }
    x.kickReq = false →
    (d.clusterOn (n / 64) = true → x.wait = .op → x.cur = some u → completes (.operationComplete n) s (fun e => memSame d e ∧ regsSame d e [] ∧
      (∀ m, m ≠ n → e.ctx m = d.ctx m) ∧ e.ctx n = { x with st := .ready, wait := .none, cur := some { u with memDone := true } })) ∧
    (fence 1 → completes (.fenceLocal n) s (fun e => ends e x)) ∧
    (fence 2 → x.held = none → ¬ busy → completes (.fenceFlow n) s (fun e => ends e { x.setCond 0x0B x.conflict with conflict := false })) ∧
    (fence 3 → x.held = none → ¬ busy → d.storesWait n = false →
      (∀ r ∈ x.wrote, (∀ l, d.lineOf sl r = some l → l.st ≠ .dirty) ∧ ∀ t ∈ d.qry.txns, t.slice = sl → t.brings r = false) →
      completes (.fenceAll n) s (fun e => ends e { x.setCond 0x0B x.conflict with conflict := false, wrote := [], stored := [] })) ∧
    (fence 2 → x.held = none → busy → completes (.fenceFlow n) s (fun e =>
      e.ctx n = { x with st := .waitMem, wait := .fence, cur := some { u with fenceAt := d.tick } })) ∧
    (fence 3 → x.held = none → x.wrote = [] → (busy ∨ d.storesWait n = true) → completes (.fenceAll n) s (fun e =>
      e.ctx n = { x with st := .waitMem, wait := .fence, cur := some { u with fenceAt := d.tick } })) ∧
    (∀ r l, fence 3 → x.held = none → x.wrote = [r] → d.lineOf sl r = some l → l.st = .dirty → wordsGood d sl l → completes (.fenceAll n) s (fun e =>
      (e.ctx n).st = .waitMem ∧ (e.ctx n).wait = .fence ∧ ∃ t ∈ e.qry.txns, t.kind = .writeBack ∧ t.handle = l.handle ∧ t.slice = l.slice ∧ t.ctx = n + 1 ∧
        t.dPkts = l.dPkts ∧ t.dBad = l.dBad ∧ t.dOct = l.dOct)) ∧
    (∀ h, x.held = some h → h.changed = true →
      let sent := fun (e : Dev) => (e.ctx n).st = .waitMem ∧ (e.ctx n).wait = .fence ∧ (e.ctx n).held = some { h with changed := false } ∧
        memSame d e ∧ (∀ m, m ≠ n → e.ctx m = d.ctx m) ∧
        ∃ t ∈ e.qry.txns, t.kind = .commit ∧ t.handle = h.handle ∧ t.words = h.words ∧ t.ver = h.ver ∧ t.ctx = n + 1
      (fence 2 → completes (.fenceFlow n) s sent) ∧ (fence 3 → completes (.fenceAll n) s sent)) ∧
    (∀ h l, x.held = some h → h.changed = false → d.lineOf sl h.handle = some l → l.st = .dirty → wordsGood d sl l →
      let sent := fun (e : Dev) => (e.ctx n).st = .waitMem ∧ (e.ctx n).wait = .fence ∧ (e.ctx n).held = some h ∧
        ∃ t ∈ e.qry.txns, t.kind = .writeBack ∧ t.handle = h.handle ∧ t.ctx = n + 1 ∧ t.dPkts = l.dPkts ∧ t.dBad = l.dBad ∧ t.dOct = l.dOct
      (fence 2 → completes (.fenceFlow n) s sent) ∧ (fence 3 → completes (.fenceAll n) s sent))

/-- R210 to R216, R231: a fetch takes the word at the thread's PC from its bank; a word whose eight parity groups are good, that no breakpoint stops and whose content is legal, begins; one that has failed both fetches since it was written faults at every fetch. -/
def Sys2Proof.Machine.fetchSays : Prop :=
  ∀ (s : State) (g n : Nat),
    let d := s.dev
    let p := sget d.eng.slotPtr g 0
    let w := d.ucodeWord (n / 64) (d.bankOf n) (d.ctx n).pc
    let mark := d.ucodeMark (n / 64) (d.bankOf n) (d.ctx n).pc
    g < 512 → d.canIssue g = true → d.issueFrom g (d.clSet (g / 8)) p = some n →
    (ucodeFails w = 0 → mark = 0 → d.breaks n (d.bankOf n) (w % 2 ^ 160) = false → uIllegal (w % 2 ^ 160) (d.isKeeper n) = false →
      completes (.microwordFetch g 0 0 0) s (fun e => memSame d e ∧ regsSame d e [] ∧ (∀ m, m ≠ n → e.ctx m = d.ctx m) ∧
        e.ctx n = { d.ctx n with cur := some { word := w % 2 ^ 160, fenceDone := decide (uFENCE (w % 2 ^ 160) = 0) } } ∧
        sget e.eng.slotPtr g 0 = (p + 1) % 32)) ∧
    (ucodeFails w = 0 → mark = 0 → d.breaks n (d.bankOf n) (w % 2 ^ 160) = false → uIllegal (w % 2 ^ 160) (d.isKeeper n) = true →
      completes (.microwordFetch g 0 0 0) s (fun e => (e.ctx n).st = .faulted ∧ (e.ctx n).fault % 256 = 7)) ∧
    (ucodeFails w ≠ 0 → mark = 0 → completes (.microwordFetch g 0 0 0) s (fun e => (e.ctx n).st = .faulted ∧ (e.ctx n).fault % 256 = 4 ∧
      e.is (ENG.MCHK.VALID (n / 64)) = true ∧ e.get (ENG.MCHK.ADDR (n / 64)) = (d.ctx n).pc % 8192 ∧ e.get (ENG.MCHK.GROUPS (n / 64)) = ucodeFails w % 256 ∧
      e.ucodeMark (n / 64) (d.bankOf n) (d.ctx n).pc = ucodeFails w)) ∧
    (mark ≠ 0 → completes (.microwordFetch g 0 0 0) s (fun e => (e.ctx n).st = .faulted ∧ (e.ctx n).fault % 256 = 4 ∧
      e.is (ENG.MCHK.VALID (n / 64)) = true ∧ e.ucodeMark (n / 64) (d.bankOf n) (d.ctx n).pc ≠ 0))

/-- Operations and fences that complete, and the fetch of a word: `operationsAndFencesSays`, `fetchSays`. -/
def Obligations.WaitsFencesAndFetch : Prop := operationsAndFencesSays ∧ fetchSays

-- Threads (spec/08 R180 to R208, spec/09 R220, R221).

/-- Nobody has asked the thread to halt, to step or to fault. -/
def Sys2Proof.Machine.quiet (x : Ctx) : Prop := x.kickReq = false ∧ x.haltReq = 0 ∧ x.stepping = false

/-- Event source `k` is set. -/
def Sys2Proof.Machine.raised (e : Dev) (k : Nat) : Prop := bit (e.get (GLB.EVT_STAT.STAT (k / 16))) (k % 16) = true

/-- R194, R220: WAITC goes on when its comparison holds, else it waits. R190, R192: JOIN waits for live children. R201, R218, R219: a keeper's KWAIT goes on where a fault record is queued, else it clears FOG and waits in KEEPER_IDLE (log entry 51). R221: END of a thread that holds nothing frees its context; with a packet it faults with NO_RELEASE. -/
def Sys2Proof.Machine.seqWaitsAndEndSays : Prop :=
  ∀ (s : State) (n : Nat) (ups : List (Nat × Nat)) (u : Cur),
    let d := s.dev
    let x := d.ctx n
    let i := uOFF u.word % 64
    let met := waitcTest (uSIZE u.word) (d.get (ENG.CREG.W (n / 64) i)) (uIMM u.word)
    let waits := fun (e : Dev) (y : Ctx) => e.ctx n = y ∧ (∀ m, m ≠ n → e.ctx m = d.ctx m) ∧ memSame d e ∧ regsSame d e []
    (seqNext d n 6 u → (d.upset ups).badAt (cregKey (n / 64) i) = 0 → met = true → completes (.waitc n ups) s (fun e => seqLeaves d e n (x.pc + 1))) ∧
    (seqNext d n 6 u → (d.upset ups).badAt (cregKey (n / 64) i) = 0 → met = false →
      completes (.waitc n ups) s (fun e => waits e { x with st := .waitEvent, wait := .creg })) ∧
    (seqNext d n 8 u → x.children = 0 → completes (.join n) s (fun e => seqLeaves d e n (x.pc + 1))) ∧
    (seqNext d n 8 u → x.children ≠ 0 → completes (.join n) s (fun e => waits e { x with st := .waitEvent, wait := .join })) ∧
    (seqNext d n 0xA u → d.kqOf (n / 8) ≠ [] → completes (.kwait n) s (fun e => seqLeaves d e n (x.pc + 1))) ∧
    (seqNext d n 0xA u → d.kqOf (n / 8) = [] → completes (.kwait n) s (fun e => waits e { x.setCond 0x10 false with st := .keeperIdle, wait := .keeper })) ∧
    (seqNext d n 9 u → x.pkt = none → x.held = none → x.chan = none → x.handles = [] → x.parent = 0 → completes (.seqEnd n) s (fun e =>
      e.ctx n = { txe := x.txe } ∧ (∀ m, m ≠ n → e.ctx m = d.ctx m) ∧ memSame d e)) ∧
    (seqNext d n 9 u → x.pkt ≠ none → completes (.seqEnd n) s (fun e => faults d e n 5))

/-- Number of registers that COPY gives a child (R190). -/
def Sys2Proof.Machine.copied (k : Nat) : Nat := if k = 0 then 0 else 2 ^ (k + 1)

/-- R190, R192: FORK takes the lowest free context of its own engine, gives it the first registers of the parent and its epoch, and counts it among the live children; with no free context, or 15 live children, it sets FORK_EMPTY. FORK_CHILD_READY lets the child run. -/
def Sys2Proof.Machine.forkAndChildSays : Prop :=
  ∀ (s : State) (n : Nat) (u : Cur),
    let d := s.dev
    let x := d.ctx n
    let m := d.lowestFree (n / 8)
    (seqNext d n 7 u → x.children < 15 → d.freeIn (n / 8) ≠ [] → completes (.fork n) s (fun e => memSame d e ∧
      (e.ctx n).st = .ready ∧ (e.ctx n).pc = (x.pc + 1) % 8192 ∧ (e.ctx n).children = x.children + 1 ∧ (e.ctx n).cond 6 = false ∧
      (e.ctx m).st = .waitMem ∧ (e.ctx m).forking = true ∧ (e.ctx m).parent = n + 1 ∧ (e.ctx m).pc = uTARGET u.word ∧ (e.ctx m).epoch = x.epoch ∧
      (e.ctx m).pkt = none ∧ (∀ r, r < 32 → (e.ctx m).p r = if r < copied (uCOPY u.word) then x.p r else 0) ∧
      ∀ j, j ≠ n → j ≠ m → e.ctx j = d.ctx j)) ∧
    (seqNext d n 7 u → (15 ≤ x.children ∨ d.forkCtx n = none) → completes (.fork n) s (fun e => memSame d e ∧
      (e.ctx n).st = .ready ∧ (e.ctx n).pc = (x.pc + 1) % 8192 ∧ (e.ctx n).children = x.children ∧ (e.ctx n).cond 6 = true ∧
      ∀ j, j ≠ n → e.ctx j = d.ctx j)) ∧
    (x.forking = true → quiet x → completes (.forkChildReady n) s (fun e => memSame d e ∧ regsSame d e [] ∧ (∀ j, j ≠ n → e.ctx j = d.ctx j) ∧
      e.ctx n = { x with forking := false, st := .ready, wait := .none, waitH := noFlow }))

/-- Waits, the end of a thread, fork and the child: `seqWaitsAndEndSays`, `forkAndChildSays`. -/
def Obligations.ThreadLife : Prop := seqWaitsAndEndSays ∧ forkAndChildSays

/-- R186, R187: dispatch gives the head of the cluster's queue to the lowest free context of the chosen engine. A packet without a record starts at the PC of its flow status; one whose record is cached and free takes it and starts at 0, or at 1 if it is new. -/
def Sys2Proof.Machine.dispatchSays : Prop :=
  ∀ (s : State) (c g : Nat) (k : Pkt) (ks : List Pkt),
    let d := s.dev
    let m := d.lowestFree g
    let sl := m / 512
    c < 64 → sget d.eng.dq c [] = k :: ks → d.canDispatch c = true → d.chooseEngine c = some g → k.miss = none →
    (2 ≤ k.status → k.recheck = false → completes (.dispatch c) s (fun e => memSame d e ∧ sget e.eng.dq c [] = ks ∧
      (e.ctx m).st = .ready ∧ (e.ctx m).pc = k.status ∧ (e.ctx m).pkt = some { k with stage := .thread } ∧ (e.ctx m).epoch = k.epoch ∧
      (e.ctx m).key = k.key ∧ (∀ r, (e.ctx m).p r = 0) ∧ (e.ctx m).txe = (d.ctx m).txe ∧ (∀ j, j ≠ m → e.ctx j = d.ctx j))) ∧
    (∀ l, k.status ≤ 1 → k.recheck = false → d.goneStatus sl k.handle = none → readable d sl k.handle l → d.holder sl k.handle = none →
      d.recWaiter sl k.handle = none → (d.ctx m).held = none → completes (.dispatch c) s (fun e => memSame d e ∧ sget e.eng.dq c [] = ks ∧
      (e.ctx m).st = .ready ∧ (e.ctx m).pc = k.status ∧ (e.ctx m).held = some ⟨l.handle, lineNow l, l.ver, false⟩))

/-- R188: a released packet leaves its cluster's order, for the switch core, once no earlier packet of its flow is before it. -/
def Sys2Proof.Machine.flowOrderSays : Prop :=
  ∀ (s : State) (c id : Nat) (k : Pkt), c < 64 → s.dev.clusterOn c = true → s.dev.ordReady c id = some k →
    completes (.flowOrderRelease c id) s (fun e => memSame s.dev e ∧ regsSame s.dev e [] ∧
      e.swc.adms = s.dev.swc.adms ++ [admOf k] ∧ e.ordOf c = (s.dev.ordOf c).filter (fun o => o.id != id) ∧ ∀ m, e.ctx m = s.dev.ctx m)

/-- Dispatch of packets to contexts and the order of packets of one flow: `dispatchSays`, `flowOrderSays`. -/
def Obligations.DispatchAndOrder : Prop := dispatchSays ∧ flowOrderSays

/-- The thread holds no record and no channel and has no parent. -/
def Sys2Proof.Machine.alone (x : Ctx) : Prop := x.held = none ∧ x.chan = none ∧ x.parent = 0

/-- R201: a worker's fault goes to its keeper's queue. R204: where there is no keeper to take it, DROP is applied and the record goes to ENG.FAULT_HOST with an event; a keeper's own fault goes there too. R203: a record that waits too long is dropped with its thread. R199: a thread whose timer runs out faults with TIMEOUT. -/
def Sys2Proof.Machine.faultHandlingSays : Prop :=
  ∀ (s : State) (n : Nat),
    let d := s.dev
    let x := d.ctx n
    let c := n / 64
    let k := d.ctx (n / 8 * 8)
    n < 4096 →
    (x.st = .faulted → x.delivered = false → d.isKeeper n = false → d.keeperEn (n / 8) = true → k.st = .ready → (d.kqOf (n / 8)).length < 16 →
      completes (.faultDelivery n) s (fun e => memSame d e ∧ (∀ m, m ≠ n → e.ctx m = d.ctx m) ∧ e.ctx n = { x with delivered := true, faultAge := 0 } ∧
        e.kqOf (n / 8) = d.kqOf (n / 8) ++ [x.fault])) ∧
    (x.st = .faulted → x.delivered = false → d.isKeeper n = false → d.keeperEn (n / 8) = false → alone x →
      completes (.faultDelivery n) s (fun e => e.ctx n = { txe := x.txe } ∧ raised e (EV_ENG_FAULT (n / 512)) ∧
        e.is (ENG.FAULT_HOST.VALID c (n / 8 % 8)) = true ∧ e.get (ENG.FAULT_HOST.CODE c (n / 8 % 8)) = bits x.fault 7 0 ∧
        e.get (ENG.FAULT_HOST.PC c (n / 8 % 8)) = bits x.fault 23 11 ∧ e.get (ENG.FAULT_HOST.DETAIL c (n / 8 % 8)) = bits x.fault 63 32)) ∧
    (x.st = .faulted → x.delivered = false → d.isKeeper n = true → completes (.faultDelivery n) s (fun e => memSame d e ∧
      (∀ m, m ≠ n → e.ctx m = d.ctx m) ∧ raised e (EV_ENG_KEEPER_FAULT (n / 512)) ∧ e.get (ENG.FAULT_HOST.CODE c (n / 8 % 8)) = bits x.fault 7 0)) ∧
    (x.st = .faulted → x.delivered = true → d.isKeeper n = false → alone x → d.get (ENG.TMO_CFG.KEEPER_TMO c) * 1000 ≤ x.faultAge →
      completes (.keeperTimeout n) s (fun e => e.ctx n = { txe := x.txe } ∧ raised e (EV_ENG_KEEPER_SLOW (n / 512)) ∧
        ∀ r ∈ e.kqOf (n / 8), bits r 10 8 ≠ n % 8)) ∧
    ((x.st = .ready ∨ x.st = .waitMem ∨ x.st = .waitEvent) → d.isKeeper n = false → d.get (ENG.TMO_CFG.THREAD_TMO c) * 1000 ≤ x.timer → x.timer < timerSpent →
      completes (.threadTimeout n) s (fun e => faults d e n 1))

/-- R198: a channel held too long is EMPTY again, and its holder's next operation will see it lost. R205, R206: the fog signal lets an idle keeper go on with FOG set; without a keeper it redirects the engine and raises an event. -/
def Sys2Proof.Machine.reclaimAndFogSays : Prop :=
  ∀ (s : State) (c i g : Nat),
    let d := s.dev
    let h := (d.chan c i).holder
    let k := d.ctx (8 * g)
    let fog := d.is (ENG.CL_CTL.FOG_EN (g / 8)) = true ∧ d.is (ENG.CL_CTL.EN (g / 8)) = true ∧ d.fogCond g = true ∧
      d.get (ENG.TMO_CFG.FOG_WINDOW (g / 8)) * 100 ≤ sget d.eng.fogQuiet g 0 ∧ sget d.eng.fogQuiet g 0 < fogSounded
    (c < 64 → i < 16 → d.clusterOn c = true → (d.chan c i).st = 1 → (d.chan c i).opens = [] → d.get (ENG.TMO_CFG.HOLD_US c) * 1000 ≤ d.tick - (d.chan c i).openAt →
      completes (.channelReclaim c i) s (fun e => memSame d e ∧ (e.chan c i).st = 0 ∧ (e.chan c i).staged = [] ∧ (∀ m, m ≠ h → e.ctx m = d.ctx m) ∧
        e.ctx h = { d.ctx h with chan := none, chanLost := true } ∧ raised e (EV_ENG_CHANNEL_RECLAIM (c / 8)))) ∧
    (g < 512 → fog → d.keeperEn g = true → k.st = .keeperIdle → quiet k → completes (.fogSignal g) s (fun e => memSame d e ∧
      (e.ctx (8 * g)).st = .ready ∧ (e.ctx (8 * g)).pc = (k.pc + 1) % 8192 ∧ (e.ctx (8 * g)).cond 0x10 = true ∧ ∀ m, m ≠ 8 * g → e.ctx m = d.ctx m)) ∧
    (g < 512 → fog → d.keeperEn g = false → completes (.fogSignal g) s (fun e => memSame d e ∧ (∀ m, e.ctx m = d.ctx m) ∧
      sget e.eng.redir g 0 = 1 ∧ raised e (EV_FOG_SIGNAL (g / 64))))

/-- Faults of a thread, what the keeper reads and does, reclaim of channels and the fog: `keeperReadsSays`, `keeperActsSays`, `faultHandlingSays`, `reclaimAndFogSays`. -/
def Obligations.KeeperAndFaults : Prop := keeperReadsSays ∧ keeperActsSays ∧ faultHandlingSays ∧ reclaimAndFogSays

/-- R200, R208, R194: host writes of a cluster's control, share and cluster registers. Setting EN starts the keepers at their entry; an inconsistent share configuration is ignored whole; a cluster register that meets a WAITC lets that thread go on. -/
def Sys2Proof.Machine.clusterRegistersSays : Prop :=
  ∀ (s : State) (c v i n : Nat) (u : Cur),
    let d := s.dev
    let x := d.ctx n
    let r := ENG.CREG.W c i
    let bad := bits v 13 8 < bits v 5 1 ∨ bits v 29 24 < bits v 18 16 ∨ 16 < bits v 5 1 ∨ 4 < bits v 18 16 ∨ bits v 13 8 = 0 ∨ bits v 29 24 = 0
    c < 64 → i < 64 →
    (d.reaches (ENG.CL_CTL.EN c) → v < 2 ^ 32 → d.is (ENG.CL_CTL.EN c) = false → bit v 0 = true → completes (.clCtlWrite c v) s (fun e => memSame d e ∧
      e.is (ENG.CL_CTL.EN c) = true ∧ e.get (ENG.CL_CTL.KEEPER_EN c) = bits v 23 16 ∧
      ∀ g, g < 8 → bit v (16 + g) = true → d.isRetired 6 (8 * c + g) = false →
        ∃ j, e.ctx (8 * (8 * c + g)) = { txe := (d.ctx (8 * (8 * c + g))).txe, st := .ready, pc := d.get (ENG.KEEPER_ENTRY.ADDR c g), seq := j })) ∧
    (d.reaches (ENG.CL_CTL.EN c) → v < 2 ^ 32 → d.is (ENG.CL_CTL.EN c) = true → bit v 0 = false → n / 64 = c → alone x →
      (∀ m, m / 64 = c → m ≠ n → (d.ctx m).st = .free) → x.st ≠ .free → completes (.clCtlWrite c v) s (fun e =>
        e.ctx n = { txe := x.txe } ∧ sget e.eng.dq c [] = [])) ∧
    (d.reaches (ENG.SHARE_CFG.MODE c) → v < 2 ^ 32 → bad → completes (.shareCfgWrite c v) s (fun e => e = d)) ∧
    (d.reaches (ENG.SHARE_CFG.MODE c) → v < 2 ^ 32 → ¬ bad → completes (.shareCfgWrite c v) s (fun e => memSame d e ∧
      e.get (ENG.SHARE_CFG.MODE c) = bits v 0 0 ∧ e.get (ENG.SHARE_CFG.BUF_MIN c) = bits v 5 1 ∧ e.get (ENG.SHARE_CFG.BUF_MAX c) = bits v 13 8 ∧
      e.get (ENG.SHARE_CFG.TX_MIN c) = bits v 18 16 ∧ e.get (ENG.SHARE_CFG.TX_MAX c) = bits v 29 24)) ∧
    (d.reaches r → noWaitc d (64 * c) → completes (.cregWrite c i v) s (fun e => memSame d e ∧ e.get r = v % 2 ^ 64 ∧ regsSame d e [r.key] ∧
      ∀ m, e.ctx m = d.ctx m)) ∧
    (d.reaches r → n / 64 = c → (∀ m, m / 64 = c → m ≠ n → (d.ctx m).wait ≠ .creg) → x.wait = .creg → x.cur = some u → uOFF u.word % 64 = i →
      waitcTest (uSIZE u.word) (v % 2 ^ 64) (uIMM u.word) = true → quiet x → completes (.cregWrite c i v) s (fun e =>
        (e.ctx n).st = .ready ∧ (e.ctx n).pc = (x.pc + 1) % 8192 ∧ (e.ctx n).cur = none ∧ e.get r = v % 2 ^ 64))

-- Host accesses, fences, locks (spec/00 R7, R8; spec/02 R31; spec/15 R362 to R367).

/-- R7, R8: what a write does to one field: RW takes a value that it accepts, RWL only while GLB.LOCK is 0, W1C clears and W1S sets the bits written 1, the others ignore the write; no other field changes. -/
def Sys2Proof.Machine.fieldWritesSays : Prop :=
  ∀ (d : Dev) (a v : Nat) (f : FldL),
    let g := f.at a
    let x := bits v (f.lo + f.w - 1) f.lo
    let e := d.fldWrite a f v
    1 ≤ f.w →
    (f.acc = .rw → f.rule.ok x = true → e.get g = x) ∧ (f.acc = .rw → f.rule.ok x = false → e = d) ∧
    (f.acc = .rwl → d.is GLB.LOCK.LOCK = false → f.rule.ok x = true → e.get g = x) ∧ (f.acc = .rwl → d.is GLB.LOCK.LOCK = true → e = d) ∧
    (f.acc = .w1c → ∀ i, i < f.w → bit (e.get g) i = (bit (d.get g) i && !bit x i)) ∧
    (f.acc = .w1s → ∀ i, i < f.w → bit (e.get g) i = (bit (d.get g) i || bit x i)) ∧
    ((f.acc = .ro ∨ f.acc = .wo ∨ f.acc = .rc) → e = d) ∧ memSame d e ∧ regsSame d e [g.key]

/-- What a host write of `v` to the whole register `r` at `a` leaves in its fields, by their types (R7, R8). -/
def Sys2Proof.Machine.fieldsTake (d e : Dev) (a v : Nat) (r : RegFam) : Prop :=
  ∀ f ∈ r.flds, let g := f.at a
    let x := bits v (f.lo + f.w - 1) f.lo
    (f.acc = .rw → e.get g = if f.rule.ok x = true then x else d.get g) ∧
    (f.acc = .rwl → e.get g = if d.is GLB.LOCK.LOCK = false ∧ f.rule.ok x = true then x else d.get g) ∧
    (f.acc = .w1c → ∀ i, i < f.w → bit (e.get g) i = (bit (d.get g) i && !bit x i)) ∧
    (f.acc = .w1s → ∀ i, i < f.w → bit (e.get g) i = (bit (d.get g) i || bit x i)) ∧
    (f.acc = .ro → e.get g = d.get g)

/-- Registers outside the switch core that hold a field of type W1C or W1S and have no other effect when they are written: host errors, the locks, the event bits, the time reference, lane limits and margins, link changes, the error flags of parser, classifier and forwarding, the bandwidth flags, and the errors of HBM. -/
def Sys2Proof.Machine.flagRegs : List Nat :=
  [0x20, 0x40, 0x240, 0x100010] ++ (List.range 32).map (fun i => 0x400 + 4 * i) ++ (List.range 4).map (fun i => 0x600100 + 0x40000 * i) ++
  (List.range 8).flatMap (fun i => [0x1000050, 0x1000054, 0x1000058, 0x1080020, 0x1100000, 0x1180000, 0x1380800].map (fun a => a + 0x400000 * i))

/-- R362: a whole write of a 4- or 8-byte register of a switch block writes its fields, each by its type; memory is as before, and so are other registers, but that an ingress group follows its new levels at once (R292). R7, R8: the same of the registers that hold flags, whose bits of type W1C a 1 clears and of type W1S a 1 sets. -/
def Sys2Proof.Machine.hostRegisterWritesSays : Prop :=
  ∀ (s : State) (sl o : Nat) (bs : List Byte) (r : RegFam),
    let d := s.dev
    let a := 0x1300000 + 0x400000 * sl + o
    let put := fun (f : FldL) => bits (leNat bs) (f.lo + f.w - 1) f.lo
    (sl < 8 → o < 0x80000 → (r.bytes = 4 ∨ r.bytes = 8) → findReg allLayout a = some (a, r) → a % r.bytes = 0 → bs.length = r.bytes →
    (r.flds.map (fun f => f.lo)).Nodup → (∀ f ∈ r.flds, 1 ≤ f.w) → d.held = false → d.bar0Err a = none →
    completes (.hostRegisterWrite a bs) s (fun e => memSame d e ∧
      ((o < 0x9000 ∨ 0xA100 ≤ o) → regsSame d e (r.flds.map (fun f => (f.at a).key)) ∧ fieldsTake d e a (leNat bs) r) ∧
      ∀ f ∈ r.flds, (f.acc = .rw → f.rule.ok (put f) = true → e.get (f.at a) = put f) ∧ (f.acc = .ro → e.get (f.at a) = d.get (f.at a)) ∧
        (f.acc = .rwl → d.is GLB.LOCK.LOCK = true → e.get (f.at a) = d.get (f.at a)))) ∧
    (∀ b, b ∈ flagRegs → findReg allLayout b = some (b, r) → bs.length = r.bytes → d.held = false → d.bar0Err b = none →
      completes (.hostRegisterWrite b bs) s (fun e => memSame d e ∧ regsSame d e (r.flds.map (fun f => (f.at b).key)) ∧ fieldsTake d e b (leNat bs) r))

/-- Writes of cluster registers and of host registers, by the access type of each field: `clusterRegistersSays`, `fieldWritesSays`, `hostRegisterWritesSays`. -/
def Obligations.RegisterWrites : Prop := clusterRegistersSays ∧ fieldWritesSays ∧ hostRegisterWritesSays

/-- The registers that a host access error writes (Table 15.4). -/
def Sys2Proof.Machine.hostErrKeys (f : Fld) : List Nat :=
  [f.key, GLB.HOST_ERR_ADDR.BAR.key, GLB.HOST_ERR_ADDR.ADDR.key, (GLB.EVT_STAT.STAT (EV_HOST_ACCESS_ERR / 16)).key]

/-- An access error is recorded with its address. -/
def Sys2Proof.Machine.errNoted (d e : Dev) (f : Fld) (bar a : Nat) : Prop :=
  e.is f = true ∧ e.get GLB.HOST_ERR_ADDR.BAR = bar ∧ e.get GLB.HOST_ERR_ADDR.ADDR = a ∧ memSame d e ∧ regsSame d e (hostErrKeys f)

/-- R362, R364, R365: a request of a size that BAR0 does not take, an access to an address that no register implements and a read that is not answered are discarded and recorded; a read of them completes with all ones. The response timer of a read is 20 µs, to which the time of a retry of the access is added, and 80 µs at most; a read that is answered in time gives the register or the 64-bit word, but one that meets a word that cannot be corrected, or whose die-to-die link is down, fails (log entry 111, Table 17.3). R367: a reset of the endpoint changes nothing else, and no access arrives until its BARs are restored. -/
def Sys2Proof.Machine.hostAccessErrorsSays : Prop :=
  ∀ (s : State) (rd full : Bool) (bar a n t : Nat),
    let d := s.dev
    let ones := fun (e : Dev) => rd = true → e.host.hostData = [2 ^ (8 * n) - 1]
    let late := fun (b k : Nat) => 20000 + d.readSusp b a k t ≤ t ∨ 80000 ≤ t
    let timedOut := fun (e : Dev) (b : Nat) => e.is GLB.HOST_ERR.RD_TMO = true ∧ e.get GLB.HOST_ERR_ADDR.BAR = b ∧ e.get GLB.HOST_ERR_ADDR.ADDR = a ∧
      raised e EV_HOST_ACCESS_ERR ∧ memSame d e
    let answers := fun (b k : Nat) => readFits b a k = true ∧ d.spanErr b a k = none ∧ ¬ (d.readHalf b a = 1 ∧ d.linkGone = true) ∧ ¬ late b k
    d.held = false → a < (if bar = 0 then 0x4000000 else 0x40000000) →
    (bar = 0 → (bar0Ok a n = false ∨ full = false) → completes (.hostBadAccess rd a n full) s (fun e => errNoted d e GLB.HOST_ERR.BAD_SIZE 0 a ∧ ones e)) ∧
    (bar = 0 → d.get GLB.BOOT_STAT.STATE = 6 → 0x3400000 ≤ a → completes (.hostUnmappedAccess rd 0 a n) s (fun e =>
      errNoted d e GLB.HOST_ERR.UNMAPPED 0 a ∧ raised e EV_HOST_ACCESS_ERR ∧ ones e)) ∧
    (bar < 2 → readFits bar a n = true → d.spanErr bar a n = none → (∀ w ∈ d.bar2Span a n, bar = 1 → d.badAt w = 0) →
      (d.readHalf bar a = 1 ∧ d.linkGone = true ∨ late bar n) → completes (.hostReadTimeout bar a (n, t)) s (fun e =>
        timedOut e bar ∧ e.host.hostData = [2 ^ (8 * n) - 1])) ∧
    (bar = 0 → answers 0 4 → a ≠ TMU.TOD_NS.NS.key / 32 * 4 → completes (.hostReadTimeout 0 a (4, t)) s (fun e => memSame d e ∧ e.host.hostData = [d.read4 a])) ∧
    (bar = 1 → a % 8 = 0 → answers 1 8 → d.badAt (d.winAddr a) = 0 → d.areaWaits (d.winAddr a) 8 = false →
      completes (.hostReadTimeout 1 a (8, t)) s (fun e => e = { d with host.hostData := [d.see64 (d.winAddr a) % 2 ^ 64] })) ∧
    completes .pcieReset s (fun e => e = { d with host.hostData := [], host.pcie := .reset } ∧ e.held = true) ∧
    (bar = 1 → a % 8 = 0 → answers 1 8 → d.flowBytes (d.winAddr a / 0x1000000000) ≤ d.winAddr a % 0x1000000000 → 0xA00000000 ≤ d.winAddr a % 0x1000000000 →
      d.winAddr a < 0x2000000000 → 2 ≤ d.badAt (d.winAddr a) →
      completes (.hostReadTimeout 1 a (8, t)) s (fun e => timedOut e 1 ∧ e.host.hostData = [2 ^ 64 - 1])) ∧
    (∀ f o, bar < 2 → readFits bar a n = true → d.spanErr bar a n = some (f, o) → f ≠ GLB.HOST_ERR.BOOT_DROP →
      completes (.hostReadTimeout bar a (n, t)) s (fun e => errNoted d e f bar o ∧ e.host.hostData = [2 ^ (8 * n) - 1]))

/-- R363, R368, R435: an aligned 8-byte BAR2 write reaches the HBM word that the window gives; a word of a range that the device manages is not written, and the access is recorded with its BAR2 offset (R364). R403: a write to a row under repair waits for the repair (log entry 130). -/
def Sys2Proof.Machine.bar2WritesSays : Prop :=
  ∀ (s : State) (o : Nat) (bs : List Byte),
    let d := s.dev
    let a := d.winAddr o
    d.held = false → o < 0x40000000 → o % 8 = 0 → bs.length = 8 → a < 0x4000000000 → d.bar2Err a = none →
    (d.hostProtected a = false → d.areaWaits a 8 = false → completes (.bar2Write o bs) s (fun e => stored8 d e a (leNat bs) ∧ regsSame d e [])) ∧
    (d.hostProtected a = true → completes (.bar2Write o bs) s (fun e => e.is GLB.HOST_ERR.UNMAPPED = true ∧ raised e EV_HOST_ACCESS_ERR ∧
      e.get GLB.HOST_ERR_ADDR.BAR = 1 ∧ e.get GLB.HOST_ERR_ADDR.ADDR = o ∧ memSame d e ∧ regsSame d e (hostErrKeys GLB.HOST_ERR.UNMAPPED))) ∧
    (d.hostProtected a = false → d.areaWaits a 8 = true → completes (.bar2Write o bs) s (fun e => memSame d e ∧ regsSame d e [] ∧
      ∃ b, leNat b = leNat bs ∧ e.flt.posted = d.flt.posted ++ [⟨a, false, b, 0⟩]))

/-- R31: a write of GLB.HOST_FENCE starts a fence with its token, and GLB.FENCE_DONE shows the token when it completes; while a lower layer retries it waits, for 60 µs at most (R33, R409). R8, R235: the locks are set by writing 1, and a write of 0 leaves them. -/
def Sys2Proof.Machine.fencesAndLocksSays : Prop :=
  ∀ (s : State) (t v : Nat),
    let d := s.dev
    (d.reaches GLB.HOST_FENCE.TOKEN → t < 2 ^ 16 → completes (.hostFenceWrite t) s (fun e => e.get GLB.HOST_FENCE.TOKEN = t ∧
      e.is GLB.FENCE_DONE.PEND = true ∧ e.ep.fenceAt = d.tick ∧ memSame d e ∧ regsSame d e [GLB.HOST_FENCE.TOKEN.key, GLB.FENCE_DONE.PEND.key])) ∧
    (d.is GLB.FENCE_DONE.PEND = true → ((d.hbmRetrying 0 = false ∧ d.hbmRetrying 1 = false ∧ d.d2dRetrying = false) ∨ d.ep.fenceAt + 60000 ≤ d.tick) → d.get GLB.HOST_FENCE.TOKEN < 2 ^ 16 → completes .hostFenceComplete s (fun e =>
      e.get GLB.FENCE_DONE.TOKEN = d.get GLB.HOST_FENCE.TOKEN ∧ e.is GLB.FENCE_DONE.PEND = false ∧ memSame d e ∧
      regsSame d e [GLB.FENCE_DONE.TOKEN.key, GLB.FENCE_DONE.PEND.key])) ∧
    (d.reaches GLB.LOCK.LOCK → completes (.lockWrite v) s (fun e => memSame d e ∧ regsSame d e [GLB.LOCK.LOCK.key] ∧
      (v % 2 = 1 → e.is GLB.LOCK.LOCK = true) ∧ (v % 2 = 0 → e = d))) ∧
    (d.reaches GLB.PATCH_LOCK.LOCK → completes (.patchLockWrite v) s (fun e => memSame d e ∧ regsSame d e [GLB.PATCH_LOCK.LOCK.key] ∧
      (v % 2 = 1 → e.is GLB.PATCH_LOCK.LOCK = true) ∧ (v % 2 = 0 → e = d)))

/-- Host accesses that fail, BAR2 writes, host fences and locks: `hostAccessErrorsSays`, `bar2WritesSays`, `fencesAndLocksSays`. -/
def Obligations.HostAccess : Prop := hostAccessErrorsSays ∧ bar2WritesSays ∧ fencesAndLocksSays

-- Partitions and epochs (spec/02 R41 to R44).

/-- R42, R354: a write of ARM arms the partition; it is refused while RETIRING is 1, and where the ownership check fails, with GLB.OWN_ERR showing why. -/
def Sys2Proof.Machine.partArmSays : Prop :=
  ∀ (s : State) (n v : Nat),
    let d := s.dev
    let fault := d.ownFault n (1 - d.get (GLB.PART_CTL.ACTIVE n))
    n < 105 → d.reaches (GLB.PART_CTL.ACTIVE n) → ¬ (d.is GLB.EPOCH_STAT.ADV_BUSY = true ∧ d.ep.advPart = some n) →
    (d.is (GLB.PART_CTL.RETIRING n) = false → fault = none → completes (.partArm n v) s (fun e => memSame d e ∧
      e.is (GLB.PART_CTL.ARM n) = true ∧ regsSame d e [(GLB.PART_CTL.ARM n).key, (GLB.PART_CTL.WRITE_REFUSED n).key, (GLB.PART_CTL.ARM_REFUSED n).key])) ∧
    (d.is (GLB.PART_CTL.RETIRING n) = true → completes (.partArm n v) s (fun e => memSame d e ∧ e.is (GLB.PART_CTL.ARM_REFUSED n) = true ∧
      regsSame d e [(GLB.PART_CTL.WRITE_REFUSED n).key, (GLB.PART_CTL.ARM_REFUSED n).key])) ∧
    (∀ c x, d.is (GLB.PART_CTL.RETIRING n) = false → fault = some (c, x) → completes (.partArm n v) s (fun e => memSame d e ∧
      e.is (GLB.PART_CTL.ARM n) = false ∧ e.is (GLB.PART_CTL.ARM_REFUSED n) = true ∧ e.get GLB.OWN_ERR.CODE = c ∧ e.get GLB.OWN_ERR.PARTITION = n ∧
      e.is GLB.OWN_ERR.VALID = true ∧ raised e EV_OWN_REFUSED))

/-- R43: an advance starts where none is in progress, at most one partition is armed and the next epoch is not live, else it is refused; the stamp, which waits while a lower layer retries (R33, R409), makes the next epoch current and switches the armed partition to its staged set. R51: where that changes an octet's port mode, the ports of the old mode go down and their queued frames are to be discarded, and those of the new mode start bring-up. R44: a retired set is free once no older epoch is in flight, and a slow drain is reported once. -/
def Sys2Proof.Machine.epochAdvanceSays : Prop :=
  ∀ (s : State) (n : Nat),
    let d := s.dev
    let next := (d.get GLB.EPOCH_CUR.CUR + 1) % 8
    let settled := ((d.hbmRetrying 0 = false ∧ d.hbmRetrying 1 = false ∧ d.d2dRetrying = false) ∨ d.ep.advAt + 60000 ≤ d.tick)
    let may := d.is GLB.EPOCH_STAT.ADV_BUSY = false ∧ d.armed.length ≤ 1 ∧ d.epochLive next = false
    n < 105 →
    (d.reaches GLB.EPOCH_ADV.GO → may → completes .epochAdvGo s (fun e => memSame d e ∧ e.is GLB.EPOCH_STAT.ADV_BUSY = true ∧
      e.ep.advPart = d.armed.head? ∧ e.ep.advAt = d.tick ∧ regsSame d e [GLB.EPOCH_STAT.ADV_BUSY.key])) ∧
    (d.reaches GLB.EPOCH_ADV.GO → ¬ may → completes .epochAdvGo s (fun e => memSame d e ∧ e.is GLB.EPOCH_STAT.ADV_REFUSED = true ∧
      raised e EV_EPOCH_ADV_REFUSED ∧ e.get GLB.EPOCH_STAT.ADV_BUSY = d.get GLB.EPOCH_STAT.ADV_BUSY)) ∧
    (d.is GLB.EPOCH_STAT.ADV_BUSY = true → settled → d.ep.advPart = none → completes .epochStamp s (fun e => memSame d e ∧ e.get GLB.EPOCH_CUR.CUR = next ∧
      e.is GLB.EPOCH_STAT.ADV_BUSY = false ∧ regsSame d e [GLB.EPOCH_CUR.CUR.key, GLB.EPOCH_STAT.ADV_BUSY.key])) ∧
    (d.is GLB.EPOCH_STAT.ADV_BUSY = true → settled → d.ep.advPart = some n → (n < 72 ∨ n = 104) → d.ownFault n (1 - d.get (GLB.PART_CTL.ACTIVE n)) = none →
      completes .epochStamp s (fun e => memSame d e ∧ e.get GLB.EPOCH_CUR.CUR = next ∧ e.is GLB.EPOCH_STAT.ADV_BUSY = false ∧
        e.get (GLB.PART_CTL.ACTIVE n) = 1 - d.get (GLB.PART_CTL.ACTIVE n) ∧ e.get (GLB.PART_CTL.SWITCH_EPOCH n) = next ∧
        e.is (GLB.PART_CTL.RETIRING n) = true ∧ e.is (GLB.PART_CTL.ARM n) = false)) ∧
    (d.is (GLB.PART_CTL.RETIRING n) = true → d.age d.oldest ≤ d.age (d.get (GLB.PART_CTL.SWITCH_EPOCH n)) → completes (.epochRetire n) s (fun e =>
      memSame d e ∧ e.is (GLB.PART_CTL.RETIRING n) = false ∧ regsSame d e [(GLB.PART_CTL.RETIRING n).key])) ∧
    (d.get GLB.EPOCH_CFG.DRAIN_WARN ≠ 0 → d.get GLB.EPOCH_CFG.DRAIN_WARN ≤ d.oldestAge → bit d.ep.drainWarned d.oldest = false →
      completes .epochDrainWarn s (fun e => memSame d e ∧ raised e EV_EPOCH_DRAIN_SLOW ∧ bit e.ep.drainWarned d.oldest = true)) ∧
    (d.is GLB.EPOCH_STAT.ADV_BUSY = true → settled → d.ep.advPart = some n → 72 ≤ n → n < 104 → let o := n - 72
      let new := d.get (octetModeF o (1 - d.get (GLB.PART_CTL.ACTIVE n)))
      completes .epochStamp s (fun e => e.get GLB.EPOCH_CUR.CUR = next ∧ e.is GLB.EPOCH_STAT.ADV_BUSY = false ∧
        e.get (GLB.PART_CTL.ACTIVE n) = 1 - d.get (GLB.PART_CTL.ACTIVE n) ∧ e.get (GLB.PART_CTL.SWITCH_EPOCH n) = next ∧
        e.is (GLB.PART_CTL.RETIRING n) = true ∧ e.is (GLB.PART_CTL.ARM n) = false ∧ e.octetMode o = new ∧
        (new = d.octetMode o → e.mac = d.mac ∧ e.swc = d.swc) ∧
        (new ≠ d.octetMode o → (∀ p ∈ octetPorts o (d.octetMode o), e.is (MAC.PORT_STAT.LINK p) = false ∧
            ((∀ p' ∈ octetPorts o (d.octetMode o), sget d.mac.tx p' none = none) → ∀ q, q < 16 → ∀ x ∈ (e.queue p q).ents, x.flush = true) ∧ (p ∉ octetPorts o new → e.bringAt p = 0) ∧
            (d.is (MAC.PORT_STAT.LINK p) = true → bit (e.get (MAC.LINK_CHG.BITS (p / 32))) (p % 32) = true ∧ raised e (EV_LINK_CHANGE (p / 32)) ∧
              sget e.mac.tx p none = none)) ∧
          ∀ p ∈ octetPorts o new, e.bringAt p = if e.canBring p then 2 else 0)))

/-- Arming of partitions, the epoch advance and retirement: `partArmSays`, `epochAdvanceSays`. -/
def Obligations.PartitionsAndEpochs : Prop := partArmSays ∧ epochAdvanceSays

-- Ports and links (spec/03 R47 to R61).

/-- R47, R50, R41: a write of an octet's mode field in RUNNING reaches the staged set alone, takes the values 0 to 7, and is refused while that set is retiring. -/
def Sys2Proof.Machine.octetModeWriteSays : Prop :=
  ∀ (s : State) (sl k v : Nat),
    let d := s.dev
    let n := 72 + (4 * sl + k)
    let st := octetModeF (4 * sl + k) (1 - d.get (GLB.PART_CTL.ACTIVE n))
    let x := if d.get (GLB.PART_CTL.ACTIVE n) = 0 then bits v 7 4 else bits v 3 0
    sl < 8 → k < 4 → d.get (GLB.PART_CTL.ACTIVE n) ≤ 1 → d.gateOpen = true → d.reaches (MAC.OCTET_MODE.MODE_0 sl k) →
    (d.is (GLB.PART_CTL.RETIRING n) = false → x ≤ 7 → completes (.octetModeWrite sl k v) s (fun e => memSame d e ∧ e.get st = x ∧ regsSame d e [st.key])) ∧
    (7 < x → completes (.octetModeWrite sl k v) s (fun e => e = d)) ∧
    (d.is (GLB.PART_CTL.RETIRING n) = true → x ≤ 7 → completes (.octetModeWrite sl k v) s (fun e => memSame d e ∧ e.get st = d.get st ∧
      e.is (GLB.PART_CTL.WRITE_REFUSED n) = true ∧ raised e EV_PART_WRITE_REFUSED))

/-- R53: a lane map is written only while GLB.LOCK is 0 and its octet is off, and a lane swap only with a permutation; the polarity takes any value; a refusal raises EV_LANE_MAP_REFUSED, and while GLB.LOCK is 1 a write changes and raises nothing (log entry 113). -/
def Sys2Proof.Machine.laneMapWriteSays : Prop :=
  ∀ (s : State) (sl k v : Nat),
    let d := s.dev
    let rx := MAC.LANE_SWAP_RX.RX_SEL sl k
    let tx := MAC.LANE_SWAP_TX.TX_SEL sl k
    let inv := MAC.LANE_POL.RX_INV sl k
    let txInv := MAC.LANE_POL.TX_INV sl k
    let refused := fun (e : Dev) => memSame d e ∧ e.get rx = d.get rx ∧ e.get tx = d.get tx ∧ e.get inv = d.get inv ∧ e.get txInv = d.get txInv ∧
      raised e (EV_LANE_MAP_REFUSED sl)
    sl < 8 → k < 4 → v < 2 ^ 24 → d.reaches rx → d.reaches tx → d.reaches inv →
    (d.is GLB.LOCK.LOCK = true → completes (.laneMapWrite sl k 0 v) s (fun e => e = d) ∧ completes (.laneMapWrite sl k 1 v) s (fun e => e = d) ∧
      completes (.laneMapWrite sl k 2 v) s (fun e => e = d)) ∧
    (d.is GLB.LOCK.LOCK = false → d.octetMode (4 * sl + k) = 0 → isPerm v = true →
      completes (.laneMapWrite sl k 0 v) s (fun e => memSame d e ∧ e.get rx = v ∧ regsSame d e [rx.key]) ∧
      completes (.laneMapWrite sl k 1 v) s (fun e => memSame d e ∧ e.get tx = v ∧ regsSame d e [tx.key])) ∧
    (d.is GLB.LOCK.LOCK = false → (d.octetMode (4 * sl + k) ≠ 0 ∨ isPerm v = false) →
      completes (.laneMapWrite sl k 0 v) s refused ∧ completes (.laneMapWrite sl k 1 v) s refused) ∧
    (d.is GLB.LOCK.LOCK = false → d.octetMode (4 * sl + k) = 0 → completes (.laneMapWrite sl k 2 v) s (fun e => memSame d e ∧
      e.get inv = bits v 7 0 ∧ e.get txInv = bits v 15 8 ∧ regsSame d e [inv.key, txInv.key])) ∧
    (d.is GLB.LOCK.LOCK = false → d.octetMode (4 * sl + k) ≠ 0 → completes (.laneMapWrite sl k 2 v) s refused)

/-- R60, R72: host writes of a port's and the management port's configuration; a MAX_FRAME outside 64 to 9,600 keeps the old one, MODE 3 keeps the old mode, and enabling reception starts the bring-up at step 2 of Table 3.5. R456: so does a change of the management port's mode, which first takes its link down, where that is up (R56). -/
def Sys2Proof.Machine.portConfigSays : Prop :=
  ∀ (s : State) (p v : Nat),
    let d := s.dev
    p < 265 →
    (d.reaches (MAC.PORT_CFG.MAX_FRAME p) → d.is (MAC.PORT_CFG.RX_EN p) = false → completes (.portCfgWrite p v) s (fun e => memSame d e ∧
      e.get (MAC.PORT_CFG.TX_EN p) = bits v 20 20 ∧ e.get (MAC.PORT_CFG.RX_EN p) = bits v 19 19 ∧ e.get (MAC.PORT_CFG.LT_EN p) = bits v 18 18 ∧
      e.get (MAC.PORT_CFG.AN_EN p) = bits v 17 17 ∧ e.get (MAC.PORT_CFG.PAUSE_MODE p) = bits v 16 15 ∧ e.get (MAC.PORT_CFG.TS_MDI p) = bits v 14 14 ∧
      e.get (MAC.PORT_CFG.MAX_FRAME p) = (if 64 ≤ bits v 13 0 ∧ bits v 13 0 ≤ 9600 then bits v 13 0 else d.get (MAC.PORT_CFG.MAX_FRAME p)) ∧
      (bit v 19 = true → e.bringAt p = if e.canBring p then 2 else 0) ∧ (bit v 19 = false → e.bringAt p = d.bringAt p))) ∧
    (d.reaches GLB.MGT_CFG.MODE → v % 4 ≠ 3 → v % 4 ≠ d.get GLB.MGT_CFG.MODE → d.is (MAC.PORT_STAT.LINK 256) = false →
      completes (.mgtCfgWrite v) s (fun e => memSame d e ∧ e.get GLB.MGT_CFG.MODE = v % 4 ∧ e.get GLB.MGT_CFG.WAKE_EN = bits v 2 2 ∧
        e.bringAt 256 = if e.canBring 256 then 2 else 0)) ∧
    (d.reaches GLB.MGT_CFG.MODE → (v % 4 = 3 ∨ v % 4 = d.get GLB.MGT_CFG.MODE) → completes (.mgtCfgWrite v) s (fun e => memSame d e ∧
      e.get GLB.MGT_CFG.MODE = d.get GLB.MGT_CFG.MODE ∧ e.get GLB.MGT_CFG.WAKE_EN = bits v 2 2 ∧ e.bringAt 256 = d.bringAt 256)) ∧
    (d.reaches GLB.MGT_CFG.MODE → v % 4 ≠ 3 → v % 4 ≠ d.get GLB.MGT_CFG.MODE → d.is (MAC.PORT_STAT.LINK 256) = true →
      completes (.mgtCfgWrite v) s (fun e => e.get GLB.MGT_CFG.MODE = v % 4 ∧ e.is (MAC.PORT_STAT.LINK 256) = false ∧ e.is GLB.MGT_CFG.LINK = false ∧
        e.is GLB.MGT_CFG.LINK_CHG = true ∧ raised e EV_MGT_LINK_CHANGE ∧ sget e.mac.tx 256 none = none ∧
        (d.get (SWC.PORT_CFG.DOWN_HOLD 256) ≠ 0 → e.is (SWC.PORT_STAT.HOLDING 256) = true) ∧ e.bringAt 256 = if e.canBring 256 then 2 else 0))

/-- Octet modes, lane maps, port and management port configuration: `octetModeWriteSays`, `laneMapWriteSays`, `portConfigSays`. -/
def Obligations.PortConfiguration : Prop := octetModeWriteSays ∧ laneMapWriteSays ∧ portConfigSays

/-- R55: a port comes up by the steps of Table 3.5 in order: PLL lock, signal, auto-negotiation, link training where they are enabled, adaptation, alignment; link training leaves each lane of the port a transmit equaliser setting (which one is open); then LINK and LINK_CHG are 1 and EV_LINK_CHANGE is raised. -/
def Sys2Proof.Machine.linkBringUpSays : Prop :=
  ∀ (s : State) (o p k : Nat) (coefs : List (List Int)),
    let d := s.dev
    p < 256 →
    (o < 32 → p / 8 = o → d.bringAt p = 2 → completes (.pllLock o) s (fun e => memSame d e ∧ regsSame d e [] ∧ e.bringAt p = 3 ∧
      ∀ q, d.bringAt q ≠ 2 → e.bringAt q = d.bringAt q)) ∧
    (d.bringAt 256 = 2 → completes (.pllLock 32) s (fun e => memSame d e ∧ regsSame d e [] ∧ e.bringAt 256 = 3 ∧ ∀ q, q ≠ 256 → e.bringAt q = d.bringAt q)) ∧
    (d.bringAt p = 3 → completes (.signalDetect p) s (fun e => memSame d e ∧ regsSame d e [] ∧
      e.bringAt p = if d.is (MAC.PORT_CFG.AN_EN p) then 4 else if d.is (MAC.PORT_CFG.LT_EN p) then 5 else 6)) ∧
    (d.bringAt p = 4 → completes (.anComplete p) s (fun e => memSame d e ∧ regsSame d e [(MAC.PORT_STAT.AN_DONE p).key] ∧
      e.is (MAC.PORT_STAT.AN_DONE p) = true ∧ e.bringAt p = if d.is (MAC.PORT_CFG.LT_EN p) then 5 else 6)) ∧
    (d.bringAt p = 5 → completes (.ltComplete p) s (fun e => memSame d e ∧ regsSame d e [(MAC.PORT_STAT.LT_DONE p).key] ∧
      e.is (MAC.PORT_STAT.LT_DONE p) = true ∧ e.bringAt p = 6 ∧ ∀ l, l ∉ d.lanesOf p → sget e.mac.txEq l 0 = sget d.mac.txEq l 0)) ∧
    (d.bringAt p = 6 → completes (.rxAdaptDone p coefs) s (fun e => memSame d e ∧ regsSame d e [] ∧ e.bringAt p = 7)) ∧
    (d.bringAt p = 7 → completes (.pcsAlignDone p k) s (fun e => memSame d e ∧ e.bringAt p = 8 ∧ e.is (MAC.PORT_STAT.LINK p) = true ∧
      e.is (MAC.PORT_STAT.PCS_LOCK p) = true ∧ bit (e.get (MAC.LINK_CHG.BITS (p / 32))) (p % 32) = true ∧ raised e (EV_LINK_CHANGE (p / 32)) ∧
      e.is (SWC.PORT_STAT.HOLDING p) = false))

/-- R56, R311: a link that loses its PCS lock, or whose lane has lost its signal for more than 1 µs, is down: LINK and PCS_LOCK are 0, the event is raised, its queued frames are held, and bring-up starts again at step 3 where it may. -/
def Sys2Proof.Machine.linkLossSays : Prop :=
  ∀ (s : State) (l p ns : Nat),
    let d := s.dev
    let down := fun (e : Dev) => e.is (MAC.PORT_STAT.LINK p) = false ∧ e.is (MAC.PORT_STAT.PCS_LOCK p) = false ∧
      bit (e.get (MAC.LINK_CHG.BITS (p / 32))) (p % 32) = true ∧ raised e (EV_LINK_CHANGE (p / 32)) ∧ e.is (SWC.PORT_STAT.HOLDING p) = true ∧
      e.bringAt p = (if d.canBring p then 3 else 0) ∧ memSame d e
    p < 256 → d.is (MAC.PORT_STAT.LINK p) = true → d.get (SWC.PORT_CFG.DOWN_HOLD p) ≠ 0 → sget d.mac.tx p none = none →
    (d.bringAt p = 7 ∨ d.bringAt p = 8 → completes (.pcsLockLoss p) s down) ∧
    (l < 256 → d.lanePort l = p → l ∈ d.lanesOf p → 1000 < ns → 3 < d.bringAt p → completes (.laneSignalLoss l ns) s down)

/-- R57, R58: at an update each receive coefficient of a lane moves by at most one step, by none while FREEZE is 1; a margin that falls below its threshold sets its bit and raises its event. -/
def Sys2Proof.Machine.adaptationSays : Prop :=
  ∀ (s : State) (l : Nat) (moves : List Int) (ends : List Bool) (margin : Int),
    let d := s.dev
    let sl := l / 32
    let k := l / 8 % 4
    let thr := d.get (MAC.ADAPT_CFG.MARGIN_THR sl k)
    l < 256 → d.linkUp (d.lanePort l) = true → d.portExists (d.lanePort l) = true →
    sget d.mac.adaptAt l 0 + d.get (MAC.ADAPT_CFG.INTERVAL sl k) * 1000 ≤ d.tick →
    completes (.adaptUpdate l moves ends margin) s (fun e => memSame d e ∧
      (sget e.mac.coef l []).length = (sget d.mac.coef l []).length ∧
      (∀ i, (nthD (sget e.mac.coef l []) i 0 - nthD (sget d.mac.coef l []) i 0).natAbs ≤ 1) ∧
      (d.is (MAC.ADAPT_CFG.FREEZE sl k) = true → sget e.mac.coef l [] = sget d.mac.coef l []) ∧
      (∀ m, m ≠ l → sget e.mac.coef m [] = sget d.mac.coef m []) ∧
      (thr ≠ 0 → margin < thr → sget d.mac.lowMargin l 0 = 0 → bit (e.get (MAC.LANE_MARGIN.BITS sl)) (l % 32) = true ∧ raised e (EV_LANE_MARGIN_LOW sl)))

/-- Link bring-up, link loss and lane adaptation: `linkBringUpSays`, `linkLossSays`, `adaptationSays`. -/
def Obligations.LinksAndLanes : Prop := linkBringUpSays ∧ linkLossSays ∧ adaptationSays

-- Frames at the MAC (spec/03 R62 to R78).

/-- The bytes are a whole frame of a length that the port takes, with a good FCS. -/
def Sys2Proof.Machine.goodFrame (d : Dev) (p : Nat) (bs : List Byte) : Prop :=
  64 ≤ bs.length ∧ bs.length ≤ d.get (MAC.PORT_CFG.MAX_FRAME p) ∧ leNat (bs.drop (bs.length - 4)) = fcsOf (bs.take (bs.length - 4))

/-- R62, R65: a frame of legal length goes to its slice's parser with the received bytes, marked bad if its FCS is wrong (at its tail, where the pipeline has counted it before, log entry 15), and takes no cells yet (R111); a shorter one goes nowhere. R63, R293: a PAUSE frame, whose quanta stand in its bytes 16 and 17 (log entry 14), pauses the port and goes nowhere; with the gate closed it is discarded (R346). -/
def Sys2Proof.Machine.frameReceptionSays : Prop :=
  ∀ (s : State) (p ph : Nat) (bs : List Byte) (fec : Nat × Nat × Nat),
    let d := s.dev
    let body := bs.take (bs.length - 4)
    let parsed := fun (e : Dev) (bad late : Bool) => memSame d e ∧ ∃ k, e.pipe = d.pipe ++ [k] ∧ k.body = body ∧ k.rx = body ∧ k.bad = bad ∧ k.lateBad = late ∧
      k.ing = p ∧ k.port = p ∧ k.slice = p / 32 ∧ k.stage = .parse ∧ k.bufs = [] ∧ k.epoch = none ∧ k.fcs = leNat (bs.drop (bs.length - 4)) ∧ k.len = k.body.length + 4
    let q := d.quanta p (beAt body 16 2)
    p < 256 → d.canRx p = true →
    (goodFrame d p bs → pauseKind body = 0 → d.gateOpen = true → completes (.rxFrame p bs 0 ph fec) s (fun e => parsed e false false ∧ e.swc.adms = d.swc.adms)) ∧
    (64 ≤ bs.length → bs.length ≤ d.get (MAC.PORT_CFG.MAX_FRAME p) → leNat (bs.drop (bs.length - 4)) ≠ fcsOf body → d.gateOpen = true →
      completes (.rxFrame p bs 0 ph fec) s (fun e => parsed e true false ∧ e.swc.adms = d.swc.adms) ∧
      completes (.rxFrame p bs 2 ph fec) s (fun e => parsed e false true ∧ e.swc.adms = d.swc.adms)) ∧
    (bs.length < 64 → bs.length ≤ d.get (MAC.PORT_CFG.MAX_FRAME p) → completes (.rxFrame p bs 0 ph fec) s (fun e => e.pipe = d.pipe ∧ e.swc = d.swc ∧ memSame d e)) ∧
    (goodFrame d p bs → pauseKind body ≠ 0 → d.gateOpen = false → completes (.rxPauseFrame p (bs, fec)) s (fun e => e.pipe = d.pipe ∧ memSame d e ∧ e.swc = d.swc)) ∧
    (goodFrame d p bs → pauseKind body = 1 → d.gateOpen = true → d.get (MAC.PORT_CFG.PAUSE_MODE p) = 1 → completes (.rxPauseFrame p (bs, fec)) s (fun e =>
      e.pipe = d.pipe ∧ memSame d e ∧ sget e.swc.paused (9 * p + 8) 0 = if beAt body 16 2 = 0 then 0 else d.tick + q))

/-- R75 to R78: what port 256 and the recirculation ports receive. A good inject with DIRECT goes to the switch core with its port and queue, one that fails the checks is discarded; a plain frame has no effect on the data path; a wake frame with the right destination and key wakes what is parked, but not one whose VERSION or reserved bits are wrong (R73); a recirculated frame comes back to the parser of its slice, while that works (R384). -/
def Sys2Proof.Machine.managementFramesSays : Prop :=
  ∀ (s : State) (bs : List Byte) (fec : Nat × Nat × Nat) (sl : Nat) (k : Pkt) (ks : List Pkt),
    let d := s.dev
    let b := bs.take (bs.length - 4)
    (d.canRx 256 = true → isShim bs = true → shimType bs ≠ 3 → goodFrame d 256 bs → injectOk b = false → completes (.injectFrame (bs, fec)) s (fun e =>
      e.pipe = d.pipe ∧ e.swc = d.swc ∧ memSame d e)) ∧
    (d.canRx 256 = true → isShim bs = true → shimType bs ≠ 3 → goodFrame d 256 bs → injectOk b = true → d.gateOpen = true → bit (byteAt b 15) 0 = false →
      completes (.injectFrame (bs, fec)) s (fun e => e.pipe = d.pipe ∧
        if (((d.fecCount 256 fec).rxJudge 256 bs false).1.takeCells 0 (((b.drop 30).length + 259) / 256) []).1.isSome = true then (∃ a, e.swc.adms = d.swc.adms ++ [a] ∧
          a.dest = .port (bits (beAt b 16 2) 8 0) ∧ a.queue = bits (byteAt b 15) 7 4 ∧ a.pkt.body = b.drop 30 ∧ a.pkt.inj = true)
        else e.swc.adms = d.swc.adms)) ∧
    (d.canRx 256 = true → isShim bs = false → pauseKind b = 0 → completes (.mgtPlainFrame (bs, fec)) s (fun e => e.pipe = d.pipe ∧ e.swc = d.swc ∧ memSame d e)) ∧
    (d.canRx 256 = true → isShim bs = true → shimType bs = 3 → goodFrame d 256 bs → d.is GLB.MGT_CFG.WAKE_EN = true →
      shimOk b = true → beAt b 0 6 = d.mac48 GLB.MGT_DEV_MAC_LO.MAC GLB.MGT_DEV_MAC_HI.MAC → beAt b 18 4 = d.get GLB.MGT_WAKE_KEY.KEY →
      completes (.wakeFrame (bs, fec)) s (fun e => e.pipe = d.pipe ∧ memSame d e ∧ e.is PWR.WAKE_STAT.VALID = true ∧ e.get PWR.WAKE_STAT.SOURCE = 2 ∧ raised e EV_PWR_WAKE)) ∧
    (d.canRx 256 = true → isShim bs = true → shimType bs = 3 → goodFrame d 256 bs → shimOk b = false → completes (.wakeFrame (bs, fec)) s (fun e =>
      e.pipe = d.pipe ∧ memSame d e ∧ e.pwr = d.pwr)) ∧
    (sl < 8 → d.sliceOn sl = true → d.granted 2 sl 10 = false → d.is (MAC.PORT_CFG.RX_EN (257 + sl)) = true → sget d.mac.recirc sl [] = k :: ks → completes (.recircFrame sl) s (fun e => memSame d e ∧
      sget e.mac.recirc sl [] = ks ∧ ∃ k', e.pipe = d.pipe ++ [k'] ∧ k'.body = k.body ∧ k'.port = 257 + sl ∧
        k'.slice = sl ∧ k'.ing = k.ing ∧ k'.epoch = k.epoch ∧ k'.stamp = k.stamp ∧ k'.stage = .parse ∧ k'.bufs = []))

/-- R67, R68: the FCS that is carried through differs from the good FCS of the frame sent exactly as the received FCS differed from the good FCS of the frame received. -/
def Obligations.FcsCarryThrough : Prop :=
  ∀ (rx sent : List Byte) (f : Nat), Nat.xor (carryFcs rx sent f) (fcsOf sent) = Nat.xor f (fcsOf rx)

/-- R66, R67: TX_FRAME sends the frame that the MAC holds, with its route's changes and its FCS, and gives its place back; with none, it sends the first pause frame that is asked for, but not one that would hold up a buoy at the launch stage (R331). With the gate closed nothing is sent (R346). -/
def Sys2Proof.Machine.frameTransmissionSays : Prop :=
  ∀ (s : State) (p ph und : Nat) (q : QEnt),
    let d := s.dev
    p ≤ 256 → d.gateOpen = true → d.linkUp p = true → d.is (MAC.PORT_CFG.TX_EN p) = true →
    (sget d.mac.tx p none = some q → q.pkt.ct = false → d.ptpFind (d.setOf 104 q.pkt.epoch) p q.pkt.routed = none →
      completes (.txFrame p ph und) s (fun e => sget e.mac.tx p none = none ∧
        sget e.mac.wire p [] = q.pkt.routed ++ natLE 4 (q.pkt.txFcs q.pkt.routed) ∧ ∀ o, o ≠ p → sget e.mac.wire o [] = sget d.mac.wire o [])) ∧
    (∀ k on rest, sget d.mac.tx p none = none → d.swc.pauseReq = (p, k, on) :: rest → d.pauseFits p = true → completes (.txFrame p ph und) s (fun e => memSame d e ∧
        e.swc.pauseReq = rest ∧ sget e.mac.wire p [] = d.pauseFrame p k on ++ natLE 4 (fcsOf (d.pauseFrame p k on)))) ∧
    (sget d.mac.tx p none = none → d.pauseFits p = false → completes (.txFrame p ph und) s (fun e => e = d))

/-- Frames received, injected, recirculated and sent by the MACs: `frameReceptionSays`, `managementFramesSays`, `frameTransmissionSays`. -/
def Obligations.FramesAtTheMac : Prop := frameReceptionSays ∧ managementFramesSays ∧ frameTransmissionSays

-- The parser (spec/04).

/-- The frame with identity `i` stands in the pipe as `P` says. -/
def Sys2Proof.Machine.inPipe (e : Dev) (i : Nat) (P : Pkt → Prop) : Prop := ∃ k ∈ e.pipe, k.id = i ∧ P k

/-- R82, R83: the pre-selector takes the first valid entry whose key agrees with the selector under its mask. -/
def Sys2Proof.Machine.preselectorSays : Prop :=
  ∀ (d : Dev) (sl x sel : Nat), d.bad = [] →
    d.presel sl x sel 64 0 = ((List.range 64).find? (fun i => d.is (PRS.PRESEL_RESULT.VALID sl x i) &&
      Nat.land sel (d.get (PRS.PRESEL_MASK.W sl x i)) == Nat.land (d.get (PRS.PRESEL_KEY.W sl x i)) (d.get (PRS.PRESEL_MASK.W sl x i))), d)

/-- R38, R80, R81, R89: the parser stamps a frame without an epoch with the current one; with PROFILE_OFF, or where no pre-selector entry matches, the frame waits for a graph walker at the root of its set's graph, or is discarded where the queue of 256 is full; a frame that a profile claims has its key. -/
def Sys2Proof.Machine.parseFrameSays : Prop :=
  ∀ (s : State) (p : Nat) (k : Pkt),
    let d := s.dev
    let sl := k.slice
    let ep := k.epoch.getD (d.get GLB.EPOCH_CUR.CUR)
    let x := d.setOf sl (some ep)
    let room := (d.pipe.filter (fun y => y.slice == sl && y.stage == .graph)).length < 256
    let queued := fun (e : Dev) => memSame d e ∧ inPipe e k.id (fun y => y.stage = .graph ∧ y.epoch = some ep ∧ y.body = k.body ∧
      y.startNode = d.get (PRS.GRAPH_CFG.ROOT sl x))
    d.frameAt p 0 = some k → k.stage = .parse → d.blockOn sl 9 = true → d.bad = [] →
    (d.is (PRS.PROF_CTL.PROFILE_OFF sl) = true → room → completes (.parseFrame p []) s (fun e => queued e ∧ regsSame d e [])) ∧
    (d.is (PRS.PROF_CTL.PROFILE_OFF sl) = true → ¬ room → completes (.parseFrame p []) s (fun e => raised e (EV_PRS_GRAPH_OVERRUN sl) ∧
      e.pipe.length + 1 = d.pipe.length)) ∧
    (d.is (PRS.PROF_CTL.PROFILE_OFF sl) = false → (∀ i, i < 64 → d.is (PRS.PRESEL_RESULT.VALID sl x i) = false) → room →
      completes (.parseFrame p []) s queued) ∧
    (∀ key, d.is (PRS.PROF_CTL.PROFILE_OFF sl) = false → d.is (PRS.PRESEL_RESULT.VALID sl x 0) = true → d.get (PRS.PRESEL_MASK.W sl x 0) = 0 →
      d.is (PRS.PRESEL_RESULT.GRAPH sl x 0) = false → (d.runProfile sl (d.get (PRS.PRESEL_RESULT.PROFILE sl x 0)) { k with epoch := some ep }).1 = some key →
      completes (.parseFrame p []) s (fun e => memSame d e ∧ inPipe e k.id (fun y => y.stage = .keyed ∧ y.epoch = some ep ∧ y.key = key ∧ y.body = k.body)))

/-- R88, R91: a walk whose first node is not valid ends unclaimed, and NOCLAIM_ACT decides: discarded, or passed on with NOCLAIM in its key; a valid node with ADV_MODE 2 and no commands claims the frame. -/
def Sys2Proof.Machine.graphWalkSays : Prop :=
  ∀ (s : State) (sl j : Nat) (k : Pkt),
    let d := s.dev
    let x := d.setOf sl k.epoch
    let n := k.startNode
    sl < 8 → d.graphFrame sl j = some k → d.blockOn sl 10 = true → d.bad = [] → 1 ≤ d.get (PRS.GRAPH_CFG.NODE_LIMIT sl x) →
    (d.is (PRS.NODE_W0.VALID sl x n) = false → d.get (PRS.GRAPH_CFG.NOCLAIM_ACT sl x) = 2 → completes (.graphWalk sl j []) s (fun e => memSame d e ∧
      raised e (EV_PRS_NOCLAIM sl) ∧ inPipe e k.id (fun y => y.stage = .keyed ∧ y.key.length = 128 ∧ bit (beAt y.key 0 2) 14 = true))) ∧
    (d.is (PRS.NODE_W0.VALID sl x n) = false → d.get (PRS.GRAPH_CFG.NOCLAIM_ACT sl x) = 0 → completes (.graphWalk sl j []) s (fun e =>
      raised e (EV_PRS_NOCLAIM sl) ∧ e.pipe.length + 1 = d.pipe.length)) ∧
    (d.is (PRS.NODE_W0.VALID sl x n) = true → d.get (PRS.NODE_W0.ADV_MODE sl x n) = 2 → d.get (PRS.NODE_W0.ADV_PART sl x n) ≠ 3 →
      d.get (PRS.NODE_W1.EXT_CNT sl x n) = 0 → completes (.graphWalk sl j []) s (fun e => memSame d e ∧
      inPipe e k.id (fun y => y.stage = .keyed ∧ y.key.length = 128 ∧ bit (beAt y.key 0 2) 14 = false ∧ bit (beAt y.key 0 2) 12 = true ∧ byteAt y.key 5 = 1)))

/-- The path of a frame through the parser and the graph walk: `parseFrameSays`, `graphWalkSays`. -/
def Obligations.ParseAndGraph : Prop := parseFrameSays ∧ graphWalkSays

/-- R93: a profile is in use while a valid pre-selector entry with GRAPH = 0 names it in the active set, or in the other one while that set is armed or retiring. A host write to a profile in use is refused while profiles are on, sets PROFILE_BUSY and raises EV_PRS_PROFILE_BUSY; any other writes the word, with the reserved bits of its commands 0 (Table 4.5). -/
def Obligations.ProfilesInUse : Prop :=
  ∀ (s : State) (sl p w v : Nat),
    let d := s.dev
    let act := d.get (GLB.PART_CTL.ACTIVE sl)
    let names := fun x => ∃ i, i < 64 ∧ d.is (PRS.PRESEL_RESULT.VALID sl x i) = true ∧ d.is (PRS.PRESEL_RESULT.GRAPH sl x i) = false ∧ d.get (PRS.PRESEL_RESULT.PROFILE sl x i) = p
    let inUse := names act ∨ ((d.is (GLB.PART_CTL.RETIRING sl) = true ∨ d.is (GLB.PART_CTL.ARM sl) = true) ∧ names (1 - act))
    let off := d.is (PRS.PROF_CTL.PROFILE_OFF sl) = true
    let lo := PRS.PROFILE_CMD.LO sl p (w - 1)
    let hi := PRS.PROFILE_CMD.HI sl p (w - 1)
    let hdr := [(PRS.PROFILE_HDR.L3_OFF sl p, bits v 7 0), (PRS.PROFILE_HDR.L4_OFF sl p, bits v 15 8), (PRS.PROFILE_HDR.INNER_OFF sl p, bits v 23 16),
      (PRS.PROFILE_HDR.INNER_L3_OFF sl p, bits v 31 24), (PRS.PROFILE_HDR.INNER_L4_OFF sl p, bits v 39 32), (PRS.PROFILE_HDR.PAY_OFF sl p, bits v 47 40),
      (PRS.PROFILE_HDR.FLAGS sl p, bits v 55 48), (PRS.PROFILE_HDR.KEYTYPE sl p, bits v 59 56)]
    sl < 8 → p < 64 → w < 16 → d.reaches (PRS.PROFILE_HDR.L3_OFF sl p) → d.reaches (PRS.PROFILE_CMD.LO sl p (w - 1)) →
    (¬ off → inUse → completes (.profileWrite sl p w v) s (fun e => memSame d e ∧ e.is (PRS.PROF_CTL.PROFILE_BUSY sl) = true ∧ raised e (EV_PRS_PROFILE_BUSY sl) ∧
      regsSame d e [(PRS.PROF_CTL.PROFILE_BUSY sl).key, (GLB.EVT_STAT.STAT (EV_PRS_PROFILE_BUSY sl / 16)).key])) ∧
    ((off ∨ ¬ inUse) → 1 ≤ w → completes (.profileWrite sl p w v) s (fun e => memSame d e ∧ e.get lo = cmdHeld (bits v 31 0) ∧ e.get hi = cmdHeld (bits v 63 32) ∧
      regsSame d e [lo.key, hi.key])) ∧
    ((off ∨ ¬ inUse) → w = 0 → completes (.profileWrite sl p w v) s (fun e => memSame d e ∧ (∀ y ∈ hdr, e.get y.1 = y.2) ∧ regsSame d e (hdr.map (fun y => y.1.key))))

-- The classifier (spec/05).

/-- Bit `b` of the key of an entry or pair: word `b / 64` of VALUE (`m` 0) or MASK (`m` 5), the second half of a pair's key in the odd entry (Tables 5.3, R102). -/
def Sys2Proof.Machine.entBit (f : Nat → Nat → Nat) (i m b : Nat) : Bool := bit (f (i + b / 320) (m + b / 64 % 5)) (b % 64)

/-- An entry, or the pair of an even entry, matches a key: it is valid, not retired, not suspect, of the key profile, of its width (WIDE counts in an even entry only, Table 5.4) and a member of the set, and every key bit that its MASK compares equals its VALUE bit (R103). A retired odd entry takes its pair out (R107). -/
def Sys2Proof.Machine.matchesKey (f : Nat → Nat → Nat) (x kp : Nat) (wide : Bool) (key i : Nat) : Prop :=
  ecVALID (f i 10) = true ∧ ecRETIRED (f i 10) = false ∧ ecSUSPECT (f i 10) = false ∧ ecKPROF (f i 10) = kp ∧ (i % 2 = 0 → ecWIDE (f i 10) = wide) ∧ ecSETS (f i 10) x = true ∧
    (wide = true → ecRETIRED (f (i + 1) 10) = false) ∧ ∀ b, b < (if wide then 640 else 320) → entBit f i 5 b = true → bit key b = entBit f i 0 b

/-- R103, R104: what a search of slice `sl` finds. An even entry, and an odd one that is not the half of a pair, meets the search's condition exactly where it matches the key as R103 says; the odd entry of a pair never does. The largest PRIORITY wins, the lowest index among equals; COUNT saturates at 255, TIE tells of another match with the winner's priority. The result word has these fields where Table 5.5 has them. -/
def Obligations.SearchWinner : Prop :=
  ∀ (d : Dev) (sl x kp : Nat) (wide fh sd : Bool) (key i first cnt : Nat),
    let f := d.arrW sl
    let fits := fun k => entryFits f x kp wide key k
    let pri := fun k => ecPRIORITY (f k 10)
    let r := d.searchOnce sl x kp wide key []
    let w := resultWord { win := r.win, count := r.count, tie := r.tie, falseHit := fh } kp sd first cnt
    sl < 8 →
    ((i % 2 = 0 ∨ (wide = false ∧ ecWIDE (f (i - 1) 10) = false)) → (fits i = true ↔ matchesKey f x kp wide key i)) ∧
    (i % 2 = 1 → (wide = true ∨ ecWIDE (f (i - 1) 10) = true) → fits i = false) ∧
    (r.win = some i ↔ i < 49152 ∧ fits i = true ∧ (∀ k, k < 49152 → k ≠ i → fits k = true → pri k < pri i ∨ (pri k = pri i ∧ i < k))) ∧
    (r.win = none ↔ (∀ k, k < 49152 → fits k = false)) ∧
    (r.win = some i → r.count = min 255 ((List.range 49152).filter fits).length ∧ (r.tie = true ↔ ∃ k, k < 49152 ∧ k ≠ i ∧ fits k = true ∧ pri k = pri i)) ∧
    (r.win = some i → bits w 15 0 = i ∧ bits w 23 16 = r.count ∧ bit w 24 = true ∧ bit w 25 = r.tie) ∧
    (r.win = none → bits w 15 0 = 0xFFFF ∧ bits w 23 16 = 0 ∧ bit w 24 = false ∧ bit w 25 = false) ∧
    (kp < 16 → first < 2 ^ 12 → cnt < 2 ^ 8 → bit w 26 = fh ∧ bit w 27 = sd ∧ bits w 31 28 = kp ∧ bits w 43 32 = first ∧ bits w 51 44 = cnt ∧ bits w 63 52 = 0)

/-- R98, R100, R109 to R111: a frame that the classifier does not search, because it is off or the key profile is not valid, or that wins no entry, takes the default action of its set; one that wins takes the fields that the entry's action enables. A frame that goes on takes its cells, and is discarded where none are left (R291); a drop discards it before that. -/
def Sys2Proof.Machine.classifySays : Prop :=
  ∀ (s : State) (p : Nat) (k : Pkt) (xs : List Nat),
    let d := s.dev
    let sl := k.slice
    let x := d.setOf sl k.epoch
    let kp := d.kprofOf x k
    let dflt := d.get (CLS.DEFAULT.W sl x)
    let on := d.is (CLS.CTL.EN sl) = true ∧ d.is (CLS.KPROF_HDR.VALID sl x kp) = true
    let r := (d.cntCls sl 0).searchVerified sl x kp (d.is (CLS.KPROF_HDR.WIDE sl x kp)) ((d.cntCls sl 0).searchKey x kp k) true 3 [] false
    let cells := fun (e : Dev) => (e.takeCells sl k.cells []).1
    let took := fun (e : Dev) (a : Nat) => inPipe e k.id (fun y => y.stage = .classified ∧ y.act = a ∧ y.d3 = d3OfAct a ∧ y.body = k.body ∧ y.mirSess = bits a 20 18 ∧
      y.bufs = xs ∧ y.bufSlice = sl)
    let filled := fun (e : Dev) => ∀ b, (∀ y ∈ xs, b < d.bufA (sl / 4) y 0 ∨ d.bufA (sl / 4) y 0 + 256 ≤ b) → e.rdB b = d.rdB b
    let won := fun (i : Nat) => let c := (r.2.cntCls sl 1).hit sl i; if r.1.tie then c.cntCls sl 3 else c
    d.frameAt p 3 = some k → d.blockOn sl 11 = true → (k.stage = .scanned ∨ (k.stage = .keyed ∧ d.needScan k = false)) →
    (¬ on → actDISP dflt = 0 → cells d = some xs → completes (.classify p [] []) s (fun e => filled e ∧ took e dflt)) ∧
    (¬ on → actDISP dflt = 0 → cells d = none → completes (.classify p [] []) s (fun e => memSame d e ∧ e.pipe.length + 1 = d.pipe.length)) ∧
    (¬ on → actDISP dflt = 1 → completes (.classify p [] []) s (fun e => memSame d e ∧ e.buf = d.buf ∧ e.pipe.length + 1 = d.pipe.length)) ∧
    (on → d.arrLive sl = [] → actDISP dflt = 0 → cells (r.2.cntCls sl 2) = some xs → completes (.classify p [] []) s (fun e => filled e ∧ took e dflt)) ∧
    (∀ i, on → r.1.win = some i → r.2.pipe = d.pipe → actDISP (mergeAction (r.2.entW sl i 11) dflt) = 0 → cells (won i) = some xs → completes (.classify p [] []) s (fun e =>
      took e (mergeAction (r.2.entW sl i 11) dflt)))

/-- Pattern `p` matches at position `i` of window `w` for a packet of set `x` (R115). -/
def Sys2Proof.Machine.patAt (d : Dev) (sl x : Nat) (w : List Byte) (p i : Nat) : Bool :=
  let c := d.rd64 (patA sl p 4)
  let n := bits c 7 3 + 1
  bit c 0 && bit c (1 + x) && !bit c 16 && (!bit c 9 || i == 0) && Nat.ble (i + n) w.length &&
  (List.range n).all (fun j => let a := byteAt w (i + j); let b := byteAt (d.rdBytes (patA sl p 0) 32) j; a == b || (bit c 8 && lowerByte a == lowerByte b))

/-- R114 to R116: the payload scan looks at the window that the key profile gives and leaves the frame ready for its search with the number of matches, whether there is one, the groups of the patterns that matched, and the pattern whose match ends first. R108: the scrub makes a disturbed match-array copy equal to a good shadow copy and raises EV_CLS_SCRUB_FIX. R123: a host probe runs when its command is given and publishes its result with DONE. -/
def Sys2Proof.Machine.scanScrubProbeSays : Prop :=
  ∀ (s : State) (p sl i v key : Nat) (k : Pkt),
    let d := s.dev
    let x := d.setOf k.slice k.epoch
    let kp := d.kprofOf x k
    let w := sliceB k.body (byteAt k.key 11 + d.get (CLS.KPROF_HDR.SCAN_START k.slice x kp)) (min 256 (d.get (CLS.KPROF_HDR.SCAN_LEN k.slice x kp)))
    let hit := patAt d k.slice x w
    let ends := fun (q j : Nat) => j + bits (d.rd64 (patA k.slice q 4)) 7 3
    (d.frameAt p 2 = some k → k.stage = .keyed → d.blockOn k.slice 11 = true → d.needScan k = true → d.bad = [] → completes (.payloadScan p []) s (fun e =>
      inPipe e k.id (fun y => y.stage = .scanned ∧ y.scanDone = true ∧ y.key = k.key ∧ y.body = k.body ∧
        y.scanCount = min 255 ((List.range 4096).map (fun q => ((List.range 256).filter (hit q)).length)).sum ∧
        (y.scanHit = true ↔ ∃ q j, q < 4096 ∧ hit q j = true) ∧
        (∀ g, g < 64 → (bit y.scanGroups g = true ↔ ∃ q j, q < 4096 ∧ hit q j = true ∧ bits (d.rd64 (patA k.slice q 4)) 15 10 = g)) ∧
        (∀ q j, q < 4096 → hit q j = true → (∀ q' j', q' < 4096 → hit q' j' = true → ends q j < ends q' j' ∨ (ends q j = ends q' j' ∧ q ≤ q')) → y.scanFirst = q) ∧
        (y.scanHit = false → y.scanFirst = 0)))) ∧
    (sl < 8 → d.sliceOn sl = true → d.is (CLS.CTL.SCRUB_EN sl) = true → i < 49152 → d.shadowBad sl i false = false →
      (∃ w, w < 11 ∧ sget d.mxor (entA sl i w) 0 ≠ 0) → completes (.clsScrub sl i [] []) s (fun e => memSame d e ∧ raised e (EV_CLS_SCRUB_FIX sl) ∧
        (∀ w, w < 11 → e.arrW sl i w = d.entW sl i w) ∧ ∀ j w, j ≠ i → w < 12 → e.arrW sl j w = d.arrW sl j w)) ∧
    (sl < 8 → d.sliceOn sl = true → d.is (CLS.CTL.SCRUB_EN sl) = true → i < 49152 → d.shadowBad sl i false = false →
      (∀ w, w < 11 → sget d.mxor (entA sl i w) 0 = 0) → completes (.clsScrub sl i [] []) s (fun e => e = d)) ∧
    (sl < 8 → d.reaches (CLS.PROBE_CTL.GO sl) → d.is (CLS.PROBE_CTL.DONE sl) = true → completes (.clsProbe sl v) s (fun e => memSame d e ∧
      e.is (CLS.PROBE_CTL.DONE sl) = false ∧ e.get (CLS.PROBE_CTL.SET sl) = bits v 5 5 ∧ e.get (CLS.PROBE_CTL.KPROF sl) = bits v 4 1 ∧
      (sget e.tbl.probe sl none).isSome = true)) ∧
    (sl < 8 → sget d.tbl.probe sl none = some key → d.arrLive sl = [] → completes (.clsProbeDone sl [] []) s (fun e => memSame d e ∧
      e.is (CLS.PROBE_CTL.DONE sl) = true ∧ sget e.tbl.probe sl none = none ∧
      e.get (CLS.PROBE_RES.W sl) = resultWord {} (d.get (CLS.PROBE_CTL.KPROF sl)) false 0 0 % 2 ^ 64))

/-- The action a frame takes from the classifier; payload scan, scrub and host probe: `classifySays`, `scanScrubProbeSays`. -/
def Obligations.ClassifyAndScan : Prop := classifySays ∧ scanScrubProbeSays

/-- R118, R119: a host write of a word of an entry that is not retired: the control word always, another word only while the entry is not valid (for the odd entry of a wide pair the even entry's control word decides), else WRITE_LIVE is set and nothing is stored. R110: a bad action word or default action is refused. -/
def Obligations.EntryWrites : Prop :=
  ∀ (s : State) (sl i w v : Nat),
    let d := s.dev
    let a := entA sl i w
    let c := d.entW sl i 10
    let even := d.entW sl (i - i % 2) 10
    let live := if i % 2 = 1 ∧ ecWIDE even = true then ecVALID even else ecVALID c
    sl < 8 → i < 49152 → v < 2 ^ 64 → d.reaches2 a → ecRETIRED c = false → d.is (GLB.PART_CTL.RETIRING sl) = false →
    (w = 10 → completes (.clsEntryWrite sl 0 i w v) s (fun e => stored8 d e a (v % 2 ^ 24) ∧ regsSame d e [] ∧ e.arrW sl i w = e.entW sl i w)) ∧
    (w < 10 → live = false → completes (.clsEntryWrite sl 0 i w v) s (fun e => stored8 d e a v ∧ regsSame d e [] ∧ e.arrW sl i w = e.entW sl i w)) ∧
    (w < 10 → live = true → completes (.clsEntryWrite sl 0 i w v) s (fun e => memSame d e ∧ e.is (CLS.CTL.WRITE_LIVE sl) = true ∧
      regsSame d e [(CLS.CTL.WRITE_LIVE sl).key])) ∧
    (w = 11 → live = false → actionOk v = false → completes (.clsEntryWrite sl 0 i w v) s (fun e => memSame d e ∧ e.is (CLS.CTL.ACTION_REFUSED sl) = true ∧
      regsSame d e [(CLS.CTL.ACTION_REFUSED sl).key])) ∧
    (w = 11 → live = false → actionOk v = true → completes (.clsEntryWrite sl 0 i w v) s (fun e => stored8 d e a v ∧ regsSame d e [])) ∧
    (d.reaches (CLS.DEFAULT.W sl (w % 2)) → actionOk v = false → completes (.clsEntryWrite sl 2 (w % 2) 0 v) s (fun e => memSame d e ∧ e.is (CLS.CTL.ACTION_REFUSED sl) = true ∧
      regsSame d e [(CLS.CTL.ACTION_REFUSED sl).key]))

-- Forwarding (spec/06).

/-- R129, Table 6.5: a prefix lookup answers a prefix of the set that covers the address (R127), and no other such prefix is longer; it answers none only where no prefix of the set covers it. Which of them compete is log entry 19. -/
def Sys2Proof.Machine.longestPrefixSays : Prop :=
  ∀ (d : Dev) (sl x vrf addr k : Nat) (v6 : Bool), d.bad = [] →
    ((d.prefixFind sl x vrf v6 addr).1 = none → ∀ j ∈ d.prefixLive sl, d.prefixCovers sl vrf v6 addr j = true → fwSETS (d.fwdW sl 2 j 0) x = false) ∧
    ((d.prefixFind sl x vrf v6 addr).1 = some k → d.prefixCovers sl vrf v6 addr k = true ∧ fwSETS (d.fwdW sl 2 k 0) x = true ∧ fwVALID (d.fwdW sl 2 k 0) = true ∧ fwRETIRED (d.fwdW sl 2 k 0) = false ∧
    (∀ j ∈ d.prefixLive sl, d.prefixCovers sl vrf v6 addr j = true → fwSETS (d.fwdW sl 2 j 0) x = true →
      fwLEN (d.fwdW sl 2 j 0) ≤ fwLEN (d.fwdW sl 2 k 0)))

/-- The pre-selector's first match, and the longest prefix that covers an address: `preselectorSays`, `longestPrefixSays`. -/
def Obligations.PreselectAndPrefix : Prop := preselectorSays ∧ longestPrefixSays

/-- R129, Table 6.5: with EN = 0 a frame goes on without a result; on a VLAN that is not valid it is dropped; a broadcast goes to the flood group of its VLAN; an L2 hit goes to the port or group of its entry; an L2 miss follows UNKNOWN_ACT: flood, drop, or punt with reason 0x02 (Table 6.9; a punt's queue and class are log entry 20). -/
def Sys2Proof.Machine.forwardLookupSays : Prop :=
  ∀ (s : State) (p : Nat) (k : Pkt),
    let d := s.dev
    let sl := k.slice
    let x := d.setOf sl k.epoch
    let vid := if bits (bits (beAt k.key 2 2) 12 9) 3 2 = 1 then beAt k.key 54 2 % 4096 else d.get (FWD.PORT_CFG.PVID sl x (portIdx k.port))
    let da := beAt k.window 0 6
    let l2 := d.is (FWD.CTL.EN sl) = true ∧ d.is (FWD.VLAN.VALID sl x vid) = true ∧ d.is (FWD.RMAC.EN sl x) = false ∧ d.is (FWD.CTL.LEARN_EN sl) = false
    let goes := fun (e : Dev) (dest : Dest) => memSame d e ∧ inPipe e k.id (fun y => y.stage = .forwarded ∧ y.dest = dest ∧ y.body = k.body ∧ y.nh = k.nh)
    let miss := l2 ∧ da ≠ 0xFFFFFFFFFFFF ∧ (d.macFind sl (macKey vid da) (fun w => fwSETS w x)).1 = none
    d.frameAt p 4 = some k → k.stage = .classified → d.blockOn sl 12 = true → d.bad = [] →
    (d.is (FWD.CTL.EN sl) = false → completes (.forwardLookup p []) s (fun e => goes e (.port 511))) ∧
    (d.is (FWD.CTL.EN sl) = true → d.is (FWD.VLAN.VALID sl x vid) = false → completes (.forwardLookup p []) s (fun e => e.pipe.length + 1 = d.pipe.length)) ∧
    (l2 → da = 0xFFFFFFFFFFFF → completes (.forwardLookup p []) s (fun e => goes e (.group (d.get (FWD.VLAN.FLOOD_GROUP sl x vid))))) ∧
    (l2 → da ≠ 0xFFFFFFFFFFFF → (d.macFind sl (macKey vid da) (fun w => fwSETS w x)).1 = none → d.get (FWD.VLAN.UNKNOWN_ACT sl x vid) = 0 →
      completes (.forwardLookup p []) s (fun e => goes e (.group (d.get (FWD.VLAN.FLOOD_GROUP sl x vid))))) ∧
    (∀ j, l2 → da ≠ 0xFFFFFFFFFFFF → (d.macFind sl (macKey vid da) (fun w => fwSETS w x)).1 = some j → bits (d.fwdW sl 0 j 1) 22 21 = 0 →
      completes (.forwardLookup p []) s (fun e => goes e (.port (bits (d.fwdW sl 0 j 1) 8 0)))) ∧
    (∀ j, l2 → da ≠ 0xFFFFFFFFFFFF → (d.macFind sl (macKey vid da) (fun w => fwSETS w x)).1 = some j → bits (d.fwdW sl 0 j 1) 22 21 = 1 →
      completes (.forwardLookup p []) s (fun e => goes e (.group (bits (d.fwdW sl 0 j 1) 20 9)))) ∧
    (miss → (d.get (FWD.VLAN.UNKNOWN_ACT sl x vid) = 1 ∨ d.get (FWD.VLAN.UNKNOWN_ACT sl x vid) = 3) →
      completes (.forwardLookup p []) s (fun e => e.pipe.length + 1 = d.pipe.length ∧ ∀ y ∈ e.pipe, y ∈ d.pipe)) ∧
    (miss → d.get (FWD.VLAN.UNKNOWN_ACT sl x vid) = 2 → heldBack k.h1 k.h2 k.id (d.ordOf (flowCluster sl k.h1)) = false →
      completes (.forwardLookup p []) s (fun e => memSame d e ∧ e.pipe.length + 1 = d.pipe.length ∧
        ∃ a, e.swc.adms = d.swc.adms ++ [a] ∧ a.dest = .port 256 ∧ a.pkt.id = k.id ∧ a.pkt.body = d.puntBody k 0x02))

/-- The learn log of slice `sl` takes a record for slot `k` of the MAC table (R137). -/
def Sys2Proof.Machine.logged (d e : Dev) (sl k kind w0 res : Nat) : Prop :=
  let g := learnLog sl
  let a := tabA g.half (d.get g.base + d.get g.wr % d.get g.size * 16)
  d.get g.size ≠ 0 → d.ringUsed g < d.get g.size → d.ringWaits g = 0 → d.areaWaits a 16 = false →
    e.get g.wr = (d.get g.wr + 1) % 2 ^ 32 ∧ e.rdBytes a 16 = natLE 8 w0 ++ natLE 8 (bits res 8 0 + kind * 2 ^ 9 + k * 2 ^ 12 + bits res 39 24 * 2 ^ 31)

/-- R135, Table 6.6: a pending source lookup whose address is not in the table takes a free slot of its bucket, or raises EV_FWD_LEARN_FULL where there is none; an entry at another port moves, one at the same port, or of a KIND other than 0 (log entry 21), has its stamp refreshed; a static one, and one that its set does not use, stays. R137: an insert and a move are logged. R139: an aged entry that still reads as the sweep read it becomes invalid, at the visit or, where the compare-and-delete waits for the table unit, at the next (log entry 112); an entry that has changed stays, and the failure counts. -/
def Sys2Proof.Machine.learnAndAgeSays : Prop :=
  ∀ (s : State) (sl k : Nat) (l : Learn) (ls : List Learn),
    let d := s.dev
    let r := d.fwdW sl 0 k 1
    let a0 := fwdA sl 0 k 0
    let a1 := fwdA sl 0 k 1
    let due := d.is (FWD.AGE_CFG.AGE_EN sl) = true ∧ fwVALID (d.fwdW sl 0 k 0) = true ∧ fwRETIRED (d.fwdW sl 0 k 0) = false ∧ bit r 23 = false
    let aged := d.get (FWD.AGE_CFG.AGE_MAX sl) ≤ (d.fwdNow + 65536 - bits r 39 24) % 65536
    let gone := fun (e : Dev) => fwVALID (e.fwdW sl 0 k 0) = false ∧ ∀ b, b ≠ a0 + 7 → e.rdB b = d.rdB b
    let found := (d.macFind sl (macKey l.vid l.sa) (fun _ => true)).1
    let logFits := d.get (FWD.LOG_SIZE.SIZE sl) ≤ 2 ^ 20 ∧ d.get (FWD.LOG_BASE.OFFSET sl) < 2 ^ 36
    sl < 8 → d.sliceOn sl = true → d.bad = [] →
    (d.tbl.learns = l :: ls → l.slice = sl → l.bad = false → found = some k →
      fwSETS (d.fwdW sl 0 k 0) l.set = true → (bits r 22 21 ≠ 0 ∨ bits r 8 0 = l.port) →
      completes (.learnApply sl 0 []) s (fun e => stored8 d e a1 (setBits r 39 24 d.fwdNow) ∧ regsSame d e [] ∧ e.tbl.learns.length = ls.length)) ∧
    (d.tbl.learns = l :: ls → l.slice = sl → l.bad = false → found = none → d.macFree sl (macKey l.vid l.sa) = [k] → logFits →
      completes (.learnApply sl 0 []) s (fun e => e.fwdW sl 0 k 0 = macKey l.vid l.sa + 3 * 2 ^ 60 + 2 ^ 62 ∧ e.fwdW sl 0 k 1 = l.port % 512 + d.fwdNow * 2 ^ 24 ∧
        e.tbl.learns.length = ls.length ∧ logged d e sl k 0 (macKey l.vid l.sa + 3 * 2 ^ 60 + 2 ^ 62) (l.port % 512 + d.fwdNow * 2 ^ 24))) ∧
    (d.tbl.learns = l :: ls → l.slice = sl → l.bad = false → found = none → d.macFree sl (macKey l.vid l.sa) = [] →
      completes (.learnApply sl 0 []) s (fun e => memSame d e ∧ raised e (EV_FWD_LEARN_FULL sl) ∧ e.tbl.learns.length = ls.length)) ∧
    (d.tbl.learns = l :: ls → l.slice = sl → l.bad = false → found = some k → fwSETS (d.fwdW sl 0 k 0) l.set = true → bits r 22 21 = 0 → bits r 8 0 ≠ l.port →
      bit r 23 = false → logFits → completes (.learnApply sl 0 []) s (fun e => e.fwdW sl 0 k 0 = d.fwdW sl 0 k 0 ∧
        e.fwdW sl 0 k 1 = setBits (setBits r 8 0 l.port) 39 24 d.fwdNow ∧ e.tbl.learns.length = ls.length ∧
        logged d e sl k 1 (d.fwdW sl 0 k 0) (setBits (setBits r 8 0 l.port) 39 24 d.fwdNow))) ∧
    (d.tbl.learns = l :: ls → l.slice = sl → l.bad = false → found = some k →
      (fwSETS (d.fwdW sl 0 k 0) l.set = false ∨ (bits r 22 21 = 0 ∧ bits r 8 0 ≠ l.port ∧ bit r 23 = true)) →
      completes (.learnApply sl 0 []) s (fun e => memSame d e ∧ e.tbl.learns.length = ls.length)) ∧
    (d.tbl.learns = l :: ls → l.slice = sl → l.bad = true → completes (.learnApply sl 0 []) s (fun e => memSame d e ∧ regsSame d e [] ∧ e.tbl.learns.length = ls.length)) ∧
    (k < 262144 → due → aged → d.ageWaits sl 0 k = none → d.get (FWD.LOG_SIZE.SIZE sl) = 0 → completes (.fwdAgeVisit sl 0 k (false, [])) s gone) ∧
    (k < 262144 → due → ¬ aged → d.ageWaits sl 0 k = none → completes (.fwdAgeVisit sl 0 k (false, [])) s (fun e => e = d)) ∧
    (k < 262144 → due → aged → d.ageWaits sl 0 k = none → completes (.fwdAgeVisit sl 0 k (true, [])) s (fun e => memSame d e ∧ regsSame d e [] ∧
      e.tbl.ageCas = d.tbl.ageCas ++ [⟨sl, 0, k, r⟩])) ∧
    (∀ a, k < 262144 → d.ageWaits sl 0 k = some a → a.word = r → fwVALID (d.fwdW sl 0 k 0) = true → fwRETIRED (d.fwdW sl 0 k 0) = false →
      d.get (FWD.LOG_SIZE.SIZE sl) = 0 → completes (.fwdAgeVisit sl 0 k (false, [])) s gone) ∧
    (∀ a, k < 262144 → d.ageWaits sl 0 k = some a → a.word ≠ r → completes (.fwdAgeVisit sl 0 k (false, [])) s (fun e =>
      e = ({ d with tbl.ageCas := d.tbl.ageCas.filter (fun b => b != a) } : Dev).cntFwd sl 11))

/-- The forwarding lookup, learning and aging: `forwardLookupSays`, `learnAndAgeSays`. -/
def Obligations.ForwardAndLearn : Prop := forwardLookupSays ∧ learnAndAgeSays

/-- R132, R133: the table commands run when they are given: an insert of a MAC address, a host route or a prefix takes a free place (R127), answers DUP where the key is there and FULL where there is none; a delete, a change of sets and a lookup need the key, and answer NONE without it; a prefix that is too long, or has bits beyond its length, is refused with BAD_ARG. FWD_CMD_DONE publishes the status. -/
def Sys2Proof.Machine.tableCommandsSays : Prop :=
  ∀ (s : State) (sl v k : Nat) (c : HostCmd),
    let d := s.dev
    let t := bits v 4 3
    let w := d.get (FWD.CMD_KEY.W sl 0)
    let v6 := bit w 58
    let n := if v6 then 128 else 32
    let addr := if v6 then d.get (FWD.CMD_KEY.W sl 1) * 2 ^ 64 + d.get (FWD.CMD_KEY.W sl 2) else w % 2 ^ 32
    let hostPlaces := (bucketSlots (d.hostBucket sl (bits w 51 40) v6 addr)).filter (fun j => d.slotFree sl 1 j && (!v6 || (j % 2 == 0 && d.slotFree sl 1 (j + 1))))
    let prefixFits := fun (j : Nat) => if v6 then j % 4 = 0 ∧ ∀ i, i < 4 → d.slotFree sl 2 (j + i) = true else d.slotFree sl 2 j = true
    let holds := fun (e : Dev) (t j len : Nat) =>
      e.fwdW sl t j 0 = (if v6 then 0 else w % 2 ^ 32) + len * 2 ^ 32 + bits w 51 40 * 2 ^ 40 + b2n v6 * 2 ^ 58 + bits v 6 5 * 2 ^ 60 + 2 ^ 62 ∧
      e.fwdW sl t j 1 = d.get (FWD.CMD_RES.W sl) % 2 ^ 17 + bits (d.get (FWD.CMD_RES.W sl)) 39 24 * 2 ^ 24 ∧
      (v6 = true → e.fwdW sl t j 2 = d.get (FWD.CMD_KEY.W sl 1) % 2 ^ 64 ∧ e.fwdW sl t j 3 = d.get (FWD.CMD_KEY.W sl 2) % 2 ^ 64)
    let run := fun (e : Dev) (st : Nat) => e.is (FWD.CMD_CTL.DONE sl) = false ∧ ∃ c, sget e.tbl.fwdCmd sl none = some c ∧ c.status = st
    sl < 8 → d.reaches (FWD.CMD_CTL.GO sl) → d.is (FWD.CMD_CTL.DONE sl) = true → d.is (GLB.PART_CTL.RETIRING sl) = false →
    (t = 3 → completes (.fwdInsert sl v) s (fun e => memSame d e ∧ run e 5) ∧ completes (.fwdDelete sl v) s (fun e => memSame d e ∧ run e 5) ∧
      completes (.fwdSetSets sl v) s (fun e => memSame d e ∧ run e 5) ∧ completes (.fwdLookup sl v) s (fun e => memSame d e ∧ run e 5)) ∧
    (t < 3 → d.cmdFind sl t = none → completes (.fwdDelete sl v) s (fun e => memSame d e ∧ run e 3) ∧
      completes (.fwdSetSets sl v) s (fun e => memSame d e ∧ run e 3) ∧ completes (.fwdLookup sl v) s (fun e => memSame d e ∧ run e 3)) ∧
    (t < 3 → d.cmdFind sl t = some k → ¬ (t = 2 ∧ d.cmdBadPrefix sl = true) → completes (.fwdInsert sl v) s (fun e => memSame d e ∧ run e 2) ∧
      completes (.fwdLookup sl v) s (fun e => memSame d e ∧ run e 0) ∧
      completes (.fwdDelete sl v) s (fun e => run e 0 ∧ stored8 d e (fwdA sl t k 0) (clrBit (d.fwdW sl t k 0) 62)) ∧
      completes (.fwdSetSets sl v) s (fun e => run e 0 ∧ stored8 d e (fwdA sl t k 0) (setBits (d.fwdW sl t k 0) 61 60 (bits v 6 5)))) ∧
    (t = 0 → d.cmdFind sl 0 = none → d.macFree sl (w % 2 ^ 60) = [k] → completes (.fwdInsert sl v) s (fun e => run e 0 ∧
      e.fwdW sl 0 k 0 = w % 2 ^ 60 + bits v 6 5 * 2 ^ 60 + 2 ^ 62 ∧ e.fwdW sl 0 k 1 = d.get (FWD.CMD_RES.W sl) % 2 ^ 40 ∧
      ∀ b, (b < fwdA sl 0 k 0 ∨ fwdA sl 0 k 0 + 16 ≤ b) → e.rdB b = d.rdB b)) ∧
    (sget d.tbl.fwdCmd sl none = some c → c.status < 8 → completes (.fwdCmdDone sl) s (fun e => memSame d e ∧ e.is (FWD.CMD_CTL.DONE sl) = true ∧
      e.get (FWD.CMD_CTL.STATUS sl) = c.status ∧ sget e.tbl.fwdCmd sl none = none)) ∧
    (t = 2 → (n < bits w 39 32 ∨ addr % 2 ^ (n - bits w 39 32) ≠ 0) → completes (.fwdInsert sl v) s (fun e => memSame d e ∧ run e 5)) ∧
    (t = 0 → d.cmdFind sl 0 = none → d.macFree sl (w % 2 ^ 60) = [] → completes (.fwdInsert sl v) s (fun e => memSame d e ∧ run e 1)) ∧
    (t = 1 → d.cmdFind sl 1 = none → hostPlaces = [] → completes (.fwdInsert sl v) s (fun e => memSame d e ∧ run e 1)) ∧
    (t = 2 → d.cmdBadPrefix sl = false → d.cmdFind sl 2 = none → (∀ j, j < 1048576 → ¬ prefixFits j) → completes (.fwdInsert sl v) s (fun e => memSame d e ∧ run e 1)) ∧
    (t = 1 → d.cmdFind sl 1 = none → hostPlaces = [k] → completes (.fwdInsert sl v) s (fun e => run e 0 ∧ holds e 1 k 0 ∧
      ∀ b, (b < fwdA sl 1 (k / 2 * 2) 0 ∨ fwdA sl 1 (k / 2 * 2) 0 + 32 ≤ b) → e.rdB b = d.rdB b)) ∧
    (t = 2 → d.cmdBadPrefix sl = false → d.cmdFind sl 2 = none → k < 1048576 → prefixFits k → completes (.fwdInsert sl v) s (fun e => run e 0 ∧
      ∃ j, j < 1048576 ∧ prefixFits j ∧ holds e 2 j (bits w 39 32) ∧ (v6 = true → ∀ i, i < 4 → e.fwdW sl 2 j (4 + i) = 0) ∧
      ∀ b, (b < fwdA sl 2 (j / 4 * 4) 0 ∨ fwdA sl 2 (j / 4 * 4) 0 + 64 ≤ b) → e.rdB b = d.rdB b))

/-- R131, R133: a direct host write of a key word is refused with KEY_WRITE, one of a result word is stored. R137: a host write of a ring's RD that passes its writer is ignored, any other is taken; a write of BASE or SIZE that is accepted leaves the ring empty. -/
def Sys2Proof.Machine.tableAndRingWritesSays : Prop :=
  ∀ (s : State) (sl k r v : Nat),
    let d := s.dev
    let a := fwdA sl 0 k 1
    let g := ringNo r
    (sl < 8 → k < 262144 → v < 2 ^ 64 → d.reaches2 (fwdA sl 0 k 0) → completes (.tableWordWrite sl (16 * k) v) s (fun e => memSame d e ∧
      e.is (FWD.CTL.KEY_WRITE sl) = true ∧ regsSame d e [(FWD.CTL.KEY_WRITE sl).key])) ∧
    (sl < 8 → k < 262144 → v < 2 ^ 64 → d.reaches2 a → fwRETIRED (d.fwdW sl 0 k 0) = false → d.is (GLB.PART_CTL.RETIRING sl) = false →
      completes (.tableWordWrite sl (16 * k + 8) v) s (fun e => stored8 d e a (v % 2 ^ 40) ∧ regsSame d e [])) ∧
    (r < 12 → v < 2 ^ 32 → d.reaches g.rd → subMod 32 (d.get g.wr) v ≤ d.get g.size → completes (.ringRdWrite r v) s (fun e => memSame d e ∧
      e.get g.rd = v ∧ regsSame d e [g.rd.key])) ∧
    (r < 12 → v < 2 ^ 32 → d.reaches g.rd → d.get g.size < subMod 32 (d.get g.wr) v → completes (.ringRdWrite r v) s (fun e => e = d)) ∧
    (r < 10 → v < 2 ^ 32 → d.reaches g.size → d.get g.wr < 2 ^ 32 → (Rule.p2 64 (ringLimits r).1).ok v = true → completes (.ringBaseSizeWrite r true v) s (fun e => memSame d e ∧
      e.get g.size = v ∧ e.get g.rd = d.get g.wr ∧ e.ringUsed g = 0)) ∧
    (r < 10 → v < 2 ^ 36 → d.reaches g.base → d.get g.wr < 2 ^ 32 → v % (ringLimits r).2 = 0 → completes (.ringBaseSizeWrite r false v) s (fun e => memSame d e ∧
      e.get g.base = v % 2 ^ g.base.w ∧ e.get g.rd = d.get g.wr ∧ e.ringUsed g = 0))

/-- Forwarding table commands, direct table writes, log rings: `tableCommandsSays`, `tableAndRingWritesSays`. -/
def Obligations.TableCommandsAndRings : Prop := tableCommandsSays ∧ tableAndRingWritesSays

-- Flows: the Face (spec/07 R143 to R163).

/-- R144, R153, R158, R185: a frame whose slice has EN = 0 goes on with no flow (R143); one whose record the Face holds goes to the flow-update unit, where it has fast actions only and nobody holds the record, or to the dispatch queue of its cluster; any other waits in the dispatch queue for the miss of its flow, one miss for all of them (log entry 29). A frame of a flow takes its place in the release order of its cluster (R26, R188). -/
def Sys2Proof.Machine.faceLookupSays : Prop :=
  ∀ (s : State) (p i : Nat) (k : Pkt) (l : Line) (m : Miss),
    let d := s.dev
    let sl := k.slice
    let t := keyType k
    let key := (flowKey (d.is (QRY.INS_CFG.SYM sl t)) k).1
    let dir := (flowKey (d.is (QRY.INS_CFG.SYM sl t)) k).2
    let h1 := d.hash1 key
    let h2 := d.hash2 key
    let q := fun (e : Dev) => sget e.eng.dq (flowCluster sl h1) []
    let flow := d.is (QRY.CTL.EN sl) = true ∧ d.is QRY.GCFG.EN = true ∧ (t % 4 = 1 ∨ t % 4 = 2) ∧ t / 4 < 3 ∧ actSKIP k.act = false ∧ k.bad = false
    let hit := d.lineFor sl h1 h2 key = some l ∧ d.lineOf sl l.handle = some l ∧ d.goneStatus sl l.handle = none
    let out := fun (e : Dev) => memSame d e ∧ e.pipe.length + 1 = d.pipe.length
    d.frameAt p 5 = some k → k.stage = .forwarded → d.blockOn sl 9 = true → d.bad = [] → (q d).length < 256 →
    (d.is (QRY.CTL.EN sl) = false → d.is (QRY.INS_CFG.NOFLOW_PROG sl t) = false → k.dest = .port i → d.eng.ord = [] → completes (.faceLookup p []) s (fun e =>
      out e ∧ e.qry = d.qry ∧ ∃ a, e.swc.adms = d.swc.adms ++ [a] ∧ a.pkt.id = k.id ∧ a.pkt.body = k.body ∧ a.dest = k.dest)) ∧
    (flow → hit → d.holder sl l.handle = none → fastOnly (nthD l.words 0 0) dir = true → completes (.faceLookup p []) s (fun e => memSame d e ∧
      e.swc = d.swc ∧ (∃ o ∈ e.ordOf (flowCluster sl h1), o.id = k.id) ∧ inPipe e k.id (fun y => y.stage = .flowUpd ∧ y.handle = l.handle ∧ y.status = 0 ∧ y.body = k.body))) ∧
    (flow → hit → d.holder sl l.handle = none → fastOnly (nthD l.words 0 0) dir = false → completes (.faceLookup p []) s (fun e => out e ∧
      ∃ y, q e = q d ++ [y] ∧ y.id = k.id ∧ y.handle = l.handle ∧ y.status = 0 ∧ y.body = k.body)) ∧
    (flow → d.lineFor sl h1 h2 key = none → d.qry.misses.find? (fun m => m.slice == sl && m.byHandle == none && m.h1 == h1 && m.h2 == h2) = some m →
      completes (.faceLookup p []) s (fun e => out e ∧ e.qry.misses = d.qry.misses ∧ ∃ y, q e = q d ++ [y] ∧ y.id = k.id ∧ y.miss = some m.id)) ∧
    (flow → d.lineFor sl h1 h2 key = none → d.qry.misses = [] → completes (.faceLookup p []) s (fun e => out e ∧
      ∃ n y, e.qry.misses = [n] ∧ n.h1 = h1 ∧ n.h2 = h2 ∧ n.fkey = key ∧ q e = q d ++ [y] ∧ y.id = k.id ∧ y.miss = some n.id))

/-- R159: the flow-update unit adds the packet to the record and applies its fast actions: VERDICT 1 and 3 discard it; without rewrite and next hop it goes on as it is. -/
def Sys2Proof.Machine.flowUpdateSays : Prop :=
  ∀ (s : State) (sl i : Nat) (k : Pkt) (l : Line),
    let d := s.dev
    let w := nthD l.words 0 0
    let added := fun (e : Dev) => e.lineOf sl k.handle = some (addDelta d.tick 1 0 k.len (some d.qryNow) l) ∧ e.pipe.length + 1 = d.pipe.length
    sl < 8 → d.flowFrame sl = some k → d.lineOf sl k.handle = some l → d.lineRetired l = false → d.blockOn sl 9 = true → d.is (QRY.FACE_CFG.WB_EN sl) = true → d.bad = [] →
    ((rVERDICT w = 1 ∨ rVERDICT w = 3) → completes (.flowUpdate sl []) s (fun e => added e ∧ noneSent d e)) ∧
    (rVERDICT w = 0 → rRWEN w = false → rNHEN w = false → k.dest = .port i → heldBack k.h1 k.h2 k.id (d.ordOf (flowCluster k.slice k.h1)) = false → completes (.flowUpdate sl []) s (fun e => added e ∧ memSame d e ∧
      ∃ a, e.swc.adms = d.swc.adms ++ [a] ∧ a.pkt.id = k.id ∧ a.pkt.body = k.body ∧ a.dest = k.dest))

/-- R155, R160, R162: a miss that can go takes its ways and issues its LOOKUP. R157, R158, R160: the answer of a LOOKUP fills the line and gives every packet of the flow that waits the handle, or frees the ways and gives them the status; a packet of another flow with equal hashes goes on waiting, for a miss of its own, and only the packet that began the miss gets NEW (log entry 29). -/
def Sys2Proof.Machine.faceMissesSays : Prop :=
  ∀ (s : State) (sl id j : Nat) (t : Txn) (m : Miss) (l : Line) (k : Pkt),
    let d := s.dev
    let one := ∀ x ∈ d.eng.dq, ∀ y ∈ x.2, y.miss = some m.id → y.fkey = m.fkey
    let free := d.waysFree sl (m.h1 % 16384)
    let q := fun (e : Dev) => sget e.eng.dq (8 * m.slice + j) []
    let ended := fun (e : Dev) => memSame d e ∧ e.qry.txns = d.qry.txns.filter (fun x => x.id != id) ∧ e.qry.misses = d.qry.misses.filter (fun x => x.id != m.id)
    sl < 8 → j < 8 →
    (d.blockOn sl 9 = true → d.missToSend sl = some m → missWays m ≤ free.length → completes (.faceMissResume sl) s (fun e => memSame d e ∧
      (∃ l, e.qry.lines = d.qry.lines ++ [l] ∧ l.st = .filling ∧ l.missId = m.id ∧ l.slice = sl ∧ l.ways = free.take (missWays m)) ∧
      ∃ x, e.qry.txns = d.qry.txns ++ [x] ∧ x.kind = .lookup ∧ x.slice = sl ∧ x.missId = m.id ∧ x.h1 = m.h1 ∧ x.h2 = m.h2 ∧ x.fkey = m.fkey)) ∧
    (d.response id = some (t, m) → d.eng.ctxs = [] → k ∈ q d → k.miss = some m.id → k.fkey ≠ m.fkey → completes (.lookupResponse id) s (fun e =>
      ∃ y ∈ q e, y.id = k.id ∧ y.handle = k.handle ∧ y.status = k.status ∧ y.miss.isSome = true)) ∧
    (d.response id = some (t, m) → d.eng.ctxs = [] → one → 1 < t.rStatus → completes (.lookupResponse id) s (fun e => ended e ∧
      e.qry.lines = d.qry.lines.filter (fun l => !(l.st == LineSt.filling && l.missId == m.id)) ∧
      q e = (q d).map (fun k => if k.miss = some m.id then { k with status := t.rStatus, handle := noFlow, miss := none, recheck := true } else k))) ∧
    (d.response id = some (t, m) → d.eng.ctxs = [] → one → t.rStatus ≤ 1 → rFULL (nthD t.rWords 0 0) = false → d.lineOf m.slice t.rHandle = none →
      d.qry.lines.find? (fun l => l.st == .filling && l.missId == m.id) = some l →
      (∀ w ∈ l.ways, d.isRetired 0 (faceLoc m.slice (m.h1 % 16384) w) = false) → completes (.lookupResponse id) s (fun e => ended e ∧
        (∃ y ∈ e.qry.lines, y.slice = m.slice ∧ y.st = .clean ∧ y.handle = t.rHandle ∧ y.words = t.rWords ∧ y.ways = l.ways.take 1) ∧
        q e = (q d).map (fun k => if k.miss = some m.id then { k with status := if t.rStatus = 1 ∧ k.id = m.pktId then 1 else 0, handle := t.rHandle, miss := none } else k)))

/-- Flow lookup in the Face, fast actions, misses and their answers: `faceLookupSays`, `flowUpdateSays`, `faceMissesSays`. -/
def Obligations.FlowLookup : Prop := faceLookupSays ∧ flowUpdateSays ∧ faceMissesSays

-- Flows: the Bench (spec/07 R161 to R176).

/-- Memory reads as before outside the record of a handle. -/
def Sys2Proof.Machine.recFrame (d e : Dev) (x : Nat) : Prop :=
  let a := d.unitA (flowHalf x) (flowUnit x)
  ∀ b, (b < a ∨ a + 8 * recLen (rFULL (d.rd64 a)) ≤ b) → e.rdB b = d.rdB b

/-- The transaction is answered. -/
def Sys2Proof.Machine.answered (e : Dev) (id st x : Nat) (ws : List Nat) : Prop :=
  ∃ y ∈ e.qry.txns, y.id = id ∧ y.done = true ∧ y.rStatus = st ∧ y.rHandle = x ∧ y.rWords = ws

/-- The other candidate bucket of the flow whose tag stands at `y` (R165). -/
def Sys2Proof.Machine.otherBucket (d : Dev) (h y : Nat) : Nat :=
  let key := recKey (d.recAt h (tINDEX (d.rd64 y)))
  if (y - d.benchA h) / 64 = d.bucketOf (d.hash1 key) then d.bucketOf (d.hash2 key) else d.bucketOf (d.hash1 key)

/-- R161, R164, R165, R166: a LOOKUP that finds a live record answers it and sets the CACHED bit of its slice; one that finds none and may not insert answers NOT_INSERTED, one that the insertion rate forbids RATE. R164, R165: one that may insert takes a unit, writes the record and then its tag and answers NEW; where no tag slot is free, a tag of a candidate bucket moves to its flow's other bucket first, and where none can move, or no unit is left, the answer is FULL. R225: a QINS inserts in the same way, and for a key that is there answers DUP. R171: a LATE transaction counts a bad packet in its record. -/
def Sys2Proof.Machine.benchLookupsSays : Prop :=
  ∀ (s : State) (id a v : Nat) (t : Txn),
    let d := s.dev
    let u := tINDEX (d.rd64 a)
    let x := d.flowOf t.half u
    let w := d.unitA t.half u
    let byKey := t.kind = .lookup ∧ t.handle = noFlow
    let room := d.buckets t.h1 t.h2
    let ring := sget d.qry.freeRings (2 * t.half + b2n t.full) []
    let n := if t.full then 2 * v else v
    let unit := d.unitA t.half n
    let new := mkFlow t.half (rGEN (d.rd64 unit)) n
    let wants := (byKey ∨ t.kind = .qins) ∧ d.findTag t.half t.h1 t.h2 t.fkey = none ∧ (t.kind = .lookup → t.ins = true) ∧ 20 ≤ d.insLevel t.half
    let fits := ring = [(v, 1)] ∧ n < 2 ^ 27 ∧ d.rowGone unit = false ∧ (t.full = true → d.rowGone (unit + 64) = false) ∧ 16 ≤ d.unitsLog ∧ t.h1 < 2 ^ 32 ∧ t.h2 < 2 ^ 32 ∧
      t.slice < 8 ∧ t.w0 < 2 ^ 56 ∧ t.w0 % 2 ^ 13 = 0 ∧ t.fkey.length = (if byteAt t.fkey 0 % 4 = 2 then 44 else 20) ∧ (byteAt t.fkey 0 % 4 = 2 → t.full = true)
    let made := fun (e : Dev) => answered e id 1 new (if t.kind = .qins then [] else e.recOf new) ∧ recKey (e.recOf new) = t.fkey ∧
      e.rd64 unit = t.w0 + (if t.kind = .qins then 0 else 2 ^ (56 + t.slice)) + b2n t.full * 2 ^ 12 + rGEN (d.rd64 unit) * 2 ^ 8 ∧
      e.rd64 (unit + 8) = 0 ∧ e.rd64 (unit + 24) = d.qryNow + d.qryNow * 2 ^ 32
    let tagged := fun (e : Dev) (y : Nat) => tVALID (e.rd64 y) = true ∧ tINDEX (e.rd64 y) = n ∧ tFP (e.rd64 y) = Nat.xor t.h1 t.h2 ∧
      tFULL (e.rd64 y) = t.full ∧ tDYING (e.rd64 y) = false ∧ tSTATIC (e.rd64 y) = false
    let outside := fun (o : Nat) => o < unit ∨ unit + 8 * recLen t.full ≤ o
    let refused := fun (e : Dev) => answered e id (if t.kind = .qins then 2 else 3) noFlow [] ∧ memSame d e ∧ raised e (EV_QRY_TABLE_FULL t.half)
    t.half < 2 → u < 2 ^ 27 → d.txnReady id = some t → d.bad = [] →
    (byKey → d.findTag t.half t.h1 t.h2 t.fkey = some a → d.handleState x = 0 → completes (.benchLookup id []) s (fun e =>
      answered e id 0 x (e.recAt t.half u) ∧ stored8 d e w (setBits (d.rd64 w) (56 + t.slice) (56 + t.slice) 1) ∧ regsSame d e [])) ∧
    (byKey → d.findTag t.half t.h1 t.h2 t.fkey = none → t.ins = false → completes (.benchLookup id []) s (fun e =>
      answered e id 5 noFlow [] ∧ memSame d e ∧ regsSame d e [])) ∧
    (byKey → d.findTag t.half t.h1 t.h2 t.fkey = none → t.ins = true → d.insLevel t.half < 20 → completes (.benchLookup id []) s (fun e =>
      answered e id 4 noFlow [] ∧ memSame d e)) ∧
    (t.kind = .qins → 20 ≤ d.insLevel t.half → d.findTag t.half t.h1 t.h2 t.fkey = some a → completes (.benchLookup id []) s (fun e =>
      answered e id 5 noFlow [] ∧ memSame d e ∧ regsSame d e [])) ∧
    (t.kind = .late → t.handle ≠ noFlow → d.handleState t.handle = 0 → completes (.benchLate id []) s (fun e =>
      e.recOf t.handle = mergeDelta (d.recOf t.handle) 0 1 0 none ∧ recFrame d e t.handle ∧ regsSame d e [] ∧ ∀ y ∈ e.qry.txns, y.id ≠ id)) ∧
    (wants → fits → d.freeTag t.half room = some a → completes (.benchLookup id []) s (fun e => made e ∧ tagged e a ∧
      ∀ o, outside o → (o < a ∨ a + 8 ≤ o) → e.rdB o = d.rdB o)) ∧
    (wants → fits → d.freeTag t.half room = none → (∀ y ∈ d.tagSlots t.half room, otherBucket d t.half y ≠ (y - d.benchA t.half) / 64 ∧
        (d.freeTag t.half [otherBucket d t.half y]).isSome = true) →
      completes (.benchLookup id []) s (fun e => made e ∧ ∃ y z, y ∈ d.tagSlots t.half room ∧ d.freeTag t.half [otherBucket d t.half y] = some z ∧
        tagged e y ∧ bits (e.rd64 z) 62 0 = bits (d.rd64 y) 62 0 ∧ ∀ o, outside o → (o < y ∨ y + 8 ≤ o) → (o < z ∨ z + 8 ≤ o) → e.rdB o = d.rdB o)) ∧
    (wants → fits → d.freeTag t.half room = none → (∀ y ∈ d.tagSlots t.half room, d.freeTag t.half [otherBucket d t.half y] = none) →
      completes (.benchLookup id []) s refused) ∧
    (wants → ring = [] → completes (.benchLookup id []) s refused)

/-- R167, R168: a write-back merges its deltas into the record, a release also clears the CACHED bit of its slice; a COMMIT with the current VER writes its STATE fields and steps VER, one with another VER merges only its deltas, raises an event and answers the record, which the Face then takes; a PUSH gives the Face the STATE fields and VER. A handle that is no longer live changes nothing. -/
def Sys2Proof.Machine.benchMergesSays : Prop :=
  ∀ (s : State) (id j : Nat) (t : Txn) (l : Line) (p : Push) (r : List Push),
    let d := s.dev
    let ws := d.recOf t.handle
    let gone := fun (e : Dev) => ∀ y ∈ e.qry.txns, y.id ≠ id
    let flush := [(QRY.FACE_CFG.FLUSH_BUSY t.slice).key]
    let ready := d.txnReady id = some t ∧ d.bad = [] ∧ t.slice < 8
    let new := mergeTxn t (mergeState (rFULL (nthD ws 0 0)) ws t.words)
    (ready → t.kind = .writeBack → d.handleState t.handle = 0 → completes (.benchWriteBack id []) s (fun e =>
      gone e ∧ e.recOf t.handle = mergeTxn t ws ∧ recFrame d e t.handle ∧ regsSame d e flush)) ∧
    (ready → t.kind = .release → d.handleState t.handle = 0 → completes (.benchRelease id []) s (fun e => gone e ∧ recFrame d e t.handle ∧ regsSame d e flush ∧
      e.recOf t.handle = setNth (mergeTxn t ws) 0 (setBits (nthD (mergeTxn t ws) 0 0) (56 + t.slice) (56 + t.slice) 0))) ∧
    (ready → t.kind = .writeBack → d.handleState t.handle ≠ 0 → completes (.benchWriteBack id []) s (fun e => gone e ∧ memSame d e ∧ regsSame d e flush)) ∧
    (ready → t.kind = .commit → d.handleState t.handle = 0 → rVER (nthD ws 0 0) = t.ver → d.eng.stepCmd = [] → completes (.benchCommit id []) s (fun e => gone e ∧
      e.recOf t.handle = setNth new 0 (setBits (nthD new 0 0) 7 0 (t.ver + 1)) ∧ recFrame d e t.handle ∧ regsSame d e [] ∧
      ∀ i, i < 8 → i ≠ t.slice → bit (rCACHED (nthD ws 0 0)) i = true → ∃ y ∈ e.qry.pushes, y.slice = i ∧ y.handle = t.handle ∧ y.ctx = t.ctx)) ∧
    (ready → t.kind = .commit → d.handleState t.handle = 0 → rVER (nthD ws 0 0) ≠ t.ver → completes (.benchCommit id []) s (fun e =>
      answered e id 1 t.handle (e.recOf t.handle) ∧ e.recOf t.handle = mergeTxn t ws ∧ recFrame d e t.handle ∧ raised e (EV_QRY_STATE_CONFLICT t.slice))) ∧
    (d.qry.txns.find? (fun t => t.id == id && t.kind == .commit && t.done) = some t → d.lineOf t.slice t.handle = some l → d.eng.stepCmd = [] → completes (.commitResponse id) s (fun e =>
      gone e ∧ memSame d e ∧ regsSame d e [] ∧ (t.ctx ≠ 0 → (e.ctx (t.ctx - 1)).conflict = true) ∧
      e.lineOf t.slice t.handle = some { l with words := mergeState (rFULL (nthD t.rWords 0 0)) l.words t.rWords, ver := rVER (nthD t.rWords 0 0) })) ∧
    (d.pushAt j = some (p, r) → d.lineOf p.slice p.handle = some l → completes (.pushReceive j) s (fun e => memSame d e ∧ regsSame d e [] ∧ e.qry.pushes = r ∧
      e.lineOf p.slice p.handle = some { l with words := mergeState (rFULL (nthD l.words 0 0)) l.words p.words, ver := rVER (nthD p.words 0 0) }))

/-- What the Bench does with lookups, write-backs, commits, releases and pushes: `benchLookupsSays`, `benchMergesSays`. -/
def Obligations.BenchTransactions : Prop := benchLookupsSays ∧ benchMergesSays

/-- R163: a transaction without answer in time is given up with an event: a LOOKUP's packets get TIMEOUT, the line of another is dropped; a result that arrives afterwards is discarded (R410). R168: a line that has been dirty for FLUSH_MS writes its deltas back and stays; one without hit for IDLE_MS is released; FLUSH_ALL writes every dirty line back. -/
def Sys2Proof.Machine.timeoutsAndFlushSays : Prop :=
  ∀ (s : State) (sl x id v : Nat) (t : Txn) (m : Miss) (l : Line),
    let d := s.dev
    let late := d.qry.txns.find? (fun y => y.id == id) = some t ∧ t.done = false ∧ ((d.timedOut t = true ∧ d.cutOff t = false) ∨ (d.timedOut t = false ∧ d.cutOff t = true)) ∧ t.slice < 8
    let sent := fun (e : Dev) (k : TxnKind) => memSame d e ∧ ∃ y, e.qry.txns = d.qry.txns ++ [y] ∧ y.kind = k ∧ y.slice = sl ∧ y.handle = l.handle ∧
      y.dPkts = l.dPkts ∧ y.dOct = l.dOct
    let ends := fun (e : Dev) => memSame d e ∧ raised e (EV_QRY_BENCH_TIMEOUT t.slice) ∧ e.qry.txns = d.qry.txns.filter (fun y => y.id != id)
    sl < 8 →
    (late → t.kind = .lookup → d.qry.misses.find? (fun y => y.id == t.missId) = some m → d.eng.ctxs = [] → completes (.benchTimeout id) s (fun e => ends e ∧
      e.qry.lines = d.qry.lines.filter (fun l => !(l.st == LineSt.filling && l.missId == m.id)) ∧ e.qry.misses = d.qry.misses.filter (fun y => y.id != m.id))) ∧
    (late → (t.kind = .writeBack ∨ t.kind = .commit ∨ t.kind = .release) → t.ctx = 0 → d.lineOf t.slice t.handle = some l →
      completes (.benchTimeout id) s (fun e => ends e ∧ l ∉ e.qry.lines)) ∧
    (d.qry.txns.find? (fun y => y.id == id) = some t → t.done = true → t.kind = .lookup → d.timedOut t = true → d.cutOff t = false → t.slice < 8 → d.eng.ctxs = [] →
      d.qry.misses.find? (fun y => y.id == t.missId) = some m → completes (.benchTimeout id) s (fun e => ends e ∧ e.qry.lates = d.qry.lates ++ [t])) ∧
    (d.qry.lates.find? (fun y => y.id == id) = some t → t.kind = .lookup → d.response id = none → completes (.lookupResponse id) s (fun e => memSame d e ∧
      e.qry.lates = d.qry.lates.filter (fun y => y.id != id) ∧ e.qry.lines = d.qry.lines ∧ e.qry.misses = d.qry.misses ∧ e.qry.txns = d.qry.txns)) ∧
    (d.lineOf sl x = some l → wordsGood d sl l → l.st = .dirty → d.is (QRY.FACE_CFG.WB_EN sl) = true → d.get (QRY.FACE_CFG.FLUSH_MS sl) * 1000000 ≤ d.tick - l.dirtyAt →
      completes (.faceFlush sl x) s (fun e => sent e .writeBack ∧ e.lineOf sl x = some (cleanLine l))) ∧
    (d.lineOf sl x = some l → wordsGood d sl l → d.pinned l = false → d.awaited l = false → d.get (QRY.FACE_CFG.IDLE_MS sl) * 1000000 ≤ d.tick - l.hitAt →
      completes (.faceIdleRelease sl x) s (fun e => sent e .release ∧ l ∉ e.qry.lines)) ∧
    (d.reaches (QRY.FACE_CFG.WB_EN sl) → v < 2 ^ 32 → d.qry.lines.filter (fun l => l.slice == sl && l.st == .dirty) = [l] → d.lineOf sl l.handle = some l → wordsGood d sl l →
      completes (.faceFlushAll sl v) s (fun e => sent e .writeBack ∧ e.lineOf sl l.handle = some (cleanLine l) ∧ e.is (QRY.FACE_CFG.FLUSH_BUSY sl) = true))

/-- R169: the sweep asks for the deletion of a record that no slice caches and that is old enough, and of no other. R170, R171: a deletion marks the tag DYING and asks every caching slice; a stale handle changes nothing; a slice that drops its line has answered; the end clears the tag, steps GEN and gives the unit back. -/
def Sys2Proof.Machine.agingAndDeletionSays : Prop :=
  ∀ (s : State) (h b j id a sl : Nat) (y : Del),
    let d := s.dev
    let t := d.rd64 (d.tagA h b j)
    let u := tINDEX t
    let w0 := d.rd64 (d.unitA h u)
    let old := rCACHED w0 = 0 ∧ d.get (QRY.AGE_MAX.MAX (rAGE w0)) ≤ subMod 32 d.qryNow (bits (d.rd64 (d.unitA h u + 24)) 31 0)
    let live := d.halfOn h = true ∧ d.is QRY.AGE_CFG.AGE_EN = true ∧ d.is QRY.GCFG.READY = true ∧ b < 2 ^ (d.unitsLog - 2) ∧ j < 8 ∧
      tVALID t = true ∧ tSTATIC t = false ∧ tDYING t = false ∧ d.anyWaits (d.tagA h b j :: d.recRows (d.flowOf h u)) = false
    let v0 := nthD (d.recOf y.handle) 0 0
    let unit := d.unitA (flowHalf y.handle) (flowUnit y.handle)
    let ring := 2 * flowHalf y.handle + b2n (rFULL (d.rd64 unit))
    let next := d.qry.dels.find? (fun z => z.id == id && !z.started) = some y ∧ y.reason ≠ 3 ∧ y.cmp = none ∧ d.halfOn (flowHalf y.handle) = true ∧ d.anyWaits (d.recRows y.handle) = false
    let rest := fun (e : Dev) => ∀ z ∈ e.qry.dels, z.id ≠ id
    h < 2 → sl < 8 → d.bad = [] →
    (live → old → completes (.qryAgeVisit h b j []) s (fun e => memSame d e ∧ regsSame d e [] ∧
      ∃ z, e.qry.dels = d.qry.dels ++ [z] ∧ z.handle = d.flowOf h u ∧ z.reason = 0 ∧ z.started = false)) ∧
    (live → ¬ old → completes (.qryAgeVisit h b j []) s (fun e => e = d)) ∧
    (next → d.handleState y.handle = 0 → rLOGEND v0 = false → d.tagOf (flowHalf y.handle) (flowUnit y.handle) = some a → completes (.benchDelete id []) s (fun e =>
      stored8 d e a (setBit (d.rd64 a) 61) ∧ regsSame d e [] ∧ ∃ z ∈ e.qry.dels, z.id = id ∧ z.started = true ∧ z.handle = y.handle ∧
        ∀ i, i < 8 → (i ∈ z.waits ↔ bit (rCACHED v0) i = true))) ∧
    (next → d.handleState y.handle ≠ 0 → completes (.benchDelete id []) s (fun e => memSame d e ∧ regsSame d e [] ∧ rest e)) ∧
    (d.delFor id sl = some y → d.qry.dels.find? (fun z => z.id == id) = some y → completes (.deleteInvalidate id sl) s (fun e => memSame d e ∧ regsSame d e [] ∧
      (∀ l, d.lineOf sl y.handle = some l → l ∉ e.qry.lines) ∧
      e.qry.dels.find? (fun z => z.id == id) = some { y with waits := y.waits.filter (fun i => i != sl) })) ∧
    (d.qry.dels.find? (fun y => y.id == id && y.started && y.waits.isEmpty) = some y → d.tagOf (flowHalf y.handle) (flowUnit y.handle) = some a → 16 ≤ d.unitsLog →
      d.rowGone unit = false → rFULL (d.rd64 unit) = false → completes (.deleteFinish id) s (fun e => rest e ∧ e.rd64 a = 0 ∧
        e.rd64 unit = setBits (d.rd64 unit) 11 8 (rGEN (d.rd64 unit) + 1) ∧
        sget e.qry.freeRings ring [] = sget d.qry.freeRings ring [] ++ [(flowUnit y.handle, 1)] ∧
        ∀ o, (o < a ∨ a + 8 ≤ o) → (o < unit ∨ unit + 8 ≤ o) → e.rdB o = d.rdB o))

/-- Bench timeouts, flushes, aging and deletion of records: `timeoutsAndFlushSays`, `agingAndDeletionSays`. -/
def Obligations.FlowUpkeep : Prop := timeoutsAndFlushSays ∧ agingAndDeletionSays

/-- R174: the Quarry's commands and the statuses they end with; INSERT pays no regard to the insertion rate (log entry 26), and while EN or READY is 0 no record is found and none can be inserted (log entry 101). DONE of a DELETE or a WRITE waits for its deletion and its PUSHes. R150, R175: GCFG takes the size only while EN = 0 and starts the clear; EN = 0 discards the lines, transactions, deletions and the index; after the clear READY is 1 and the index is empty. -/
def Obligations.QuarryCommands : Prop :=
  ∀ (s : State) (v e0 a h : Nat) (c : HostCmd),
    let d := s.dev
    let k := (d.set QRY.CMD_CTL.KTYPE (bits v 15 12)).qryCmdKey
    let h1 := d.hash1 k
    let h2 := d.hash2 k
    let hf := h1 / 2 ^ 31
    let f := d.findTag hf h1 h2 k
    let x := d.get QRY.CMD_HANDLE.HANDLE
    let ws := d.recOf x
    let may := d.reaches QRY.CMD_CTL.GO ∧ d.is QRY.CMD_CTL.DONE = true ∧ d.bad = [] ∧ v < 2 ^ 32
    let up := d.is QRY.GCFG.EN = true ∧ d.is QRY.GCFG.READY = true
    let byHandle := up ∧ x ≠ noFlow ∧ d.handleState x = 0
    let run := fun (e : Dev) (st : Nat) => e.is QRY.CMD_CTL.DONE = false ∧ ∃ c, e.qry.qryCmd = some c ∧ c.status = st
    let new := mergeState (rFULL (nthD ws 0 0)) ws d.qryCmdData
    let u := bits v 4 0
    let n := 2 ^ d.unitsLog
    (may → f = none → completes (.qryLookup v []) s (fun e => run e 1 ∧ memSame d e)) ∧
    (may → up → f = some a → d.handleState (d.flowOf hf (tINDEX (d.rd64 a))) = 0 → completes (.qryLookup v []) s (fun e => run e 0 ∧ memSame d e ∧
      ∃ c, e.qry.qryCmd = some c ∧ c.addr = d.flowOf hf (tINDEX (d.rd64 a)) + 1)) ∧
    (may → up → f = some a → completes (.qryInsert v []) s (fun e => run e 2 ∧ memSame d e)) ∧
    (may → up → f = none → sget d.qry.freeRings (2 * hf + 1) [] = [] → sget d.qry.freeRings (2 * hf) [] = [] → completes (.qryInsert v []) s (fun e =>
      run e 3 ∧ memSame d e ∧ raised e (EV_QRY_TABLE_FULL hf))) ∧
    (may → up → f = none → bits v 4 4 = 0 → bits v 15 12 % 4 ≠ 2 → sget d.qry.freeRings (2 * hf) [] = [(e0, 1)] → e0 < 2 ^ 27 → d.rowGone (d.unitA hf e0) = false →
      d.freeTag hf (d.buckets h1 h2) = some a → 16 ≤ d.unitsLog → h1 < 2 ^ 32 → h2 < 2 ^ 32 → completes (.qryInsert v []) s (fun e => run e 0 ∧
        tVALID (e.rd64 a) = true ∧ tINDEX (e.rd64 a) = e0 ∧ tFP (e.rd64 a) = Nat.xor h1 h2 ∧ tDYING (e.rd64 a) = false)) ∧
    (may → byHandle → completes (.qryDelete v []) s (fun e => run e 0 ∧ memSame d e ∧
      ∃ z, e.qry.dels = d.qry.dels ++ [z] ∧ z.handle = x ∧ z.reason = 1 ∧ z.started = false)) ∧
    (may → byHandle → d.qry.lines = [] → completes (.qryRead v []) s (fun e => run e 0 ∧ memSame d e ∧ ∃ c, e.qry.qryCmd = some c ∧ c.addr = x + 1)) ∧
    (may → byHandle → completes (.qryWrite v []) s (fun e => run e 0 ∧ recFrame d e x ∧
      e.recOf x = setNth new 0 (setBits (nthD new 0 0) 7 0 (rVER (nthD ws 0 0) + 1)))) ∧
    (d.qry.qryCmd = some c → d.flt.repairs = [] → c.waiting = false → c.addr = 0 → c.status < 16 → completes .qryCmdDone s (fun e => memSame d e ∧ e.qry.qryCmd = none ∧
      e.is QRY.CMD_CTL.DONE = true ∧ e.get QRY.CMD_CTL.STATUS = c.status)) ∧
    (d.qry.qryCmd = some c → d.flt.repairs = [] → c.waiting = true → c.addr = x + 1 → d.qry.txns = [] → completes .qryCmdDone s (fun e => memSame d e ∧ e.qry.qryCmd = none ∧
      e.is QRY.CMD_CTL.DONE = true ∧ ∀ w, w < 16 → e.get (QRY.CMD_DATA.W w) = nthD ws w 0)) ∧
    (d.reaches QRY.GCFG.UNITS_LOG2 → v < 2 ^ 32 → d.is QRY.GCFG.EN = false → 16 ≤ u → u ≤ 27 → d.get QRY.SPLIT.SPLIT ≤ 2 ^ u → bit v 5 = true →
      completes (.qryGcfgWrite v) s (fun e => memSame d e ∧ e.get QRY.GCFG.UNITS_LOG2 = u ∧ e.is QRY.GCFG.EN = true ∧ e.qry.qryInit = true)) ∧
    (d.reaches QRY.GCFG.UNITS_LOG2 → v < 2 ^ 32 → d.is QRY.GCFG.EN = true → bit v 5 = true → completes (.qryGcfgWrite v) s (fun e => memSame d e ∧
      e.qry = d.qry ∧ regsSame d e [QRY.GCFG.BENCH_TMO.key])) ∧
    (d.reaches QRY.GCFG.UNITS_LOG2 → v < 2 ^ 32 → d.is QRY.GCFG.EN = true → bit v 5 = false → d.qry.misses = [] → completes (.qryGcfgWrite v) s (fun e =>
      e.is QRY.GCFG.EN = false ∧ e.is QRY.GCFG.READY = false ∧ e.qry.lines = [] ∧ e.qry.txns = [] ∧ e.qry.dels = [] ∧
      (h < 2 → d.get (QRY.BENCH_BASE.GIB h) < 64 → n < 2 ^ 27 → ∀ o, o < 2 ^ (d.unitsLog + 4) → e.rdB (d.benchA h + o) = 0))) ∧
    (h < 2 → d.qry.qryInit = true → d.get (QRY.BENCH_BASE.GIB h) < 64 → n < 2 ^ 27 → 0 < d.get QRY.SPLIT.SPLIT → d.get QRY.SPLIT.SPLIT ≤ n → completes .benchInitDone s (fun e =>
      e.is QRY.GCFG.READY = true ∧ e.qry.qryInit = false ∧ sget e.qry.freeRings (2 * h) [] = [(0, d.get QRY.SPLIT.SPLIT)] ∧
      ∀ o, o < 2 ^ (d.unitsLog + 4) → e.rdB (d.benchA h + o) = 0)) ∧
    (d.qry.qryCmd = some c → c.waiting = true → c.addr = 0 → c.status < 16 → d.flt.repairs = [] →
      ((∃ y ∈ d.qry.dels, y.byHost = true) ∨ (∃ p ∈ d.qry.pushes, p.ctx = hostPush) → completes .qryCmdDone s (fun e => e = d)) ∧
      ((∀ y ∈ d.qry.dels, y.byHost = false) → (∀ p ∈ d.qry.pushes, p.ctx ≠ hostPush) → completes .qryCmdDone s (fun e => memSame d e ∧ e.qry.qryCmd = none ∧
        e.is QRY.CMD_CTL.DONE = true ∧ e.get QRY.CMD_CTL.STATUS = c.status)))

-- Patch staging (spec/09 R233 to R236).

/-- R233 to R236, Table 9.8: GO registers the command, or its refusal, and a second GO while DONE = 0 is ignored; a refused command ends with its status and writes nothing (COUNT 0 with status 4, and which refusal comes first: log entry 63); a WRITE whose segment is right writes its words with good parity; a REPAIR of a word that is not broken changes nothing; a COPY gives the staged bank the words of the active one, with good parity (R211). -/
def Obligations.PatchCommands : Prop :=
  ∀ (s : State) (c v n dst src crc x : Nat) (k : HostCmd),
    let d := s.dev
    let go := d.reaches (ENG.PATCH_CTL.GO c) ∧ v < 2 ^ 36
    let fields := fun (e : Dev) => e.get (ENG.PATCH_CTL.COUNT c) = bits v 34 21 ∧ e.get (ENG.PATCH_CTL.DST c) = bits v 20 8 ∧ e.is (ENG.PATCH_CTL.DONE c) = false ∧ memSame d e
    let given := fun (e : Dev) (st : Nat) => ∃ y, sget e.eng.patch c none = some y ∧ y.status = st
    let done := fun (e : Dev) (st : Nat) => e.get (ENG.PATCH_CTL.STATUS c) = st ∧ e.is (ENG.PATCH_CTL.DONE c) = true ∧ sget e.eng.patch c none = none
    let runs := sget d.eng.patch c none = some k ∧ k.status = 0 ∧ d.bad = [] ∧ k.at_ = x ∧ x < 2
    let fresh := ∀ i, i < 8192 → d.lastingWord c x i = false
    let able := d.clusterOn c = true ∧ d.flt.repairs = []
    c < 64 →
    (go → d.is (ENG.PATCH_CTL.DONE c) = false → completes (.patchWrite c v) s (fun e => e = d) ∧ completes (.patchCopy c v) s (fun e => e = d) ∧
      completes (.patchRepair c v) s (fun e => e = d)) ∧
    (go → d.is (ENG.PATCH_CTL.DONE c) = true → d.is GLB.PATCH_LOCK.LOCK = true → completes (.patchWrite c v) s (fun e => fields e ∧ given e 1) ∧
      completes (.patchCopy c v) s (fun e => fields e ∧ given e 1) ∧ completes (.patchRepair c v) s (fun e => fields e ∧ given e 1)) ∧
    (go → d.is (ENG.PATCH_CTL.DONE c) = true → d.is GLB.PATCH_LOCK.LOCK = false → bits v 34 21 = 0 → completes (.patchWrite c v) s (fun e => fields e ∧ given e 4) ∧
      completes (.patchRepair c v) s (fun e => fields e ∧ given e 4)) ∧
    (go → d.is (ENG.PATCH_CTL.DONE c) = true → d.is GLB.PATCH_LOCK.LOCK = false → d.is (GLB.PART_CTL.RETIRING (8 + c)) = true → completes (.patchCopy c v) s (fun e =>
      fields e ∧ given e 3 ∧ e.is (GLB.PART_CTL.WRITE_REFUSED (8 + c)) = true ∧ raised e EV_PART_WRITE_REFUSED)) ∧
    (able → sget d.eng.patch c none = some k → 0 < k.status → k.status < 16 → completes (.patchDone c [] []) s (fun e => done e k.status ∧ memSame d e)) ∧
    (able → runs → k.data = [0, n, dst, src, crc] → dst + n ≤ 8192 → d.segCrcBad c src n crc = false → d.segBad c src n = false → fresh → completes (.patchDone c [] []) s (fun e =>
      done e 0 ∧ (∀ i, i < n → e.ucodeWord c x (dst + i) = ucodeParity (d.rd 20 (segA c src i))) ∧
      ∀ b, (b < ucodeA c x dst ∨ ucodeA c x (dst + n) ≤ b) → e.rdB b = d.rdB b)) ∧
    (able → runs → k.data = [0, n, dst, src, crc] → d.segCrcBad c src n crc = true → completes (.patchDone c [] []) s (fun e => done e 2 ∧ memSame d e)) ∧
    (able → runs → k.data = [2, 1, dst, src, crc] → d.segCrcBad c src 1 crc = false → d.segBad c src 1 = false → ucodeFails (d.ucodeWord c x dst) = 0 →
      completes (.patchDone c [] []) s (fun e => done e 5 ∧ memSame d e)) ∧
    (able → runs → nthD k.data 0 0 = 1 → Memory.wf d.mem = true → fresh → completes (.patchDone c [] []) s (fun e => done e 0 ∧
      ∀ a, a < 8192 → e.ucodeWord c x a = ucodeParity (d.ucodeWord c (1 - x) a))) ∧
    (go → d.is (ENG.PATCH_CTL.DONE c) = true → d.is GLB.PATCH_LOCK.LOCK = false → 1 ≤ bits v 34 21 → bits v 20 8 + bits v 34 21 ≤ 8192 →
      d.get (ENG.PATCH_SRC.OFFSET c) % 64 = 0 → bit v 35 = false → d.is (GLB.PART_CTL.RETIRING (8 + c)) = false → completes (.patchWrite c v) s (fun e => fields e ∧ given e 0)) ∧
    (go → d.is (ENG.PATCH_CTL.DONE c) = true → d.is GLB.PATCH_LOCK.LOCK = false → d.is (GLB.PART_CTL.RETIRING (8 + c)) = false →
      completes (.patchCopy c v) s (fun e => fields e ∧ given e 0)) ∧
    (go → d.is (ENG.PATCH_CTL.DONE c) = true → d.is GLB.PATCH_LOCK.LOCK = false → 1 ≤ bits v 34 21 → bits v 20 8 + bits v 34 21 ≤ 8192 →
      d.get (ENG.PATCH_SRC.OFFSET c) % 64 = 0 → completes (.patchRepair c v) s (fun e => fields e ∧ given e 0))

-- Buffer pools (spec/11 R270 to R284).

/-- R270, R274: EN takes effect where the pool configuration is right, else CFG_ERR and an event; initialisation frees every buffer of its half, whatever its metadata word held, and fills the caches; a page over a withdrawn row stays out of service, RETIRED and PARKED (R403). A batch moves 64 handles. R272, R281, R284: READ_META and FIND_Q and the statuses they end with, BAD_HANDLE for one that names no buffer. -/
def Obligations.PoolsAndCommands : Prop :=
  ∀ (s : State) (h v k x : Nat) (c : HostCmd),
    let d := s.dev
    let idle := (∀ i, i < 4 → d.is (SWC.CTL.EN (4 * h + i)) = false) ∧ ∀ i, i < 32 → d.is (ENG.CL_CTL.EN (32 * h + i)) = false
    let n := d.get (BPM.POOL_CFG.COUNT h k)
    let y := d.get (BPM.CMD_HANDLE.HANDLE h)
    let w := d.binfo h y
    let go := d.reaches (BPM.CMD_CTL.GO h) ∧ d.is (BPM.CMD_CTL.DONE h) = true
    let run := fun (e : Dev) (st : Nat) (l : List Nat) => memSame d e ∧ e.is (BPM.CMD_CTL.DONE h) = false ∧ ∃ c, sget e.buf.cmd h none = some c ∧ c.status = st ∧ c.data = l
    h < 2 → k < 8 →
    (d.reaches (BPM.CTL.EN h) → bit v 0 = true → d.is (BPM.CTL.EN h) = false → d.poolsOk h = true → completes (.bpmEnable h v) s (fun e => memSame d e ∧
      e.is (BPM.CTL.EN h) = true ∧ e.buf = d.buf)) ∧
    (d.reaches (BPM.CTL.EN h) → bit v 0 = true → d.is (BPM.CTL.EN h) = false → d.poolsOk h = false → completes (.bpmEnable h v) s (fun e => memSame d e ∧
      e.is (BPM.CTL.EN h) = false ∧ e.is (BPM.CTL.CFG_ERR h) = true ∧ raised e (EV_BPM_CFG_ERR h) ∧ e.buf = d.buf)) ∧
    (d.reaches (BPM.CTL.EN h) → bit v 0 = false → idle → completes (.bpmEnable h v) s (fun e => memSame d e ∧ e.is (BPM.CTL.EN h) = false ∧ e.is (BPM.CTL.READY h) = false)) ∧
    (d.is (BPM.CTL.EN h) = true → d.is (BPM.CTL.READY h) = false → (∀ r ∈ d.flt.retired, ¬ (r.1 = 7 ∧ r.2 / 2 ^ 30 % 2 = h)) → d.is (BPM.POOL_CFG.EN h k) = true → completes (.bpmInitDone h) s (fun e =>
      memSame d e ∧ e.is (BPM.CTL.READY h) = true ∧ runsLen (e.cacheOf h k) = min 1024 n ∧ runsLen (e.cacheOf h k) + runsLen (e.ringOf h k) = n ∧
      ∀ x, x < 2 ^ 32 → e.binfo h x = 0x80000000 ∧ e.metaErr h x = false ∧ e.binfo (1 - h) x = d.binfo (1 - h) x)) ∧
    (d.bad = [] → d.halfOn h = true → d.flt.repairs = [] → d.is (BPM.CTL.READY h) = true → runsLen (d.cacheOf h k) < 128 → runsLen (d.ringOf h k) ≠ 0 → completes (.ringBatch h k) s (fun e => memSame d e ∧
      e.cacheOf h k = d.cacheOf h k ++ (runsSplit (d.ringOf h k) 64).1 ∧ e.ringOf h k = (runsSplit (d.ringOf h k) 64).2)) ∧
    (go → d.handleOk h y = true → d.metaErr h y = false → completes (.readMeta h v) s (fun e => run e 0 [w] ∧ ∀ z, e.binfo h z = d.binfo h z)) ∧
    (go → d.handleOk h y = false → completes (.readMeta h v) s (fun e => run e 1 [] ∧ raised e (EV_BUF_BAD_HANDLE h)) ∧
      completes (.releaseQ h v) s (fun e => run e 1 [] ∧ raised e (EV_BUF_BAD_HANDLE h)) ∧ completes (.findQ h v) s (fun e => run e 1 [] ∧ raised e (EV_BUF_BAD_HANDLE h))) ∧
    (go → d.handleOk h y = true → d.bad = [] → (∀ z ∈ d.buf.info, mQUAR z.2 = false ∧ metaBad z.2 = false) → completes (.findQ h v) s (fun e => run e 2 [])) ∧
    (sget d.buf.cmd h none = some c → c.data = [x] → x < 2 ^ 32 → c.status < 16 → completes (.bpmCmdDone h) s (fun e => memSame d e ∧
      e.get (BPM.CMD_DATA.DATA h) = x ∧ e.get (BPM.CMD_CTL.STATUS h) = c.status ∧ e.is (BPM.CMD_CTL.DONE h) = true ∧ sget e.buf.cmd h none = none)) ∧
    (∀ z, go → d.handleOk h y = true → d.bad = [] → ssorted d.buf.info = true → z < 2 ^ 32 → y ≤ z → handlePool z = handlePool y → d.handleOk h z = true →
      mQUAR (d.binfo h z) = true → d.metaErr h z = false → (∀ i, y ≤ i → i < z → d.handleOk h i = true → mQUAR (d.binfo h i) = false ∧ d.metaErr h i = false) →
      completes (.findQ h v) s (fun e => run e 0 [z])) ∧
    (∀ l u, d.is (BPM.CTL.EN h) = true → d.is (BPM.CTL.READY h) = false → 4 ≤ k → d.is (BPM.POOL_CFG.EN h k) = true → (7, l) ∈ d.flt.retired → l / 2 ^ 30 % 2 = h → u < n →
      touchesRow l (d.bufA h (d.bufHandle h k u) 0) (poolSize k) = true → d.handleOk h (d.bufHandle h k u) = true → d.bufNo h (d.bufHandle h k u) = u → d.bufHandle h k u < 2 ^ 32 →
      completes (.bpmInitDone h) s (fun e => memSame d e ∧ mRETIRED (e.binfo h (d.bufHandle h k u)) = true ∧ mPARKED (e.binfo h (d.bufHandle h k u)) = true ∧
        runsHas (e.cacheOf h k) u = false ∧ runsHas (e.ringOf h k) u = false))

/-- R282: RELEASE_Q clears QUAR; where the buffer is PARKED it also clears PARKED, sets REFCNT to 0 and returns the handle to the ring, else the buffer stays in service; a buffer with RETIRED set is refused with status RETIRED. The metadata word has no parity error (R284 speaks of those). -/
def Obligations.ReleaseQ : Prop :=
  ∀ (s : State) (h v : Nat),
    let d := s.dev
    let y := d.get (BPM.CMD_HANDLE.HANDLE h)
    let w := d.binfo h y
    let go := d.reaches (BPM.CMD_CTL.GO h) ∧ d.is (BPM.CMD_CTL.DONE h) = true
    let run := fun (e : Dev) (st : Nat) (l : List Nat) => memSame d e ∧ e.is (BPM.CMD_CTL.DONE h) = false ∧ ∃ c, sget e.buf.cmd h none = some c ∧ c.status = st ∧ c.data = l
    h < 2 →
    (go → d.handleOk h y = true → d.metaErr h y = false → mRETIRED w = true → completes (.releaseQ h v) s (fun e => run e 3 [] ∧ ∀ z, e.binfo h z = d.binfo h z)) ∧
    (go → d.handleOk h y = true → d.metaErr h y = false → mRETIRED w = false → mPARKED w = false → completes (.releaseQ h v) s (fun e => run e 0 [] ∧ e.binfo h y = metaParity (clrBit w 21) ∧
      ∀ z, z ≠ y → e.binfo h z = d.binfo h z)) ∧
    (go → d.handleOk h y = true → d.metaErr h y = false → mRETIRED w = false → mPARKED w = true → completes (.releaseQ h v) s (fun e => run e 0 [] ∧ e.binfo h y = 0x80000000 ∧
      e.ringOf h (handlePool y) = d.ringOf h (handlePool y) ++ [(d.bufNo h y, 1)]))

-- The switch core (spec/12).

/-- An admission request for one frame, without launch time, for queue `a.queue` of port `p`. -/
def Sys2Proof.Machine.plainAdm (d : Dev) (a : Adm) (p : Nat) : Prop :=
  d.swc.adms = [a] ∧ a.mirrored = true ∧ a.txe = 0 ∧ a.needRef = [] ∧ d.swcTakes a = true ∧ a.kind = 0 ∧ a.pkt.launchReq = none ∧
    bit (d.qLaunch p a.queue a.pkt.epoch) 2 = false ∧ p < 265 ∧ a.queue < 16 ∧ a.slice < 8 ∧ a.srcHalf < 2 ∧
    (a.pkt.port < 265 ∨ a.pkt.port = 511)

/-- The frame has joined the end of the queue, on die. -/
def Sys2Proof.Machine.joined (d e : Dev) (a : Adm) (p : Nat) : Prop :=
  ∃ y, (e.queue p a.queue).ents = (d.queue p a.queue).ents ++ [y] ∧ y.pkt.id = a.pkt.id ∧ y.pkt.body = a.pkt.body ∧ y.cells = a.pkt.cells ∧ y.spilled = false

/-- The buffers of a frame: each is in service and has no error, and the frame path holds one of its references. -/
def Sys2Proof.Machine.ownBufs (d : Dev) (k : Pkt) : Prop :=
  let h := k.bufSlice / 4
  d.bad = [] ∧ k.bufs.Nodup ∧ ∀ x ∈ k.bufs, d.handleOk h x = true ∧ d.metaErr h x = false ∧ 1 ≤ mREF (d.binfo h x) ∧ mREF (d.binfo h x) < 254 ∧
    (mOWNER (d.binfo h x) = framePath k.bufSlice ∨ mGONE (d.binfo h x) = true) ∧ mQUAR (d.binfo h x) = false

/-- Each of the frame's buffers has a reference less, and one without a reference can be granted again (Table 11.3); no other buffer has changed. -/
def Sys2Proof.Machine.freed (d e : Dev) (k : Pkt) : Prop :=
  let h := k.bufSlice / 4
  let listed := fun (x : Nat) => runsHas (e.cacheOf h (handlePool x)) (d.bufNo h x) = true ∨ runsHas (e.ringOf h (handlePool x)) (d.bufNo h x) = true
  (∀ x ∈ k.bufs, mREF (e.binfo h x) + 1 = mREF (d.binfo h x) ∧ (mREF (d.binfo h x) = 1 → listed x)) ∧ ∀ x, x ∉ k.bufs → e.binfo h x = d.binfo h x

/-- R286, R287, R288, Table 12.2: a frame that passes every check joins its queue and is counted; one that fails a check, or whose port does not exist (R314), is discarded and its buffers are freed; one for the other half crosses the die-to-die link (R309). R289: a green frame whose queue is then above its mark counts in RECOLOURED, and the copies of it that are still to be admitted are yellow; no other frame changes a colour. R278, R303, R304: a group without a valid entry discards the frame and frees its buffers; a member port of the frame's own half takes a copy, and one of the other half has it sent across, each with a reference of its own, and the reference of the grant is dropped. -/
def Obligations.Admission : Prop :=
  ∀ (s : State) (p g : Nat) (bw : Bool) (a : Adm),
    let d := s.dev
    let q := a.queue
    let onDie := (d.queue p q).spill = false ∧ d.get (SWC.QUEUE_SPILL.SPILL_THR p q) = 0x7FFFF
    let gone := fun (e : Dev) => e.swc.adms = [] ∧ e.swc.queues = d.swc.queues ∧ e.swc.crosses = d.swc.crosses ∧ ∀ p, p < 265 → ∀ q, q < 16 → e.get (qCntF a.srcHalf p q) = d.get (qCntF a.srcHalf p q)
    let w4 := d.rd64 (d.groupA a.srcHalf g 4)
    let single := a.dest = .group g ∧ ownBufs d a.pkt ∧ a.srcHalf = a.pkt.bufSlice / 4 ∧ d.swc.crosses = [] ∧ bit w4 0 = true ∧ bit w4 1 = false ∧ bit w4 2 = false ∧
      d.members a.srcHalf g = [p] ∧ d.portExists p = true ∧ d.admitCheck a p q = 0
    let shared := fun (e : Dev) => ∀ x ∈ a.pkt.bufs, mREF (e.binfo a.srcHalf x) = mREF (d.binfo a.srcHalf x) ∧ mGONE (e.binfo a.srcHalf x) = true
    let mark := d.get (SWC.QUEUE_CFG.MARK_FRAC p q)
    let marks := mark ≠ 0 ∧ a.colour = 0 ∧ d.get (SWC.QUEUE_CFG.QLIMIT p q) * mark / 128 < d.srcQ a.srcHalf p q + a.pkt.cells
    plainAdm d a p →
    (a.dest = .port p → ownBufs d a.pkt → (d.portExists p = false ∨ d.admitCheck a p q ≠ 0) → completes (.admitFrame 0 bw []) s (fun e => gone e ∧ memSame d e ∧ freed d e a.pkt)) ∧
    (a.dest = .port p → d.portExists p = true → d.admitCheck a p q = 0 → a.srcHalf = portHalf p → onDie → d.get (qCntF a.srcHalf p q) + a.pkt.cells < 2 ^ 24 →
      completes (.admitFrame 0 bw []) s (fun e => memSame d e ∧ e.swc.adms = [] ∧ joined d e a p ∧ e.get (qCntF a.srcHalf p q) = d.get (qCntF a.srcHalf p q) + a.pkt.cells)) ∧
    (a.dest = .port p → d.portExists p = true → d.admitCheck a p q = 0 → a.srcHalf ≠ portHalf p → completes (.admitFrame 0 bw []) s (fun e => memSame d e ∧ e.swc.adms = [] ∧
      e.swc.queues = d.swc.queues ∧ e.swc.crosses.length = d.swc.crosses.length + 1 ∧ ∃ x ∈ e.swc.crosses, x.toHalf = portHalf p ∧ x.pkt.id = a.pkt.id ∧ x.pkt.body = a.pkt.body)) ∧
    (a.dest = .group g → ownBufs d a.pkt → bit w4 0 = false → completes (.admitFrame 0 bw []) s (fun e => gone e ∧ memSame d e ∧ freed d e a.pkt)) ∧
    (single → portHalf p = a.srcHalf → onDie → completes (.admitFrame 0 bw []) s (fun e => memSame d e ∧ e.swc.adms = [] ∧ joined d e a p ∧ shared e)) ∧
    (single → portHalf p ≠ a.srcHalf → completes (.admitFrame 0 bw []) s (fun e => memSame d e ∧ e.swc.adms = [] ∧ e.swc.queues = d.swc.queues ∧ shared e ∧
      ∃ x, e.swc.crosses = [x] ∧ x.toHalf = portHalf p ∧ x.pkt.id = a.pkt.id ∧ x.pkt.body = a.pkt.body ∧ x.group = some g ∧ x.ents.map (fun y => y.1) = [p])) ∧
    (a.dest = .port p → d.portExists p = true → d.admitCheck a p q = 0 → a.srcHalf = portHalf p → onDie → d.get (qCntF a.srcHalf p q) + a.pkt.cells < 2 ^ 24 →
      (marks → completes (.admitFrame 0 bw []) s (fun e => e.get (SWC.QCNT.V p q 7) = (d.get (SWC.QCNT.V p q 7) + 1) % 2 ^ 40 ∧ e.swc.residues = d.swc.residues.map (fun r =>
        if r.adm.pkt.id = a.pkt.id ∧ r.adm.colour = 0 ∧ r.adm.kind ≠ 2 then { r with adm.colour := 1 } else r))) ∧
      (¬ marks → completes (.admitFrame 0 bw []) s (fun e => e.get (SWC.QCNT.V p q 7) = d.get (SWC.QCNT.V p q 7) ∧ e.swc.residues = d.swc.residues)))

/-- R298: the scheduler never serves a queue while an eligible queue of a higher level waits. -/
def Sys2Proof.Machine.strictPrioritySays : Prop :=
  ∀ (d e : Dev) (p q j : Nat), (∀ i, i < 16 → d.get (SWC.QUEUE_CFG.LEVEL p i) ≤ 3) → d.schedule p = some (q, e) → j < 16 → d.eligible p j = true →
    d.get (SWC.QUEUE_CFG.LEVEL p j) ≤ d.get (SWC.QUEUE_CFG.LEVEL p q) ∧ q < 16

/-- R298, R299: the head of the queue that the scheduler chooses goes to its port, and no other queue loses a frame. R290: a credit counts its cells down in the source half, by class and by ingress group. R309, R310: a frame that crossed joins its queue in the buffers of the other half; one lost on the way leaves its buffers and the counts of its queue and port, and a credit of it goes back to the source half. R297: an overflow read completes into the read-ahead with the bytes that the pages hold (R398). -/
def Sys2Proof.Machine.leavingSays : Prop :=
  ∀ (s : State) (p q : Nat) (bw : Bool) (x y : QEnt) (xs : List QEnt) (c : Cross) (k : Credit) (d1 : Dev) (bs : List Nat),
    let d := s.dev
    let clean := ∀ j, j < 16 → ∀ z, (d.queue p j).ents.head? = some z → z.flush = false ∧ z.pkt.bad = false ∧ z.pkt.lateBad = false ∧ d.aged p j z = false
    let ready := d.portOn p = true ∧ d.linkUp p = true ∧ d.portExists p = true ∧ d.is (SWC.PORT_CFG.EN p) = true ∧ d.is (MAC.PORT_CFG.TX_EN p) = true ∧ sget d.mac.tx p none = none
    let d0 := Dev.freeBufs { d with swc.crosses := [] } c.pkt
    p < 265 → q < 16 →
    (clean → ready → d.get (SWC.PORT_SHAPE.RATE p) = 0 → sget d.tmu.buoys p [] = [] → d.schedule p = some (q, d1) → (d.queue p q).ents = x :: xs →
      completes (.scheduleDequeue p 0) s (fun e => sget e.mac.tx p none = some x ∧ (e.queue p q).ents = xs ∧
        ∀ j, j < 16 → j ≠ q → (e.queue p j).ents = (d.queue p j).ents)) ∧
    (clean → ¬ ready → completes (.scheduleDequeue p 0) s (fun e => e = d)) ∧
    (d.swc.credits = [k] → (d.laneGroup 0).isSome = true → k.inGroup = true → completes (.creditReturn 0) s (fun e => memSame d e ∧ regsSame d e [] ∧
      e.swc.credits = [] ∧ e.clsCells k.srcHalf k.cls = d.clsCells k.srcHalf k.cls - k.cells ∧ (k.gPort ≠ 511 → e.grpCells k.gPort k.cls = d.grpCells k.gPort k.cls - k.cells))) ∧
    (d.swc.crosses = [c] → d.swc.grants = [] → c.lost = true → c.needRef = [] → c.ents = [(p, y)] → y.q = q → y.srcHalf < 2 → y.srcHalf ≠ portHalf p → ownBufs d c.pkt →
      completes (.d2dCross 0 bw) s (fun e => memSame d e ∧ e.swc.crosses = [] ∧ e.swc.queues = d.swc.queues ∧ freed d e c.pkt ∧
        e.get (qCntF y.srcHalf p q) = d.get (qCntF y.srcHalf p q) - y.cells ∧ e.get (pCntF y.srcHalf p) = d.get (pCntF y.srcHalf p) - y.cells ∧
        e.swc.credits = d.swc.credits ++ [⟨y.srcHalf, p, q, y.cells, y.cls, y.gPort, y.inGroup⟩])) ∧
    (d.swc.crosses = [c] → c.lost = false → c.ents = [(p, y)] → c.resid = [] → c.needRef = [] → c.group = none → y.q = q → c.pkt.bufSlice < 8 → (d.queue p q).spill = false → d.get (SWC.QUEUE_SPILL.SPILL_THR p q) = 0x7FFFF →
      (d0.takeCells (portSlice p) c.pkt.cells []).1 = some bs → completes (.d2dCross 0 bw) s (fun e => e.swc.crosses = [] ∧
        (e.queue p q).ents = (d.queue p q).ents ++ [{ y with pkt := { y.pkt with bufs := bs, bufSlice := portSlice p } }])) ∧
    (d.flt.repairs = [] → nextRead (d.queue p q) = some x → readAheadBytes (d.queue p q) + x.pkt.frameLen ≤ 65536 → completes (.overflowReadDone p q) s (fun e => memSame d e ∧ regsSame d e [] ∧
      (e.queue p q).ents = mapFirst (fun e => e.spilled && !e.readAhead) (d.readEnt p) (d.queue p q).ents))

/-- R306: a residue copy whose time is over is discarded and leaves its buffers, one that cannot be admitted stays. R311: at the end of its down-hold a port's queues are empty. R312: the scan discards the head of a queue that has outstayed MAX_RES, and no other. R292, R293: a received pause ends when its quanta have run out; a pause that still holds is sent again. -/
def Sys2Proof.Machine.holdsAndPausesSays : Prop :=
  ∀ (s : State) (h p q k : Nat) (bw : Bool) (r : Residue) (x : QEnt),
    let d := s.dev
    let on := sget d.swc.paused (9 * p + k) 0
    let due := d.priOn p k = true ∧ ((d.get (MAC.PORT_CFG.PAUSE_MODE p) = 1 ∧ k = 8) ∨ (d.get (MAC.PORT_CFG.PAUSE_MODE p) = 2 ∧ k < 8)) ∧
      sget d.swc.pauseAt (9 * p + k) 0 + 16777216 / max 1 (d.portGbps p) ≤ d.tick
    h < 2 → q < 16 →
    (d.swc.residues = [r] → r.half = h → d.portOn r.port = true → r.due ≤ d.tick → ownBufs d r.adm.pkt → completes (.residueRetry h bw) s (fun e => memSame d e ∧ e.swc.residues = [] ∧ e.swc.queues = d.swc.queues ∧ freed d e r.adm.pkt)) ∧
    (d.swc.residues = [r] → r.half = h → d.tick < r.due → d.admitCheck r.adm r.port r.adm.queue ≠ 0 → completes (.residueRetry h bw) s (fun e => e = d)) ∧
    (p < 265 → d.portOn p = true → d.is (SWC.PORT_STAT.HOLDING p) = true → sget d.swc.downAt p 0 + d.get (SWC.PORT_CFG.DOWN_HOLD p) * 1000000 ≤ d.tick → completes (.downHoldExpire p) s (fun e =>
      e.is (SWC.PORT_STAT.HOLDING p) = false ∧ ∀ j, j < 16 → (e.queue p j).ents = [])) ∧
    (p < 265 → d.portOn p = true → (d.queue p q).ents = [x] → d.aged p q x = true → completes (.residencyScan p q) s (fun e => (e.queue p q).ents = [] ∧
      ∀ j, j ≠ q → j < 16 → e.queue p j = d.queue p j)) ∧
    (p < 265 → (d.queue p q).ents = [x] → d.aged p q x = false → completes (.residencyScan p q) s (fun e => e = d)) ∧
    (k ≤ 8 → d.portOn p = true → on ≠ 0 → on ≤ d.tick + 1 → completes (.pauseExpire p k) s (fun e => memSame d e ∧ regsSame d e [] ∧ sget e.swc.paused (9 * p + k) 0 = 0)) ∧
    (p ≤ 256 → due → completes (.pauseRefresh p k) s (fun e => memSame d e ∧ regsSame d e [] ∧ e.swc.pauseReq = d.swc.pauseReq ++ [(p, k, true)]))

/-- Scheduling by strict priority, dequeue, credits, die-to-die crossings, holds and pauses: `strictPrioritySays`, `leavingSays`, `holdsAndPausesSays`. -/
def Obligations.LeavingTheSwitch : Prop := strictPrioritySays ∧ leavingSays ∧ holdsAndPausesSays

-- Retries, the fault tracker and the persistent store (spec/17).

/-- R407, R310: a control flit with a CRC error is replayed, at most 16 times; a lane group whose replays are used up is declared failed, its crossings that had begun are lost and the others move on (log entry 70). R407, R408: an HBM command is retried up to eight times; then the access is logged (log entry 69) and is poison to its reader. R403, R399: at the end of a row repair the writes that waited for it are made; the end of a tracker window. -/
def Sys2Proof.Machine.retriesAndTrackerSays : Prop :=
  ∀ (s : State) (g x cut k a dt l cls loc : Nat) (c : Cross) (y : Track) (bs : List Byte),
    let d := s.dev
    let t := d.hbmTry k
    let tried := d.d2dTry g
    let ends := if dt = 0 then 0 else d.tick + dt
    g < 16 → k < 4 →
    (bit (d.get (SWC.HALF_STAT.GROUP_FAIL 0)) g = false → tried.n = 16 → tried.loc = x → (tried.endAt = 0 ∨ d.tick < tried.endAt) → completes (.d2dFlitCrcError g (x, dt)) s (fun e => memSame d e ∧
      e.swc = d.swc ∧ (e.d2dTry g).n = 17)) ∧
    (bit (d.get (SWC.HALF_STAT.GROUP_FAIL 0)) g = false → tried.n = 0 → d.flt.tracks = [] → d.flt.retired = [] → 1 < d.get (GLB.FLT_CFG.THRESH 8) →
      completes (.d2dFlitCrcError g (x, dt)) s (fun e => memSame d e ∧ e.swc = d.swc ∧ e.d2dTry g = ⟨1, x, d.tick, ends⟩)) ∧
    (tried.n = 17 → bit (d.get (SWC.HALF_STAT.GROUP_FAIL 0)) g = false → d.swc.crosses = [c] → c.laneGroup = g → (∃ j, j < 16 ∧ j ≠ g ∧ bit (d.get (SWC.HALF_STAT.GROUP_FAIL 0)) j = false) →
      completes (.d2dGroupFail g cut) s (fun e => memSame d e ∧ bit (e.get (SWC.HALF_STAT.GROUP_FAIL 0)) g = true ∧ bit (e.get (SWC.HALF_STAT.GROUP_FAIL 1)) g = true ∧ raised e EV_D2D_GROUP_FAIL ∧
      ∃ j, e.laneGroup g = some j ∧ ∃ y, e.swc.crosses = [y] ∧ y.pkt = c.pkt ∧ y.ents = c.ents ∧ (if cut = 0 ∨ c.started = false then y.laneGroup = j ∧ y.lost = c.lost else y.lost = true))) ∧
    (a < 0x2000000000 → locStack (hbmLoc a) = k → t.n < 8 → t.n ≠ 0 → t.loc = a → t.endAt = 0 → d.tick < t.t0 + 2000 → completes (.hbmCmdRetry k (a, dt)) s (fun e => memSame d e ∧
      e.hbmTry k = { t with n := t.n + 1, endAt := ends })) ∧
    (a < 0x2000000000 → locStack (hbmLoc a) = k → t.n = 8 → t.loc = a → t.endAt = 0 → d.tick < t.t0 + 2000 → completes (.hbmCmdRetry k (a, dt)) s (fun e => e = d)) ∧
    (t.n = 8 → d.halfOn (k / 2) = true → completes (.hbmRetryFail k 3 0 0 []) s (fun e => memSame d e ∧ e.is (HBC.ERR_LOG.VALID k) = true ∧ raised e (EV_HBC_RETRY_FAIL (k / 2)) ∧
      e.hbmTry k = {} ∧ e.badAt (t.loc / 8 * 8) = 3)) ∧
    (l ∈ d.flt.repairs → d.halfOn (l / 2 ^ 30 % 2) = true → d.flt.posted = [] → completes (.rowRepairDone l) s (fun e => memSame d e ∧ l ∉ e.flt.repairs ∧ raised e (EV_HBC_ROW_RETIRED (l / 2 ^ 30 % 2)))) ∧
    (y ∈ d.flt.tracks → y.cls = cls → y.loc = loc → d.trackOver y = true → completes (.trackerWindowEnd cls loc) s (fun e => memSame d e ∧ regsSame d e [] ∧
      ∀ z ∈ e.flt.tracks, z.cls ≠ cls ∨ z.loc ≠ loc)) ∧
    (d.flt.repairs = [l] → d.halfOn (l / 2 ^ 30 % 2) = true → d.flt.posted = [⟨a, false, bs, 0⟩] → completes (.rowRepairDone l) s (fun e => e.flt.repairs = [] ∧ e.flt.posted = [] ∧
      (∀ i, i < bs.length → e.rdB (a + i) = nthD bs i 0) ∧ ∀ b, (b < a ∨ a + bs.length ≤ b) → e.rdB b = d.rdB b))

/-- R408: an overflow read whose HBM retry fails discards the frame at the head of its queue, and the frame is counted in DROP_FLUSH of the queue. -/
def Obligations.OverflowReadLost : Prop :=
  ∀ (s : State) (k p q : Nat) (x r : QEnt) (xs : List QEnt) (old : List Byte),
    let d := s.dev
    k < 4 → p < 265 → q < 16 → d.halfOn (k / 2) = true → (d.hbmTry k).n = 8 → (d.queue p q).ents = x :: xs → nextRead (d.queue p q) = some r →
    completes (.hbmRetryFail k 2 p q old) s (fun e => (e.queue p q).ents = xs ∧ e.get (SWC.QCNT.V p q 6) = (d.get (SWC.QCNT.V p q 6) + 1) % 2 ^ 40 ∧
      ∀ j, j < 16 → j ≠ q → e.queue p j = d.queue p j)

/-- R404, R405, R412 to R415: a queued map entry goes to the lowest free entry of the map when the hold-up check allows it, else it is deferred; the map is cleared 512 words a burst (log entry 68); the store's commands and the statuses they end with, among them that of a word which cannot be corrected (R411); a deferred burst is tried again after 1 ms; PWR_FAIL_N is shown, and no map entry stays deferred after it. -/
def Sys2Proof.Machine.persistentStoreSays : Prop :=
  ∀ (s : State) (i mv v : Nat) (m : MapW) (rest : List MapW) (c : HostCmd),
    let d := s.dev
    let o := d.psOff
    let ix := d.get NVS.PS_ADDR.WORD % 65536
    let w1 := d.badAt (mapA ix 1)
    let may := d.get GLB.HU_CFG.MODE = 2 ∧ d.flt.pwrFail = false
    let go := d.reaches NVS.PS_CTL.GO ∧ d.is NVS.PS_CTL.DONE = true
    let run := fun (e : Dev) (st : Nat) (l : List Nat) => memSame d e ∧ e.is NVS.PS_CTL.DONE = false ∧
      ∃ c, e.flt.psCmd = some c ∧ c.status = st ∧ c.data = l ∧ c.waiting = false
    let ended := fun (e : Dev) => e.is NVS.PS_CTL.DONE = true ∧ e.get NVS.PS_CTL.STATUS = c.status ∧ e.flt.psCmd = none
    (d.flt.mapQ = m :: rest → m.deferAt = 0 → m.slot = none → may → d.mapFree 65536 0 = some i → completes (.mapWrite mv) s (fun e => e.flt.mapQ = rest ∧
      e.rd64 (mapA i 0) = m.w0 % 2 ^ 64 ∧ e.rd64 (mapA i 1) = m.w1 % 2 ^ 64 ∧ ∀ b, (b < mapA i 0 ∨ mapA i 0 + 16 ≤ b) → e.rdB b = d.rdB b)) ∧
    (d.flt.mapQ = m :: rest → m.deferAt = 0 → m.slot = some i → 0x1000 ≤ i → i < 0x101000 → may → completes (.mapWrite mv) s (fun e => e.flt.mapQ = wipeRest m i rest ∧
      (∀ b, psA i ≤ b → b < psA i + 0x1000 → e.rdB b = 0) ∧ ∀ b, (b < psA i ∨ psA i + 0x1000 ≤ b) → e.rdB b = d.rdB b)) ∧
    (d.flt.mapQ = m :: rest → m.deferAt = 0 → d.get GLB.HU_CFG.MODE = 0 → completes (.mapWrite mv) s (fun e => memSame d e ∧
      e.flt.mapQ = { m with deferAt := d.tick + 1 } :: rest)) ∧
    (go → d.badAt (psA o) ≠ 2 → completes (.psRead v []) s (fun e => run e 0 [o, d.rd64 (psA o)])) ∧
    (go → d.badAt (psA o) = 2 → completes (.psRead v []) s (fun e => run e 3 [])) ∧
    (go → o < 0x800000 → completes (.psWrite v mv) s (fun e => run e 1 [])) ∧
    (go → 0x800000 ≤ o → may → completes (.psWrite v mv) s (fun e => run e 0 [o, d.get NVS.PS_DATA.DATA])) ∧
    (go → w1 = 2 → completes (.unretire v mv) s (fun e => run e 3 [])) ∧
    (go → w1 ≠ 2 → d.mapValid ix = false → completes (.unretire v mv) s (fun e => run e 5 [])) ∧
    (go → w1 ≠ 2 → d.mapValid ix = true → may → completes (.unretire v mv) s (fun e => run e 0 [0x1000 + 16 * ix + 8, d.rd64 (mapA ix 1) % 2 ^ 63])) ∧
    (d.flt.psCmd = some c → c.waiting = false → 0 < c.status → c.status < 16 → completes .psCmdDone s (fun e => memSame d e ∧ ended e)) ∧
    (d.flt.psCmd = some c → c.waiting = false → c.status = 0 → c.addr = 0 → c.data = [i, v] → v < 2 ^ 64 → completes .psCmdDone s (fun e => memSame d e ∧ ended e ∧
      e.get NVS.PS_DATA.DATA = v)) ∧
    (d.flt.psCmd = some c → c.waiting = false → c.status = 0 → c.addr ≠ 0 → c.data = [i, v] → completes .psCmdDone s (fun e => stored8 d e (psA i) v ∧ ended e)) ∧
    (d.flt.psCmd = some c → c.waiting = true → c.at_ + 1000000 ≤ d.tick → may → completes (.psDeferRetry true mv) s (fun e => memSame d e ∧
      e.flt.psCmd = some { c with waiting := false })) ∧
    (d.flt.pwrFail = false → d.boot.flop.op ≠ 2 → d.flt.psCmd = none → completes (.pwrFailAssert false 0) s (fun e => memSame d e ∧ e.flt.pwrFail = true ∧
      e.is NVS.HU_STAT.PF = true ∧ raised e EV_NVS_PWR_FAIL)) ∧
    (d.flt.pwrFail = true → completes .pwrFailDeassert s (fun e => memSame d e ∧ e.flt.pwrFail = false ∧ e.is NVS.HU_STAT.PF = false ∧ ∀ m ∈ e.flt.mapQ, m.deferAt = 0))

/-- Lower-layer retries, the fault tracker, the persistent store and power failure: `retriesAndTrackerSays`, `persistentStoreSays`. -/
def Obligations.RetriesAndStore : Prop := retriesAndTrackerSays ∧ persistentStoreSays

-- The time unit (spec/13).

/-- With no command waiting, the step answers a device of which `P` holds. -/
def Sys2Proof.Machine.ticksTo (d : Dev) (P : Dev → Prop) : Prop := ∃ e : Dev, step ⟨d, []⟩ = .next ⟨e, []⟩ ∧ P e

/-- R316: the time of day. While RUN is 1, a tick adds INCR to {ns, fractional ns}, and at 1,000,000,000 ns a second is carried; while RUN is 0 a tick leaves it, time-stamps read 0 and no buoy is released. INCR's nominal value is 2^32, and a write takes values from F000_0000H to 1_1000_0000H only. The tick is a step with no command waiting (log entry 7), here out of cold reset. R317: while a slew runs, a tick also adds the lesser of its remainder and 2^-8 ns, with its sign, and takes it off the remainder. -/
def Obligations.TimeOfDay : Prop :=
  ∀ (s : State) (d : Dev) (p q ph v : Nat),
    let sum : Nat := d.tmu.ns * 2 ^ 32 + d.tmu.frac + d.get TMU.INCR.INCR
    let r := d.tmu.slewRem
    let part : Int := if r < 0 then max r (-256) else min r 256
    let slewed : Int := (sum : Int) + part * 65536
    let sec : Int := 1000000000 * 2 ^ 32
    TMU.INCR.INCR.rst = 2 ^ 32 ∧
    (d.inCold = false → d.is TMU.CTL.RUN = true → d.tmu.slewRem = 0 → d.tmu.legal → ticksTo d (fun e => e.tmu.legal ∧
      e.tmu.ns * 2 ^ 32 + e.tmu.frac = (if sum < 1000000000 * 2 ^ 32 then sum else sum - 1000000000 * 2 ^ 32) ∧
      e.tmu.sec = (if sum < 1000000000 * 2 ^ 32 then d.tmu.sec else (d.tmu.sec + 1) % 2 ^ 48))) ∧
    (d.inCold = false → d.is TMU.CTL.RUN = false → ticksTo d (fun e => e.tmu = d.tmu) ∧ d.rxStamp p ph = 0 ∧ d.txStamp p ph = 0 ∧
      completes (.buoyRelease p q) ⟨d, s.pending⟩ (fun e => e = d)) ∧
    (d.reaches TMU.INCR.INCR → 0xF0000000 ≤ v → v ≤ 0x110000000 → completes (.incrWrite v) ⟨d, s.pending⟩ (fun e => memSame d e ∧ e.get TMU.INCR.INCR = v ∧ regsSame d e [TMU.INCR.INCR.key])) ∧
    (d.reaches TMU.INCR.INCR → v < 2 ^ 40 → (v < 0xF0000000 ∨ 0x110000000 < v) → completes (.incrWrite v) ⟨d, s.pending⟩ (fun e => e = d)) ∧
    (d.inCold = false → d.is TMU.CTL.RUN = true → d.tmu.legal → 0xF0000000 ≤ d.get TMU.INCR.INCR → d.get TMU.INCR.INCR ≤ 0x110000000 → ticksTo d (fun e => e.tmu.legal ∧
      e.tmu.slewRem = r - part ∧ ((e.tmu.ns * 2 ^ 32 + e.tmu.frac : Nat) : Int) = (if slewed < sec then slewed else slewed - sec) ∧
      e.tmu.sec = (if slewed < sec then d.tmu.sec else (d.tmu.sec + 1) % 2 ^ 48)))

/-- R317 to R320: a step is armed by GO, unless one is pending or its value is wrong, and sets, advances or puts back the counter; a slew is started by ADJ and cancelled by a step; a read of TOD_NS latches the time; the loss and the lock of the reference. A stamp taken in the tick of a step is of the scale before it (R321, R336). That the step is a command of its own, takes the value of GO and sets ADJ_CANCELLED only where a slew ran is log entry 65. -/
def Sys2Proof.Machine.timeCommandsSays : Prop :=
  ∀ (s : State) (v op x : Nat),
    let d := s.dev
    let m := 2 ^ 48 * secU
    let ns := d.get TMU.STEP_NS.NS
    let wrong := d.is TMU.STAT.STEP_BUSY = true ∨ 1000000000 ≤ ns ∨ v % 4 = 3
    let stepped := fun (e : Dev) (t : Nat) => e.now = t ∧ e.get TMU.STAT.STEPS = (d.get TMU.STAT.STEPS + 1) % 256 ∧ e.is TMU.STAT.STEP_BUSY = false ∧
      e.tmu.stepArm = none ∧ e.tmu.slewRem = 0 ∧ (d.tmu.stepAt ≠ d.tick + 1 → e.stampBase = d.now) ∧ raised e EV_TMU_STEP ∧ memSame d e ∧ (d.tmu.slewRem ≠ 0 → e.is TMU.STAT.ADJ_CANCELLED = true)
    (d.reaches TMU.STEP_CTL.OP → wrong → completes (.timeStepGo v) s (fun e => e.tmu = d.tmu ∧ memSame d e ∧ regsSame d e [TMU.STEP_CTL.OP.key])) ∧
    (d.reaches TMU.STEP_CTL.OP → ¬ wrong → completes (.timeStepGo v) s (fun e => memSame d e ∧ e.is TMU.STAT.STEP_BUSY = true ∧ e.now = d.now ∧
      e.tmu.stepArm = some (v % 4, d.get TMU.STEP_SEC.SEC * secU + ns * 2 ^ 32 + d.get TMU.STEP_NS.FRAC))) ∧
    (d.tmu.legal → d.tmu.stepArm = some (op, x) → x < m →
      (op = 0 → completes .timeStep s (fun e => stepped e x)) ∧
      (op = 1 → completes .timeStep s (fun e => stepped e ((d.now + x) % m) ∧ e.get TMU.STEP_SUM.SUM = toWord 64 (sgn 64 (d.get TMU.STEP_SUM.SUM) + (x / 2 ^ 30 : Nat)))) ∧
      (op = 2 → completes .timeStep s (fun e => stepped e ((d.now + m - x) % m)))) ∧
    (d.reaches TMU.ADJ.ADJ → v < 2 ^ 40 → completes (.adjWrite v) s (fun e => memSame d e ∧ e.tmu.slewRem = sgn 40 v ∧ e.get TMU.ADJ.ADJ = v ∧
      e.is TMU.STAT.ADJ_BUSY = decide (sgn 40 v ≠ 0) ∧ e.now = d.now)) ∧
    (d.tmu.slewOn = true → d.tmu.slewRem = 0 → completes .slewComplete s (fun e => memSame d e ∧ e.is TMU.STAT.ADJ_BUSY = false ∧ regsSame d e [TMU.STAT.ADJ_BUSY.key])) ∧
    (d.reaches TMU.TOD_NS.NS → d.tmu.legal → completes .todRead s (fun e => memSame d e ∧ e.host.hostData = [d.tmu.ns] ∧ e.get TMU.TOD_NS.NS = d.tmu.ns ∧
      e.get TMU.TOD_FRAC.FRAC = d.tmu.frac ∧ e.get TMU.TOD_SEC_HI.SEC * 2 ^ 32 + e.get TMU.TOD_SEC_LO.SEC = d.tmu.sec)) ∧
    (d.is TMU.REF_CFG.SRC = true → d.is TMU.STAT.HOLDOVER = false → completes .refLoss s (fun e => memSame d e ∧ e.is TMU.STAT.LOCKED = false ∧
      e.is TMU.STAT.HOLDOVER = true ∧ raised e EV_TMU_REF_LOSS)) ∧
    (d.is TMU.REF_CFG.SRC = true → d.is TMU.STAT.LOCKED = false → completes .refLock s (fun e => memSame d e ∧ e.is TMU.STAT.LOCKED = true ∧
      e.is TMU.STAT.HOLDOVER = false ∧ raised e EV_TMU_REF_LOCK))

/-- R322, R323, R327: a capture stores the time of its edge, and an edge within 100 ns of the last is ignored (log entry 65); PPS_OUT rises and falls; a read of a transmit stamp's word 2 takes it off its FIFO. R331, R333: a buoy is released to the launch stage 2 µs before its time, starts there, and is discarded when it is late and LATE_POL does not send it late. -/
def Sys2Proof.Machine.capturesAndBuoysSays : Prop :=
  ∀ (s : State) (k ph p q : Nat) (x : QEnt) (xs : List QEnt),
    let d := s.dev
    let last := sget d.tmu.capAt k 0
    let t := d.stampRaw ph
    let open_ := d.gateOpen = true ∧ d.is TMU.CTL.RUN = true
    let head := (d.queue p q).ents = x :: xs ∧ d.buoyHead p q = some x ∧ d.effT x.pkt ≤ (d.now : Int) + 2000 * 2 ^ 32 ∧ p < 265 ∧ q < 16
    let next := p < 265 ∧ d.linkUp p = true ∧ d.is (SWC.PORT_CFG.EN p) = true ∧ d.is (MAC.PORT_CFG.TX_EN p) = true ∧ sget d.mac.tx p none = none ∧
      sget d.tmu.buoys p [] = [x] ∧ d.shapeOk p x.pkt.frameLen = true ∧ x.pkt.late = false ∧ d.startsNow p ph x = true ∧ x.q < 16 ∧ (x.gPort < 265 ∨ x.gPort = 511)
    k < 3 →
    ((last = 0 ∨ last + 100 < d.tick + 1) → d.capEn k = true → d.is TMU.CTL.RUN = true → d.get (TMU.CAP_ADJ.ADJ k) = 0 →
      completes (.captureEdge k ph) s (fun e => memSame d e ∧ e.is (TMU.CAP_SEC.VALID k) = true ∧ e.get (TMU.CAP_NS.NS k) = stampNs t ∧
        raised e (if k = 0 then EV_TMU_PPS_IN else EV_TMU_CAPTURE) ∧ (d.is (TMU.CAP_SEC.VALID k) = true → e.is (TMU.CAP_SEC.OVERRUN k) = true))) ∧
    (last ≠ 0 → d.tick + 1 ≤ last + 100 → completes (.captureEdge k ph) s (fun e => memSame d e ∧ regsSame d e [])) ∧
    (d.is TMU.CTL.RUN = true → d.is TMU.CTL.PPS_OUT_EN = true → d.tmu.ppsOut = false → d.passesOfs = true → d.tmu.ppsRiseAt = 0 → completes .ppsOutRise s (fun e =>
      memSame d e ∧ regsSame d e [] ∧ e.tmu.ppsOut = true ∧ e.tmu.ppsRiseAt = d.tick + 1)) ∧
    (d.tmu.ppsOut = true → d.tmu.ppsRiseAt + d.get TMU.PPS_CFG.WIDTH * 1000 ≤ d.tick + 1 → completes .ppsOutFall s (fun e => memSame d e ∧ regsSame d e [] ∧
      e.tmu.ppsOut = false)) ∧
    (p < 257 → d.reaches (TMU.TXTS.W p 2) → completes (.txtsPop p) s (fun e => memSame d e ∧ regsSame d e [] ∧ e.host.hostData = [d.txtsWord p 2] ∧
      sget e.tmu.txts p [] = (sget d.tmu.txts p []).drop 1)) ∧
    (open_ → head → d.tooLate p 0 x.pkt = false → completes (.buoyRelease p q) s (fun e => memSame d e ∧ (e.queue p q).ents = xs ∧
      sget e.tmu.buoys p [] = sget d.tmu.buoys p [] ++ [{ x with q := q, pkt := { x.pkt with late := false } }])) ∧
    (open_ → head → d.tooLate p 0 x.pkt = true → d.qLaunch p q x.pkt.epoch % 4 ≠ 1 → completes (.buoyRelease p q) s (fun e => (e.queue p q).ents = xs ∧
      sget e.tmu.buoys p [] = sget d.tmu.buoys p [])) ∧
    (open_ → next → d.tooLate p ph x.pkt = false → completes (.buoyLaunch p ph) s (fun e => sget e.tmu.buoys p [] = [] ∧
      sget e.mac.tx p none = some { x with start := some (d.txStamp p ph) })) ∧
    (open_ → next → d.tooLate p ph x.pkt = true → d.qLaunch p x.q x.pkt.epoch % 4 ≠ 1 → completes (.buoyLaunch p ph) s (fun e => sget e.tmu.buoys p [] = [] ∧
      sget e.mac.tx p none = none ∧ (e.queue p x.q).ents = (d.queue p x.q).ents))

/-- Steps and slews of the time, captures, 1PPS, transmit stamps and scheduled launch: `timeCommandsSays`, `capturesAndBuoysSays`. -/
def Obligations.StepsAndLaunches : Prop := timeCommandsSays ∧ capturesAndBuoysSays

-- Resets (spec/14 R338 to R341, spec/20 R448).

/-- Every register field reads its reset value, but those whose keys are listed. -/
def Sys2Proof.Machine.regsReset (e : Dev) (ks : List Nat) : Prop := ∀ f : Fld, f.key ∉ ks → e.get f = f.rst

/-- The blocks are as at reset: no frame, thread, queue, record, buffer or time is left. -/
def Sys2Proof.Machine.blocksReset (e : Dev) : Prop :=
  e.pipe = [] ∧ e.eng = .reset ∧ e.swc = .reset ∧ e.qry = .reset ∧ e.tbl = .reset ∧ e.buf = .reset ∧ e.tmu = .reset ∧ e.mac = .reset ∧ e.ep = .reset ∧ e.ctr = .reset

/-- Of memory, the persistent store keeps what it holds; everything else reads as after power-on. -/
def Sys2Proof.Machine.storeKept (d e : Dev) : Prop := ∀ a, e.rdB a = if inPs a then d.rdB a else memDefault a

/-- R6, R340, Table 14.2: a cold reset, and a dip of the core rail below 0.60 V, put every register at its reset value and empty every block; the persistent store, the flash and the fuses stay. R338, R339: at release the straps and fuses are read and boot begins; after a dip, when the rail has been above 0.62 V for 10 ms, of which a further dip starts the count afresh (R448). R340: a soft reset needs its key and keeps BOOT_CTL.NEXT and the straps. That memory outside the store reads as after power-on, what a soft reset keeps, and that with these operands a burst in progress writes nothing more, is log entry 82. -/
def Obligations.Resets : Prop :=
  ∀ (s : State) (straps key mv : Nat),
    let d := s.dev
    let pf := NVS.HU_STAT.PF.key
    let reset := fun (e : Dev) => regsReset e [pf] ∧ blocksReset e ∧ storeKept d e ∧ e.boot.phase = .reset ∧ e.held = true ∧
      e.boot.progHash = d.boot.progHash ∧ e.boot.progSig = d.boot.progSig
    let released := fun (e : Dev) => e.boot.phase = .hbm ∧ e.get GLB.BOOT_STAT.STATE = 1 ∧ e.get GLB.BOOT_STAT.BOOT = straps % 4 ∧
      e.is GLB.BOOT_STAT.SIG_FUSE = d.boot.progSig ∧ e.boot.keyHash = d.boot.progHash ∧ memSame d e
    let soft := [pf, GLB.BOOT_CTL.NEXT.key, GLB.BOOT_STAT.BOOT.key, GLB.BOOT_STAT.XSPI_SPEED.key, GLB.BOOT_STAT.SIG_FUSE.key, GLB.BOOT_STAT.STATE.key]
    completes (.coldReset false 0) s (fun e => reset e ∧ e.pin.sysResetN = false) ∧
    (d.pwr.dip = none → mv < 600 → completes (.vcoreDip mv false 0) s (fun e => reset e ∧ e.pwr.dip = some d.tick)) ∧
    (d.pwr.dip = none → 600 ≤ mv → completes (.vcoreDip mv false 0) s (fun e => e = d)) ∧
    (d.pin.sysResetN = false → d.pwr.dip = none → completes (.resetRelease straps) s (fun e => released e ∧ e.pin.sysResetN = true)) ∧
    (d.pin.sysResetN = false → d.pwr.dip ≠ none → completes (.resetRelease straps) s (fun e => e = { d with pin.sysResetN := true })) ∧
    (∀ t, d.pwr.dip = some t → t + 10000000 ≤ d.tick → 620 < mv → d.pin.sysResetN = true → completes (.vcoreRecover mv straps) s (fun e => released e ∧ e.pwr.dip = none)) ∧
    (∀ t, d.pwr.dip = some t → (d.tick < t + 10000000 ∨ mv ≤ 620) → completes (.vcoreRecover mv straps) s (fun e => e = d)) ∧
    (d.reaches GLB.RESET.GO → key % 2 ^ 16 = 0x5120 → completes (.softReset key false 0) s (fun e => regsReset e soft ∧ blocksReset e ∧ storeKept d e ∧
      e.boot.phase = .hbm ∧ e.get GLB.BOOT_STAT.STATE = 1 ∧ e.get GLB.BOOT_CTL.NEXT = d.get GLB.BOOT_CTL.NEXT % 4 ∧ e.get GLB.BOOT_STAT.BOOT = d.get GLB.BOOT_STAT.BOOT % 4)) ∧
    (d.reaches GLB.RESET.GO → key % 2 ^ 16 ≠ 0x5120 → completes (.softReset key false 0) s (fun e => e = d)) ∧
    (d.pwr.dip ≠ none → mv ≤ 620 → completes (.vcoreDip mv false 0) s (fun e => e = { d with pwr.dip := some d.tick, pwr.vMeas := mv })) ∧
    (d.pwr.dip ≠ none → 620 < mv → completes (.vcoreDip mv false 0) s (fun e => e = d))

-- The boot sequence (spec/14 R341 to R354).

/-- The boot sequence has gone to a step, with its STATE. -/
def Sys2Proof.Machine.bootAt (e : Dev) (p : BootPhase) (st : Nat) : Prop := e.boot.phase = p ∧ e.get GLB.BOOT_STAT.STATE = st

/-- Boot has failed with this code. -/
def Sys2Proof.Machine.bootLost (e : Dev) (code : Nat) : Prop := bootAt e .none 8 ∧ e.get GLB.BOOT_STAT.ERR_LAST = code % 256 ∧ raised e EV_BOOT_FAILED

/-- R341 to R346, R353, R354, Table 14.3: the steps of the boot sequence in order, what each finds, and where each leads: HBM and flash, the retirement map, the headers, the image, its signature, the ownership check. A failed first candidate leads to the second, a failed last one to FAILED. R342: BOOT_CTL.NEXT names the first candidate, else the one with the later SEQ, image A where they are equal; a slot that is no candidate is left out. R406: a valid entry of a map is applied, with ACTION 0 said here of the classes that keep a list, and of a lane group (class 8). R40: a load makes set 0 active for every partition. STATE 2 from the initialisation of HBM until step 5 is log entry 83; FALLBACK and the codes are log entry 85. -/
def Sys2Proof.Machine.bootStepsSays : Prop :=
  ∀ (s : State) (dens sec page c c2 i : Nat) (f : Fail),
    let d := s.dev
    let img := d.candImage c
    let d3 := d.candImage 3
    let next := d.get GLB.BOOT_CTL.NEXT
    let seq := fun (c : Nat) => le (d.candBytes c 256) 8 4
    let diff := (seq 2 + 2 ^ 32 - seq 1) % 2 ^ 32
    let both := d.boot.phase = .headers ∧ d.flt.pwrFail = false ∧ d.bootStrap = 0 ∧ d.candErr 1 = 0 ∧ d.candErr 2 = 0
    let goes := fun (l : List Nat) => completes .headerReadDone s (fun e => memSame d e ∧ e.boot.cands = l ∧ bootAt e .image 3)
    let w := d.rd64 (mapA i 0)
    let cls := w % 16
    let loc := bits w 47 8
    (d.boot.phase = .hbm → 23 ≤ dens → dens ≤ 28 → completes (.hbmInitDone true 0 dens sec page) s (fun e => memSame d e ∧ bootAt e .retire 2 ∧
      e.is NVS.FL_INFO.PRESENT = true ∧ e.get NVS.FL_INFO.DENSITY_LOG2 = dens ∧ e.boot.hbmOk = true)) ∧
    (d.boot.phase = .hbm → completes (.hbmInitDone false 0 dens sec page) s (fun e => memSame d e ∧ bootLost e 0x13 ∧ e.boot.hbmOk = false)) ∧
    (d.boot.phase = .retire → d.rd64 (psA 0) ≠ psMagic → d.bootStrap = 3 → completes (.retirementMapApply []) s (fun e => memSame d e ∧ bootAt e .none 7)) ∧
    (d.boot.phase = .retire → d.rd64 (psA 0) ≠ psMagic → d.bootStrap ≠ 3 → d.boot.flashErr = 0 → completes (.retirementMapApply []) s (fun e => memSame d e ∧ bootAt e .headers 3)) ∧
    (d.boot.phase = .headers → d.flt.pwrFail = false → d.bootStrap = c → (c = 1 ∨ c = 2) → completes .headerReadDone s (fun e => memSame d e ∧
      e.boot.cands = [c] ∧ bootAt e .image 3)) ∧
    (d.boot.phase = .headers → d.flt.pwrFail = false → d.bootStrap = 0 → d.candErr 1 ≠ 0 → d.candErr 2 ≠ 0 → completes .headerReadDone s (fun e => memSame d e ∧
      bootLost e (d.candErr 2))) ∧
    (d.boot.phase = .image → d.flt.pwrFail = false → d.boot.cands = [c] → d.candErr c = 0 → imgErr img (d.candMax c) = none → completes .imageReadDone s (fun e =>
      bootAt e (if d.boot.sigEn then .verify else .own) 4 ∧ e.boot.table = imgTable img)) ∧
    (d.boot.phase = .image → d.flt.pwrFail = false → d.boot.cands = [c] → d.candErr c = 0 → imgErr img (d.candMax c) = some f → completes .imageReadDone s (fun e => bootLost e f.1)) ∧
    (d.boot.phase = .image → d.flt.pwrFail = false → d.boot.cands = [c] → d.candErr c ≠ 0 → completes .imageReadDone s (fun e => bootLost e (d.candErr c))) ∧
    (d.boot.phase = .image → d.flt.pwrFail = false → d.boot.cands = [c, c2] → d.candErr c = 0 → imgErr img (d.candMax c) = some f → completes .imageReadDone s (fun e => bootAt e .image 3 ∧
      e.boot.cands = [c2] ∧ e.is GLB.BOOT_STAT.FALLBACK = true ∧ e.get GLB.BOOT_STAT.ERR_LAST = f.1 % 256 ∧ raised e EV_BOOT_FALLBACK)) ∧
    (d.boot.phase = .verify → sigErr d.boot.keyHash d3 = 0 → completes .sigVerifyDone s (fun e => memSame d e ∧ bootAt e .own 4)) ∧
    (d.boot.phase = .verify → sigErr d.boot.keyHash d3 ≠ 0 → d.boot.cands = [c] → completes .sigVerifyDone s (fun e => memSame d e ∧ bootLost e (sigErr d.boot.keyHash d3))) ∧
    (d.boot.phase = .own → d.ownLoad d3 = none → completes .ownCheckDone s (fun e => bootAt e .apply 5 ∧ e.boot.applyAt = (0, 0) ∧
      (∀ n, n < 105 → e.is (GLB.PART_CTL.ACTIVE n) = false) ∧ ((∀ n, n < 105 → d.is (GLB.PART_CTL.ACTIVE n) = false) → memSame d e))) ∧
    (d.boot.phase = .own → d.ownLoad d3 = some f → d.boot.cands = [c] → completes .ownCheckDone s (fun e => memSame d e ∧ bootLost e f.1)) ∧
    (both → (next = 1 ∨ (next ≠ 2 ∧ (diff = 0 ∨ 2 ^ 31 ≤ diff))) → goes [1, 2]) ∧
    (both → (next = 2 ∨ (next ≠ 1 ∧ 0 < diff ∧ diff < 2 ^ 31)) → goes [2, 1]) ∧
    (d.boot.phase = .headers → d.flt.pwrFail = false → d.bootStrap = 0 → (c = 1 ∨ c = 2) → d.candErr c = 0 → d.candErr (3 - c) ≠ 0 → goes [c]) ∧
    (d.boot.phase = .retire → d.rd64 (psA 0) = psMagic → d.bad = [] → i < 65536 → d.mapValid i = true → locOk cls loc = true → bits (d.rd64 (mapA i 1)) 35 32 = 0 →
      cls ≠ 4 → cls ≠ 5 → completes (.retirementMapApply []) s (fun e => e.isRetired cls loc = true ∧ (cls = 8 → bit (e.get (SWC.HALF_STAT.GROUP_FAIL 0)) loc = true)))

/-- R345 to R347, R350: when the last section is applied the gate opens; a record that cannot be applied fails the attempt; a WAIT that is not yet true holds the boot there. R347: LOAD checks the staged image, OPEN opens the gate without one, both only in HOST_WAIT or FAILED, OPEN only while SIG_EN is 0. LOAD keeps its STATE until the image is found good, and a WAIT is tried again (log entry 88). -/
def Sys2Proof.Machine.bootApplyAndControlSays : Prop :=
  ∀ (s : State) (v k c x n : Nat) (d1 : Dev) (f : Fail),
    let d := s.dev
    let img := d.candImage 3
    let r := d.applyEnts img d.boot.applyAt.1 d.boot.applyAt.2 (((imgTable img).map entOf).drop d.boot.applyAt.1)
    let ctl := d.reaches GLB.BOOT_CTL.NEXT
    let opened := fun (e : Dev) (l : Nat) => bootAt e .none 6 ∧ e.gateOpen = true ∧ e.get GLB.BOOT_STAT.LOADED = l % 4 ∧ raised e EV_BOOT_DONE
    (d.boot.phase = .apply → r = (d1, k, .ok) → completes .imageApplyDone s (fun e => opened e (d1.boot.cands.headD 0) ∧ e.get GLB.BOOT_SEQ.SEQ = le img 8 4 % 2 ^ 32 ∧
      memSame d1 e)) ∧
    (d.boot.phase = .apply → r = (d1, k, .fail c x) → d1.boot.cands = [n] → completes .imageApplyDone s (fun e => bootLost e c)) ∧
    (d.boot.phase = .apply → r = (d1, k, .wait x) → d.boot.waitAt = 0 → completes .imageApplyDone s (fun e => memSame d1 e ∧ e.boot.phase = d1.boot.phase ∧
      e.boot.applyAt = (k, x) ∧ e.boot.waitAt = d1.tick + 1)) ∧
    (ctl → d.hostMayBoot = true → d.boot.hbmOk = true → imgErr img 0x8000000 = none → completes (.bootLoad v) s (fun e => memSame d e ∧ e.boot.cands = [3] ∧
      bootAt e (if d.boot.sigEn then .verify else .own) 4)) ∧
    (ctl → d.hostMayBoot = true → d.boot.hbmOk = true → imgErr img 0x8000000 = some f → completes (.bootLoad v) s (fun e => memSame d e ∧ bootLost e f.1)) ∧
    (ctl → d.hostMayBoot = false → completes (.bootLoad v) s (fun e => memSame d e ∧ e.boot = d.boot ∧ regsSame d e [GLB.BOOT_CTL.NEXT.key] ∧ e.get GLB.BOOT_CTL.NEXT = bits v 3 2)) ∧
    (ctl → d.hostMayBoot = true → d.boot.sigEn = false → completes (.bootOpen v) s (fun e => memSame d e ∧ opened e 0)) ∧
    (ctl → (d.hostMayBoot = false ∨ d.boot.sigEn = true) → completes (.bootOpen v) s (fun e => memSame d e ∧ e.boot = d.boot ∧ regsSame d e [GLB.BOOT_CTL.NEXT.key]))

/-- The boot sequence, application of an image, LOAD and OPEN: `bootStepsSays`, `bootApplyAndControlSays`. -/
def Obligations.BootSequence : Prop := bootStepsSays ∧ bootApplyAndControlSays

/-- R357 to R360, Tables 14.9, 14.12 and 14.13: RELOAD and WRITE are refused with their codes, or start; a reload whose section fails its CRC ends with that code, one whose section is right ends with 0 where no signature is asked for; an erase sets its sector to ones, a page program clears bits only; a read-back that differs, a flash that stays busy and a read without answer end the command with their codes, and a WRITE so ended leaves a slot that is no candidate (the code of such a slot: log entry 98); a burst that the hold-up check does not allow waits (R414). A refusal ends at once with DONE 1 (log entry 81); when a read can time out is log entry 90. -/
def Obligations.FlashCommands : Prop :=
  ∀ (s : State) (i slot mv c : Nat),
    let d := s.dev
    let go := d.reaches NVS.FL_CTL.GO ∧ d.is NVS.FL_CTL.DONE = true
    let op := d.boot.flop
    let refused := fun (e : Dev) (st : Nat) => memSame d e ∧ e.boot = d.boot ∧ e.get NVS.FL_CTL.STATUS = st ∧ e.is NVS.FL_CTL.DONE = true
    let ended := fun (e : Dev) (st : Nat) => e.get NVS.FL_CTL.STATUS = st ∧ e.is NVS.FL_CTL.DONE = true ∧ e.boot.flop.op = 0
    let may := d.get GLB.HU_CFG.MODE = 2 ∧ d.flt.pwrFail = false
    let ent := entOf (nthD d.boot.table op.section_ [])
    let bs := d.flashBytes (d.slotBase (d.get GLB.BOOT_STAT.LOADED - 1) + ent.off) ent.len
    let run := op.op = 2 ∧ op.deferAt = 0
    let stale := fun (e : Dev) => op.slot < 2 → e.candErr (op.slot + 1) = 3
    let n := 2 ^ d.boot.sectorLog
    let b := (d.slotBase op.slot + op.pos) / n * n
    let pg := d.pageRange op
    i < 1024 → slot < 2 →
    (go → d.reloadRefusal i ≠ 0 → d.reloadRefusal i < 256 → completes (.flReload i) s (fun e => refused e (d.reloadRefusal i))) ∧
    (go → d.reloadRefusal i = 0 → completes (.flReload i) s (fun e => memSame d e ∧ e.boot.flop = { op := 1, section_ := i } ∧ e.is NVS.FL_CTL.DONE = false)) ∧
    (op.op = 1 → d.flt.pwrFail = false → fcsOf bs ≠ ent.crc → completes .reloadDone s (fun e => ended e 9)) ∧
    (go → d.writeRefusal slot ≠ 0 → d.writeRefusal slot < 256 → completes (.flWrite slot mv) s (fun e => refused e (d.writeRefusal slot))) ∧
    (go → d.writeRefusal slot = 0 → may → completes (.flWrite slot mv) s (fun e => memSame d e ∧ e.is NVS.FL_CTL.DONE = false ∧
      e.boot.flop = { op := 2, slot := slot, step := 1 })) ∧
    (go → d.writeRefusal slot = 0 → d.get GLB.HU_CFG.MODE = 0 → completes (.flWrite slot mv) s (fun e => memSame d e ∧ e.is NVS.FL_CTL.DONE = false ∧
      e.boot.flop.op = 2 ∧ e.boot.flop.deferAt = d.tick + 1 ∧ raised e EV_NVS_FLASH_DEFER)) ∧
    (run → (op.step = 1 ∨ op.step = 2) → completes (.flashOpDone mv []) s (fun e => memSame d e ∧ (∀ a, b ≤ a → a < b + n → sget e.boot.flash a 0xFF = 0xFF) ∧
      ∀ a, (a < b ∨ b + n ≤ a) → sget e.boot.flash a 0xFF = sget d.boot.flash a 0xFF)) ∧
    (run → op.step = 3 → d.boot.pageLog ≤ 11 → completes (.flashOpDone mv []) s (fun e => memSame d e ∧ ∀ j, j < pg.2 →
      sget e.boot.flash (d.slotBase op.slot + pg.1 + j) 0xFF = sget d.boot.flash (d.slotBase op.slot + pg.1 + j) 0xFF &&& d.rdB (tabA 0 (pg.1 + j)))) ∧
    (run → op.step = 4 → d.flashSame op.slot 256 (d.stagedSize - 256) = false → completes (.flashOpDone mv []) s (fun e => memSame d e ∧ ended e 0x42 ∧ stale e)) ∧
    (op.op = 2 → op.step = 1 → op.deferAt ≠ 0 → op.deferAt + 1000000 ≤ d.tick + 1 → may → completes (.flashDeferRetry mv) s (fun e => memSame d e ∧
      e.boot.flop = { op with deferAt := 0 })) ∧
    (run → op.step ≠ 4 → completes .flashBusyTimeout s (fun e => memSame d e ∧ ended e 0x44 ∧ stale e)) ∧
    (op.reads = true → completes .flashReadTimeout s (fun e => memSame d e ∧ ended e 0x12 ∧ stale e)) ∧
    (op.op = 1 → completes .flashReadTimeout s (fun e => memSame d e ∧ ended e 0x12)) ∧
    (op.op ≠ 1 → op.reads = false → (d.boot.phase = .headers ∨ d.boot.phase = .image) → d.boot.cands = [c] → completes .flashReadTimeout s (fun e => memSame d e ∧ bootLost e 0x12)) ∧
    (op.op = 1 → d.flt.pwrFail = false → fcsOf bs = ent.crc → d.boot.sigEn = false → completes .reloadDone s (fun e => ended e 0))

-- The board's view of the device (spec/15 R370 to R377).

/-- The SMBus target has sent these bytes, and one byte more where the master asks for the packet error code; nothing but the bus has changed, and the free values in `f` where one was drawn. -/
def Sys2Proof.Machine.sentBytes (d e : Dev) (pec : Bool) (bs : List Byte) : Prop :=
  e.host.bus.take bs.length = bs ∧ e.host.bus.length = bs.length + b2n pec ∧ e = { d with host.bus := e.host.bus, freeCtr := e.freeCtr }

/-- R372, R374, R375, Table 15.8: what each SMBus command sends, least significant byte first; VCORE_MEAS within 10 mV of the rail, POWER an unstated value (log entry 2). A NAK, a timeout and a device in reset send nothing. The temperatures are the command's operands (log entry 55). IDENT sends what R370 and Table 15.5 give; PACE_MIN leaves parked slices out (log entry 74). While the boundary cells hold the balls the target hears nothing (R376, log entry 96). -/
def Obligations.MonitorCommands : Prop :=
  ∀ (s : State) (pec : Bool) (t t1 : Int),
    let d := s.dev
    let hears := d.inReset = false ∧ d.host.balls = false
    let sends := fun (i : Instr) (bs : List Byte) => completes i s (fun e => sentBytes d e pec bs)
    let word := fun (i : Instr) (ok : Nat → Prop) => completes i s (fun e => ∃ v, ok v ∧ sentBytes d e pec (natLE 2 v))
    let pace := fun k => d.get (PWR.PACE_STAT.PACE k)
    (hears → sends (.ident pec) ([12] ++ natLE 4 (0x01512000 + if Config.isES then 0xE else 1) ++ natLE 8 Config.uid.toNat)) ∧
    (hears → completes (.beacon pec) s (fun e => ∃ v, sentBytes d e pec ([4] ++ natLE 4 v) ∧ ∀ g, g < 32 →
      (bit v g = true ↔ Nat.land (d.get (GLB.EVT_STAT.STAT g)) (65535 - d.get (GLB.EVT_MASK.MASK g)) ≠ 0))) ∧
    (hears → sends (.boot pec) ([4] ++ natLE 4 (d.get GLB.BOOT_STAT.STATE + d.get GLB.BOOT_STAT.BOOT * 2 ^ 4 + d.get GLB.BOOT_STAT.XSPI_SPEED * 2 ^ 6 +
      d.get GLB.BOOT_STAT.SIG_FUSE * 2 ^ 7 + d.get GLB.BOOT_STAT.LOADED * 2 ^ 8 + d.get GLB.BOOT_STAT.FALLBACK * 2 ^ 10 +
      d.get GLB.BOOT_STAT.ERR_FIRST * 2 ^ 16 + d.get GLB.BOOT_STAT.ERR_LAST * 2 ^ 24))) ∧
    (hears → sends (.tempMax pec t t1) (natLE 2 (toWord 16 (max t t1)))) ∧
    (hears → sends (.tempH0 pec t) (natLE 2 (toWord 16 t))) ∧
    (hears → sends (.tempH1 pec t) (natLE 2 (toWord 16 t))) ∧
    (hears → sends (.vcoreReq pec) (natLE 2 (d.get PWR.AVS_STAT.V_REQ))) ∧
    (hears → word (.vcoreMeas pec) (fun v => v ≤ d.pwr.vMeas + 10 ∧ d.pwr.vMeas ≤ v + 10)) ∧
    (hears → word (.power pec) (fun _ => True)) ∧
    (hears → word (.paceMin pec) (fun v => (∀ k, k < 8 → d.sliceParked k = false → v ≤ pace k) ∧
      ((∃ k, k < 8 ∧ d.sliceParked k = false) → ∃ k, k < 8 ∧ d.sliceParked k = false ∧ v = pace k))) ∧
    (hears → completes (.health pec) s (fun e => ∃ v, v < 16 ∧ sentBytes d e pec (natLE 1 v) ∧
      (bit v 0 = true ↔ ∃ k, k < 8 ∧ d.is (PWR.PACE_STAT.LOW_ACTIVE k) = true) ∧ bit v 1 = d.is PWR.AVS_STAT.NO_REPLY ∧
      bit v 2 = d.thermalLimit ∧ (bit v 3 = true ↔ d.get GLB.BOOT_STAT.STATE = 8))) ∧
    completes .smbusNak s (fun e => e = { d with host.bus := [] }) ∧
    completes .smbusSclTimeout s (fun e => e = { d with host.bus := [] }) ∧
    (∀ i, (d.inReset = true ∨ d.host.balls = true) → i ∈ [.ident pec, .beacon pec, .boot pec, .tempMax pec t t1, .tempH0 pec t, .tempH1 pec t, .vcoreReq pec, .vcoreMeas pec, .power pec,
      .paceMin pec, .health pec] → completes i s (fun e => e = { d with host.bus := [] }))

/-- R373, R376, Table 15.9: a GPIO function is set, or refused where another pin carries it. The TAP's instructions: the ones that take the balls drop every link until TAP reset, the cells drive them and HIGHZ leaves them floating, IDCODE reads the part's code, an unlisted code selects BYPASS, TAP reset gives the balls back and starts bring-up at its step 2. That balls stay taken until then and float under HIGHZ is log entries 79 and 96, and that functions 5 to 7 are not checked for a second pin is log entry 78. -/
def Obligations.PinsAndTap : Prop :=
  ∀ (s : State) (i v cells code : Nat),
    let d := s.dev
    let fn := v % 8
    let f := GLB.GPIO_FN.FN i
    let used := 1 ≤ fn ∧ fn ≤ 4 ∧ ∃ j, j < 16 ∧ j ≠ i ∧ d.get (GLB.GPIO_FN.FN j) = fn
    let tap := fun (e : Dev) (ir : Nat) => e.host.tapIr = ir
    let took := fun (e : Dev) (ir : Nat) (floating : Bool) => tap e ir ∧ e.host.balls = true ∧ e.host.floating = floating ∧ e.boot = d.boot ∧
      (∀ j, j < 16 → (e.gpioDriven j = !floating) ∧ (floating = false → e.gpioLevel j = Config.cellLevel e.host.cells j)) ∧
      (d.swc.queues = [] → d.tmu.buoys = [] → d.mac.tx = [] → memSame d e ∧ ∀ p, p < 257 → e.linkUp p = false)
    let free := { d with host.tapIr := 2, host.balls := false, host.floating := false }
    (i < 16 → d.reaches f → used → completes (.gpioFnWrite i v) s (fun e => memSame d e ∧ raised e EV_OWN_REFUSED ∧ regsSame d e [(GLB.EVT_STAT.STAT (EV_OWN_REFUSED / 16)).key])) ∧
    (i < 16 → d.reaches f → ¬ used → completes (.gpioFnWrite i v) s (fun e => memSame d e ∧ e.get f = fn ∧ regsSame d e [f.key])) ∧
    completes (.extest cells) s (fun e => took e 0 false ∧ e.host.cells = cells) ∧
    completes (.extestPulse cells) s (fun e => took e 5 false ∧ e.host.cells = cells) ∧
    completes (.extestTrain cells) s (fun e => took e 6 false ∧ e.host.cells = cells) ∧
    completes .highz s (fun e => took e 3 true) ∧
    completes .clamp s (fun e => took e 4 false ∧ e.host.cells = d.host.cells) ∧
    completes (.samplePreload cells) s (fun e => e = { d with host.tapIr := 1, host.cells := cells, host.tapData := e.host.tapData, freeCtr := e.freeCtr }) ∧
    completes .idcode s (fun e => e = { d with host.tapIr := 2, host.tapData := 0x0512074B }) ∧
    (code ∉ [0, 1, 2, 3, 4, 5, 6, 0x30, 0x31] → code < 256 → completes (.bypass code) s (fun e => e = { d with host.tapIr := 0xFF, host.tapData := 0 })) ∧
    (d.host.balls = false → completes .tapReset s (fun e => e = free)) ∧
    (d.host.balls = true → completes .tapReset s (fun e => e = { free with mac.bring := e.mac.bring } ∧
      ∀ p, p < 257 → e.bringAt p = if free.canBring p then 2 else 0))

/-- R377: a fuse command runs for 20 ms; while one runs, another is answered BUSY; it is refused outside HOST_WAIT and FAILED, PROG_HASH where a hash is programmed, PROG_SIG without one or where SIG_EN is programmed. The register captures the fuses as programmed. What is programmed acts from the next cold reset only (R339). That FUSE_READ is refused too, that BUSY shows in the register and that the burn comes at the end is log entry 79. -/
def Obligations.FuseCommands : Prop :=
  ∀ (s : State) (h : Nat),
    let d := s.dev
    let b := d.boot
    let mayBoot := d.get GLB.BOOT_STAT.STATE = 7 ∨ d.get GLB.BOOT_STAT.STATE = 8
    let idle := b.fuseCmd = none
    let reads := { d.host with tapIr := 0x30, tapData := b.progHash % 2 ^ 384 + b2n b.progSig * 2 ^ 384 + b.fuseStatus % 256 * 2 ^ 392 }
    let runs := fun (e : Dev) (c v : Nat) => e = { d with host := reads, boot := { b with fuseCmd := some (c, v), fuseAt := d.tick, fuseStatus := 1 } }
    let answer := fun (e : Dev) (st : Nat) => e = { d with host := reads, boot := { b with fuseStatus := st } }
    (∀ i, i ∈ [.progHash h, .progSig, .fuseRead] → b.fuseCmd.isSome = true → completes i s (fun e => answer e 1)) ∧
    (∀ i, i ∈ [.progHash h, .progSig, .fuseRead] → idle → ¬ mayBoot → completes i s (fun e => answer e 2)) ∧
    (idle → mayBoot → b.progHash = 0 → completes (.progHash h) s (fun e => runs e 1 (h % 2 ^ 384))) ∧
    (idle → mayBoot → b.progHash ≠ 0 → completes (.progHash h) s (fun e => answer e 2)) ∧
    (idle → mayBoot → b.progHash ≠ 0 → b.progSig = false → completes .progSig s (fun e => runs e 2 0)) ∧
    (idle → mayBoot → (b.progHash = 0 ∨ b.progSig = true) → completes .progSig s (fun e => answer e 2)) ∧
    (idle → mayBoot → completes .fuseRead s (fun e => runs e 3 0)) ∧
    (b.fuseCmd = some (1, h) → b.fuseAt + 20000000 ≤ d.tick → completes .fuseCmdDone s (fun e =>
      e = { d with boot := { b with fuseCmd := none, fuseStatus := 0, progHash := h } })) ∧
    (b.fuseCmd = some (2, h) → b.fuseAt + 20000000 ≤ d.tick → completes .fuseCmdDone s (fun e =>
      e = { d with boot := { b with fuseCmd := none, fuseStatus := 0, progSig := true } })) ∧
    (b.fuseCmd.isSome = true → d.tick < b.fuseAt + 20000000 → completes .fuseCmdDone s (fun e => e = d)) ∧
    (d.pin.sysResetN = false → d.pwr.dip = none → completes (.resetRelease h) s (fun e => e.boot.keyHash = b.progHash ∧ e.boot.sigEn = b.progSig))

-- The debug port (spec/15 R378 to R381, spec/08 R207).

/-- What a context is once it has halted. -/
def Sys2Proof.Machine.haltedCtx (x : Ctx) (rel : Bool) : Ctx :=
  { x with st := .halted, wait := .none, waitH := noFlow, cur := none, relHalt := rel, byBp := false, haltReq := 0, stepping := false }

/-- R207, R379, Table 15.10: HALT and HALT_RELEASE stop a context between two words or at a wait at once, ask one in the middle of a word to stop, and are refused for one that is FREE or FAULTED; RESUME and STEP set a halted one going, and are refused for any other; HALT_ALL and RESUME_ALL do so for every context of the cluster. That a halt waits for the word in progress of a READY context is the model's reading (DEDUCED, log entry 61), and so is the RESUME of a FAULTED keeper, which starts at its entry (log entry 110). -/
def Sys2Proof.Machine.debugCommandsSays : Prop :=
  ∀ (s : State) (c t : Nat) (rel : Bool),
    let d := s.dev
    let n := 64 * c + t
    let x := d.ctx n
    let st := DBG.CMD.STATUS c
    let keys := [(DBG.CMD.OP c).key, (DBG.CMD.CONTEXT c).key, st.key]
    let halt : Instr := if rel then .haltRelease c t else .halt c t
    let others := fun (e : Dev) => ∀ m, m ≠ n → e.ctx m = d.ctx m
    let ends := fun (e : Dev) (code : Nat) (y : Ctx) => e.get st = code ∧ e.ctx n = y ∧ others e ∧ memSame d e ∧ regsSame d e keys
    let between := x.st = .waitEvent ∨ x.st = .keeperIdle ∨ (x.st = .ready ∧ x.cur = none)
    let goes := fun (y : Ctx) => { y with st := .ready, byBp := false, skipBp := y.byBp, relHalt := false }
    let stops := fun (y : Ctx) => match y.st with
      | .free => CtxSt.free | .faulted => .faulted | .halted => .halted | .waitEvent => .halted | .keeperIdle => .halted
      | .ready => if y.cur.isNone then .halted else .ready
      | .waitMem => .waitMem
    c < 64 → t < 64 → d.reaches (DBG.CMD.OP c) → d.is (DBG.CMD.DONE c) = true → d.get (DBG.CTL.OWNER c) = 0 → d.eng.stepCmd = [] →
    (x.st = .free ∨ x.st = .faulted → completes halt s (fun e => ends e 2 x)) ∧
    (x.st = .halted → (rel = false ∨ x.relHalt = true) → completes halt s (fun e => ends e 0 x)) ∧
    (between → x.chan = none → x.held = none → completes halt s (fun e => ends e 0 (haltedCtx x rel))) ∧
    ((x.st = .waitMem ∨ (x.st = .ready ∧ x.cur ≠ none)) → completes halt s (fun e => ends e 0 { x with haltReq := if rel then 2 else 1 })) ∧
    (x.st = .halted → x.chanLost = false → completes (.dbgResume c t) s (fun e => ends e 0 (goes x))) ∧
    (x.st ≠ .halted → (x.st = .faulted → d.isKeeper n = false) → completes (.dbgResume c t) s (fun e => ends e 3 x)) ∧
    (x.st = .faulted → d.isKeeper n = true → completes (.dbgResume c t) s (fun e => e.get st = 0 ∧ (e.ctx n).st = .ready ∧
      (e.ctx n).pc = d.get (ENG.KEEPER_ENTRY.ADDR c (t / 8)))) ∧
    (x.st = .halted → x.chanLost = false → completes (.step c t) s (fun e => e.is (DBG.CMD.DONE c) = false ∧ memSame d e ∧ others e ∧
      e.ctx n = { x with st := .ready, byBp := false, skipBp := true, stepping := true } ∧ sget e.eng.stepCmd c 0 = n + 1)) ∧
    (x.st ≠ .halted → completes (.step c t) s (fun e => ends e 3 x)) ∧
    completes (.haltAll c) s (fun e => e.get st = 0 ∧ memSame d e ∧ regsSame d e keys ∧ (e.ctx n).st = stops x ∧ ∀ m, m / 64 ≠ c → e.ctx m = d.ctx m) ∧
    (x.chanLost = false → completes (.resumeAll c) s (fun e => e.get st = 0 ∧ memSame d e ∧ regsSame d e keys ∧
      e.ctx n = (if x.st = .halted then goes x else x) ∧ ∀ m, m / 64 ≠ c → e.ctx m = d.ctx m))

/-- R378, R381, Table 15.11: a write of DBG.CTL by the owner's path writes its fields, OWNER only while no context is HALTED; from the other path it takes the port over where it may, else it only sets FOREIGN (log entry 77). Over JTAG the state word of a context always reads, its PC is written while it is HALTED, and a path that does not own the port writes nothing. -/
def Sys2Proof.Machine.debugPortSays : Prop :=
  ∀ (s : State) (c t v : Nat),
    let d := s.dev
    let n := 64 * c + t
    let own := DBG.CTL.OWNER c
    let forn := DBG.CTL.FOREIGN c
    let cfg := [own.key, (DBG.CTL.BRK_EN c).key, (DBG.CTL.BP_RELEASE c).key, (DBG.CTL.HOLD_DISPATCH c).key, forn.key]
    let o := 0x10000 * c + 0x1000 + 0x200 * t + 0x140
    let idle := ∀ m, m < 64 → (d.ctx (64 * c + m)).st ≠ .halted
    let still := fun (e : Dev) => memSame d e ∧ e.eng = d.eng
    c < 64 → t < 64 →
    (d.reaches own → d.get own = 0 → completes (.dbgCtlWrite c v) s (fun e => still e ∧ regsSame d e cfg ∧ e.get (DBG.CTL.BRK_EN c) = v / 2 % 2 ∧
      e.get (DBG.CTL.BP_RELEASE c) = v / 4 % 2 ∧ e.get (DBG.CTL.HOLD_DISPATCH c) = v / 8 % 2 ∧
      e.get forn = (if v / 16 % 2 = 1 then 0 else d.get forn) ∧ (idle → e.get own = v % 2) ∧ (¬ idle → e.get own = 0))) ∧
    (d.reaches own → d.get own = 1 → (v % 2 = 1 ∨ ¬ idle) → completes (.dbgCtlWrite c v) s (fun e => still e ∧ regsSame d e [forn.key] ∧ e.get forn = 1)) ∧
    (d.reaches own → d.get own = 1 → v % 2 = 0 → idle → completes (.dbgCtlWrite c v) s (fun e => still e ∧ regsSame d e [own.key] ∧ e.get own = 0)) ∧
    (d.clusterParked c = false → completes (.dbgAccess false o v) s (fun e => still e ∧ regsSame d e [] ∧ e.host.tapData = d.stateWord n)) ∧
    (d.clusterParked c = false → d.get own = 1 → (d.ctx n).st = .halted → d.eng.stepCmd = [] → completes (.dbgAccess true o v) s (fun e => memSame d e ∧
      regsSame d e [] ∧ e.ctx n = { d.ctx n with pc := v % 2 ^ 64 % 8192 } ∧ ∀ m, m ≠ n → e.ctx m = d.ctx m)) ∧
    (d.clusterParked c = false → d.get own = 1 → (d.ctx n).st ≠ .halted → completes (.dbgAccess true o v) s (fun e => still e ∧ regsSame d e [])) ∧
    (d.clusterParked c = false → d.get own = 0 → completes (.dbgAccess true o v) s (fun e => still e ∧ regsSame d e [forn.key] ∧ e.get forn = 1)) ∧
    (d.clusterParked c = true → completes (.dbgAccess true o v) s (fun e => e = { d with host.tapIr := 0x31 }))

/-- The debug port: halts, steps, resumes, ownership and access over JTAG: `debugCommandsSays`, `debugPortSays`. -/
def Obligations.DebugPortAndCommands : Prop := debugCommandsSays ∧ debugPortSays

-- Power domains (spec/16 R382 to R390).

/-- The power request has ended with a result. -/
def Sys2Proof.Machine.pwrEnded (e : Dev) (result : Nat) : Prop := e.get PWR.REQ_STAT.RESULT = result ∧ e.is PWR.REQ_STAT.DONE = true ∧ e.pwr.pwr = {}

/-- The power request is refused: reason and block. -/
def Sys2Proof.Machine.pwrRefused (e : Dev) (reason b : Nat) : Prop :=
  pwrEnded e 1 ∧ e.get PWR.REQ_STAT.REASON = reason ∧ e.get PWR.REQ_STAT.BLOCK = b ∧ raised e EV_PWR_REFUSED

/-- R386, R387, R389, Tables 16.3 and 16.4: a power request for a state that its domain does not have is refused; one for the state that the domain is in ends at once; TARGET ON wakes the domain and every parked one above it, but no octet while the trip is in force; a park asks the domain's blocks in order and enters where all grant, waits where one delays, and is refused where a context is halted, once the blocks that had granted are woken, or a lower domain is on. PARK_DELAY_RETRY asks again, up to the limit. DONE after the last domain of a wake, a slice that asks its clusters and a dispatcher that delays are the model's choices (log entry 71), as is the answer to an index that no domain has. -/
def Sys2Proof.Machine.powerRequestsSays : Prop :=
  ∀ (s : State) (v : Nat),
    let d := s.dev
    let k := bits v 2 0
    let i := bits v 10 4
    let r := d.pwr.pwr
    let valid := k < 5 ∧ i < domCount k
    let parked := d.domOff k i = true ∧ (k = 1 → d.octetSt i = 1) ∧ (k, i) ∉ d.pwr.waking
    let runs := fun (e : Dev) (p : PwrPhase) => memSame d e ∧ e.pwr.pwr.phase = p ∧ e.is PWR.REQ_STAT.DONE = false
    let clear := fun c => sget d.eng.dq c [] = [] ∧ d.ordOf c = [] ∧ ∀ n, n / 64 = c → (d.ctx n).st = .free
    let again := r.phase = .asking ∧ r.delayed = true ∧ r.askedAt + 10000 ≤ d.tick ∧ r.kind = 0 ∧ r.pos = 0
    let late := r.since + d.get PWR.CFG.DELAY_LIMIT * 1000000 ≤ d.tick
    let asks := d.reaches PWR.REQ.KIND ∧ d.is PWR.REQ_STAT.DONE = true ∧ r.phase = .idle
    (∀ c, c ∈ [.powerOn v, .park v, .powerOff v] → asks → ¬ valid → completes c s (fun e => memSame d e ∧ pwrRefused e 5 0)) ∧
    (asks → k ≠ 1 → completes (.powerOff v) s (fun e => memSame d e ∧ pwrRefused e 5 0)) ∧
    (asks → valid → (∀ x, x ∈ domPath k i → d.domOff x.1 x.2 = false) → completes (.powerOn v) s (fun e => memSame d e ∧ pwrEnded e 0)) ∧
    (asks → valid → k = 1 → d.domOff 1 i = true → d.is PWR.SL_STATE.TRIPPED = true → completes (.powerOn v) s (fun e => memSame d e ∧ pwrRefused e 4 0)) ∧
    (asks → valid → (k ≠ 1 ∨ d.is PWR.SL_STATE.TRIPPED = false) → (∃ x, x ∈ domPath k i ∧ d.domOff x.1 x.2 = true) → completes (.powerOn v) s (fun e => runs e .exiting ∧
      (∀ x, x ∈ domPath k i → d.domOff x.1 x.2 = true → x ∈ e.pwr.waking ∧ x ∈ e.pwr.pwr.need) ∧
      e.is PWR.WAKE_STAT.VALID = true ∧ e.get PWR.WAKE_STAT.SOURCE = 0 ∧ raised e EV_PWR_WAKE)) ∧
    (asks → valid → parked → completes (.park v) s (fun e => memSame d e ∧ pwrEnded e 0)) ∧
    (asks → k = 0 → i < 64 → d.domOff 0 i = false → clear i → completes (.park v) s (fun e => runs e .entering ∧ e.pwr.pwr.index = i ∧ e.pwr.pwr.target = 1)) ∧
    (asks → k = 0 → i < 64 → d.domOff 0 i = false → sget d.eng.dq i [] ≠ [] → completes (.park v) s (fun e => runs e .asking ∧ e.pwr.pwr.since = d.tick)) ∧
    (asks → k = 0 → i < 64 → d.domOff 0 i = false → sget d.eng.dq i [] = [] → d.ordOf i = [] → (∃ n, n / 8 = 8 * i ∧ (d.ctx n).st = .halted) →
      completes (.park v) s (fun e => runs e .undoing ∧ e.get PWR.REQ_STAT.RESULT = 1 ∧ e.get PWR.REQ_STAT.REASON = 3 ∧ e.get PWR.REQ_STAT.BLOCK = 1 ∧ raised e EV_PWR_REFUSED)) ∧
    (asks → k = 2 → i < 8 → d.domOff 2 i = false → (∃ j, j < 4 ∧ d.octetSt (4 * i + j) = 0) → completes (.park v) s (fun e => memSame d e ∧ pwrRefused e 1 0)) ∧
    (asks → k = 1 → i < 32 → d.octetSt i ≠ 2 → (∀ j, j < 8 → sget d.mac.tx (8 * i + j) none = none) → completes (.powerOff v) s (fun e =>
      e.pwr.pwr.phase = .entering ∧ e.pwr.pwr.kind = 1 ∧ e.pwr.pwr.index = i ∧ e.pwr.pwr.target = 2)) ∧
    (again → clear r.index → completes .parkDelayRetry s (fun e => memSame d e ∧ regsSame d e ((List.range 10).map (fun j => (PWR.CNT.V j).key)) ∧ e.pwr.pwr.phase = .entering)) ∧
    (again → sget d.eng.dq r.index [] ≠ [] → late → completes .parkDelayRetry s (fun e => memSame d e ∧ pwrRefused e 6 0)) ∧
    (again → sget d.eng.dq r.index [] ≠ [] → ¬ late → completes .parkDelayRetry s (fun e => memSame d e ∧ e.pwr.pwr = { r with askedAt := d.tick })) ∧
    (d.tick < r.askedAt + 10000 → completes .parkDelayRetry s (fun e => e = d))

/-- R382, R385, R388 to R390, Table 16.5: a domain that has entered shows its state and ends the request, a wake meanwhile follows at once; one that has left its state works again, as do the blocks of a refused request, an octet's ports start bring-up at step 3; an engine dozes where it may; energy on a lane of a parked octet wakes it where it is enabled and the trip is not in force, and is kept for an octet that is entering. A domain is entering from its first GRANT on (R382). That a wake by energy also ends STANDBY is log entry 72. -/
def Sys2Proof.Machine.domainChangesSays : Prop :=
  ∀ (s : State) (i : Nat),
    let d := s.dev
    let r := d.pwr.pwr
    let ports := octetPorts i (d.octetMode i)
    let dozes := d.clusterOn (i / 8) = true ∧ d.is (ENG.MODE.SLEEP_EN (i / 8) (i % 8)) = true ∧ sget d.pwr.dozing i 0 = 0 ∧
      (∀ j, j < 8 → (d.ctx (8 * i + j)).st.idle = true) ∧ sget d.eng.kq i [] = [] ∧ (∀ t ∈ d.qry.txns, t.ctx = 0 ∨ (t.ctx - 1) / 8 ≠ i) ∧ sget d.eng.idleAt i 0 + 10 * d.get (ENG.MODE.IDLE_DELAY (i / 8) (i % 8)) ≤ d.tick
    let cl := PWR.CL_STATE.PARKED
    (r.phase = .entering → r.kind = 0 → r.index < 64 → r.target = 1 → completes .domainEntryDone s (fun e => memSame d e ∧
      pwrEnded e (if r.woken then 2 else 0) ∧ bit (e.get cl) r.index = true ∧ (∀ j, j < 64 → j ≠ r.index → bit (e.get cl) j = bit (d.get cl) j) ∧
      (r.woken = true → (0, r.index) ∈ e.pwr.waking))) ∧
    (r.phase = .entering → r.kind = 1 → r.index < 32 → (r.target = 1 ∨ r.target = 2) → r.woken = false → completes .domainEntryDone s (fun e => memSame d e ∧
      pwrEnded e 0 ∧ e.octetSt r.index = r.target ∧ ∀ o, o < 32 → o ≠ r.index → e.octetSt o = d.octetSt o)) ∧
    (r.phase ≠ .entering → completes .domainEntryDone s (fun e => e = d)) ∧
    (i < 64 → (0, i) ∈ d.pwr.waking → completes (.domainExitDone 0 i) s (fun e => memSame d e ∧ bit (e.get cl) i = false ∧ (0, i) ∉ e.pwr.waking ∧
      (r.phase = .exiting → r.need = [(0, i)] → pwrEnded e 0) ∧ (r.phase ≠ .exiting → e.pwr.pwr = r))) ∧
    (i < 64 → (0, i) ∉ d.pwr.waking → r.phase = .undoing → r.kind = 0 → r.index = i → r.pos = 1 → completes (.domainExitDone 0 i) s (fun e => memSame d e ∧ pwrEnded e 1)) ∧
    (i < 32 → (1, i) ∈ d.pwr.waking → completes (.domainExitDone 1 i) s (fun e => memSame d e ∧ e.octetSt i = 0 ∧ (1, i) ∉ e.pwr.waking ∧
      ∀ p, p ∈ ports → e.bringAt p = if e.canBring p then 3 else 0)) ∧
    (i < 512 → dozes → completes (.engineDoze i) s (fun e => e = { d with pwr := { d.pwr with dozing := sset d.pwr.dozing i 1 0 } })) ∧
    (i < 512 → ¬ dozes → completes (.engineDoze i) s (fun e => e = d)) ∧
    (i < 32 → r.phase = .idle → d.octetSt i = 1 → bit (d.get PWR.WAKE_CFG.EN) i = true → d.is PWR.SL_STATE.TRIPPED = false → completes (.lineEnergyWake i) s (fun e =>
      memSame d e ∧ (∀ x, x ∈ domPath 1 i → d.domOff x.1 x.2 = true → x ∈ e.pwr.waking) ∧ e.is PWR.WAKE_STAT.VALID = true ∧
      e.get PWR.WAKE_STAT.SOURCE = 1 ∧ e.get PWR.WAKE_STAT.OCTET = i ∧ raised e EV_PWR_WAKE)) ∧
    (i < 32 → r.phase = .idle → (d.octetSt i ≠ 1 ∨ bit (d.get PWR.WAKE_CFG.EN) i = false ∨ d.is PWR.SL_STATE.TRIPPED = true) →
      completes (.lineEnergyWake i) s (fun e => e = d)) ∧
    (i < 32 → r.phase = .asking → r.kind = 1 → r.index = i → r.target = 1 → 0 < r.pos → d.octetSt i = 0 → bit (d.get PWR.WAKE_CFG.EN) i = true → d.is PWR.SL_STATE.TRIPPED = false →
      completes (.lineEnergyWake i) s (fun e => memSame d e ∧ e.pwr.pwr = { r with woken := true } ∧ raised e EV_PWR_WAKE))

/-- Power requests and changes of power domains: `powerRequestsSays`, `domainChangesSays`. -/
def Obligations.PowerDomains : Prop := powerRequestsSays ∧ domainChangesSays

-- AVS, the pace governor and temperature (spec/16 R391 to R395).

/-- R391 to R393: a confirmed voltage write is copied to V_ACK and clears NO_REPLY; an unconfirmed one is sent again, and after three failed retries NO_REPLY is set with its event. The governor takes each slice's pace, moves the request by at most one step, never up while a half is at its limit, and asks for one step more where every slice in service is below TARGET; paces taken within 200 µs of a confirmation are discarded. That the voltage measured stands for the request before the first one is the model's choice (log entry 62); how a write is retried and NO_REPLY is held is log entry 73. No confirmation arrives while the boundary cells hold the bus (R376, log entry 96). -/
def Sys2Proof.Machine.voltageAndPaceSays : Prop :=
  ∀ (s : State) (mv v : Nat) (paces : List Nat),
    let d := s.dev
    let p := d.pwr
    let pace := fun k => min (nthD paces k 0) 1023
    let up := d.get PWR.AVS_CFG.STEP_UP_MV
    let due := p.govAt + d.get PWR.PACE_CFG.PERIOD_US * 1000 ≤ d.tick + 1
    let settled := p.avsAckAt = 0 ∨ p.avsAckAt + 200000 ≤ d.tick + 1
    let wait := if d.is PWR.AVS_STAT.NO_REPLY then 10000000 else 100000
    (p.avsPend = some v → v < 65536 → d.host.balls = false → completes (.avsResponse mv) s (fun e => memSame d e ∧ e.get PWR.AVS_STAT.V_ACK = v ∧ e.is PWR.AVS_STAT.NO_REPLY = false ∧
      (e.is PWR.AVS_STAT.AT_MAX = true ↔ v = d.get PWR.AVS_CFG.VMAX_MV) ∧ e.pwr.avsPend = none ∧ e.pwr.vMeas = mv % 65536 ∧
      regsSame d e [PWR.AVS_STAT.V_ACK.key, PWR.AVS_STAT.NO_REPLY.key, PWR.AVS_STAT.AT_MAX.key])) ∧
    (p.avsPend = none ∨ d.host.balls = true → completes (.avsResponse mv) s (fun e => e = d)) ∧
    (d.is PWR.AVS_CFG.EN = true → p.avsPend = some v → p.avsAt + wait ≤ d.tick → p.avsFails < 3 → completes .avsRetry s (fun e => e = { d with pwr := { p with avsAt := d.tick, avsFails := p.avsFails + 1 } })) ∧
    (d.is PWR.AVS_CFG.EN = true → p.avsPend = some v → p.avsAt + wait ≤ d.tick → 3 ≤ p.avsFails → completes .avsRetry s (fun e => memSame d e ∧ e.is PWR.AVS_STAT.NO_REPLY = true ∧
      e.pwr.avsPend = some v ∧ e.pwr.avsAt = d.tick ∧ (d.is PWR.AVS_STAT.NO_REPLY = false → raised e EV_AVS_NO_REPLY))) ∧
    ((d.tick < p.avsAt + wait ∨ d.is PWR.AVS_CFG.EN = false) → completes .avsRetry s (fun e => e = d)) ∧
    (due → settled → completes (.governorPeriod paces) s (fun e => memSame d e ∧
      (∀ k, k < 8 → d.sliceOn k = true → e.get (PWR.PACE_STAT.PACE k) = pace k ∧ e.is (PWR.PACE_STAT.PARKED k) = false) ∧
      (∀ k, k < 8 → d.sliceOn k = false → e.is (PWR.PACE_STAT.PARKED k) = true) ∧
      (e.get PWR.AVS_STAT.V_REQ = d.get PWR.AVS_STAT.V_REQ ∨ (d.is PWR.AVS_CFG.EN = true ∧ p.avsPend = none ∧ e.get PWR.AVS_STAT.V_REQ ≤ d.vReq + up ∧
        (d.thermalLimit = true → e.get PWR.AVS_STAT.V_REQ ≤ d.vReq))))) ∧
    (due → settled → (∃ k, k < 8 ∧ d.sliceOn k = true) → (∀ k, k < 8 → d.sliceOn k = true → pace k < d.get PWR.PACE_CFG.TARGET) → up ≠ 0 →
      d.is PWR.AVS_CFG.EN = true → p.avsPend = none → p.avsReqAt = 0 → d.thermalLimit = false → d.get PWR.AVS_CFG.VMIN_MV ≤ d.vReq + up →
      d.vReq + up ≤ d.get PWR.AVS_CFG.VMAX_MV → d.get PWR.AVS_CFG.VMAX_MV < 65536 →
      completes (.governorPeriod paces) s (fun e => e.get PWR.AVS_STAT.V_REQ = d.vReq + up ∧ e.pwr.avsPend = some (d.vReq + up))) ∧
    (due → ¬ settled → completes (.governorPeriod paces) s (fun e => e = { d with pwr := { p with govAt := d.tick + 1 } }))

/-- R395: at WARN and at LIMIT a half raises its event, once until it has fallen by 2 °C; below LIMIT the limit ends; at 115 °C every octet that is on is parked, its links down, with TRIPPED and its event; the trip ends where both halves have fallen to 10 °C below LIMIT. An octet that is entering wakes no more for what reached it before the trip. When WARN may be raised again is the model's choice (log entry 119). -/
def Sys2Proof.Machine.thermalResponseSays : Prop :=
  ∀ (s : State) (h : Nat) (t t1 : Int),
    let d := s.dev
    let p := d.pwr
    let warn : Int := d.get PWR.THERM_CFG.WARN
    let limit : Int := d.get PWR.THERM_CFG.LIMIT
    let temp := fun (e : Dev) => (if h = 0 then e.pwr.tempH0 else e.pwr.tempH1) = t
    let ev := fun k => (GLB.EVT_STAT.STAT (k / 16)).key
    h < 2 →
    (warn ≤ t → sget p.thermWarn h 0 ≠ 1 → completes (.thermalWarn h t) s (fun e => memSame d e ∧ temp e ∧ raised e EV_THERMAL_WARN ∧ sget e.pwr.thermWarn h 0 = 1 ∧
      regsSame d e [ev EV_THERMAL_WARN])) ∧
    (warn ≤ t → sget p.thermWarn h 0 = 1 → completes (.thermalWarn h t) s (fun e => memSame d e ∧ temp e ∧ regsSame d e [])) ∧
    (t < warn → completes (.thermalWarn h t) s (fun e => e = d)) ∧
    (limit ≤ t → completes (.thermalLimit h t) s (fun e => memSame d e ∧ temp e ∧ e.thermalLimit = true ∧ regsSame d e [ev EV_THERMAL_LIMIT] ∧
      (sget p.thermLim h 0 = 0 → raised e EV_THERMAL_LIMIT))) ∧
    (sget p.thermLim h 0 = 1 → t < limit → completes (.thermalLimitClear h t) s (fun e => memSame d e ∧ temp e ∧ regsSame d e [] ∧
      sget e.pwr.thermLim h 0 = (if t ≤ limit - 2 then 0 else 2) ∧ sget e.pwr.thermLim (1 - h) 0 = sget p.thermLim (1 - h) 0)) ∧
    (sget p.thermLim h 0 ≠ 1 → t < limit → t ≤ warn - 2 → completes (.thermalLimitClear h t) s (fun e => memSame d e ∧ temp e ∧ regsSame d e [] ∧ sget e.pwr.thermWarn h 0 = 0)) ∧
    (115 ≤ t → d.is PWR.SL_STATE.TRIPPED = false → p.pwr.phase ≠ .exiting → d.swc.queues = [] → d.tmu.buoys = [] → d.mac.tx = [] →
      completes (.thermalTrip h t) s (fun e => memSame d e ∧ temp e ∧ e.is PWR.SL_STATE.TRIPPED = true ∧ raised e EV_THERMAL_TRIP ∧
      (∀ o, o < 32 → e.octetSt o ≠ 0) ∧ (p.pwr.kind = 1 → e.pwr.pwr.woken = false) ∧ ∀ x, x ∈ e.pwr.waking → x.1 ≠ 1)) ∧
    (115 ≤ t → d.is PWR.SL_STATE.TRIPPED = true → completes (.thermalTrip h t) s (fun e => memSame d e ∧ temp e ∧ regsSame d e [])) ∧
    (d.is PWR.SL_STATE.TRIPPED = true → t ≤ limit - 10 → t1 ≤ limit - 10 → completes (.thermalTripClear t t1) s (fun e => memSame d e ∧
      e.is PWR.SL_STATE.TRIPPED = false ∧ e.pwr.tempH0 = t ∧ e.pwr.tempH1 = t1 ∧ regsSame d e [PWR.SL_STATE.TRIPPED.key])) ∧
    (d.is PWR.SL_STATE.TRIPPED = true → limit - 10 < t → completes (.thermalTripClear t t1) s (fun e => e = d))

/-- Voltage scaling, the pace governor and the response to temperature: `voltageAndPaceSays`, `thermalResponseSays`. -/
def Obligations.VoltageAndHeat : Prop := voltageAndPaceSays ∧ thermalResponseSays

-- Counters and bandwidth windows (spec/18 R417 to R428).

/-- R418 to R423: a sweep brings each accumulator up by what its counter has gained, modulo 2^40, so that its low 40 bits are the counter's (said here of the counters of PWR, offset 0x200500 of half 0's area); it notes its time, tells of a late one, and completes a pending sync. EN rises only where the checks pass, and then marks the area as initialised; a sync completes at once while the reader is off. A sweep is one step, which completes a pending sync, and waits where an accumulator lies in a row under repair (log entry 41); the check of the accumulators is log entry 40. -/
def Sys2Proof.Machine.counterReaderSays : Prop :=
  ∀ (s : State) (us v token i : Nat),
    let d := s.dev
    let base := fun h => d.get (CTR.ACC_BASE.OFFSET h)
    let a := hbmA 0 (0xA00000000 + base 0 + 0x200500 + 8 * i)
    let late := EV_CTR_SWEEP_LATE
    let en := CTR.CTL.EN
    let ctl := [CTR.CTL.CFG_ERR.key, CTR.CTL.SWEEP_US.key]
    let off := d.is en = false
    (d.is en = true → d.sweepWaits = false → d.bad = [] → (∀ h, h < 2 → base h < 0x200000000) → completes (.ctrSweep us []) s (fun e =>
      e.get CTR.STAT.LAST_US = min us 65535 ∧
      (d.get CTR.CTL.SWEEP_US < us → e.get CTR.STAT.LATE = min (d.get CTR.STAT.LATE + 1) 65535 ∧ (sget d.evtMs late 0 ≠ d.tick / 1000000 + 1 → raised e late)) ∧
      (us ≤ d.get CTR.CTL.SWEEP_US → e.get CTR.STAT.LATE = d.get CTR.STAT.LATE) ∧
      (d.is CTR.SYNC_DONE.PEND = true → e.is CTR.SYNC_DONE.PEND = false ∧ e.get CTR.SYNC_DONE.TOKEN = d.get CTR.SYNC.TOKEN % 65536) ∧
      (i < 10 → d.get (PWR.CNT.V i) < 2 ^ 40 → e.rd64 a % 2 ^ 40 = d.get (PWR.CNT.V i) ∧
        e.rd64 a = (d.rd64 a + (d.get (PWR.CNT.V i) + 2 ^ 40 - d.rd64 a % 2 ^ 40) % 2 ^ 40) % 2 ^ 64) ∧
      (∀ x, (∀ h, h < 2 → x < hbmA h (0xA00000000 + base h) ∨ hbmA h (0xA00000000 + base h) + 0x400000 ≤ x) → e.rdB x = d.rdB x))) ∧
    (off ∨ d.sweepWaits = true → completes (.ctrSweep us []) s (fun e => e = d)) ∧
    (d.reaches en → off → d.accOk 0 = true → d.accOk 1 = true → d.is CTR.CTL.INIT_DONE = true → completes (.ctrEnable v) s (fun e => memSame d e ∧ e.is en = true ∧
      regsSame d e (en.key :: ctl))) ∧
    (d.reaches en → off → d.accOk 0 = true → d.accOk 1 = true → d.is CTR.CTL.INIT_DONE = false → completes (.ctrEnable v) s (fun e => e.is en = true ∧
      e.is CTR.CTL.INIT_DONE = true ∧ regsSame d e (en.key :: CTR.CTL.INIT_DONE.key :: ctl))) ∧
    (d.reaches en → off → (d.accOk 0 = false ∨ d.accOk 1 = false) → completes (.ctrEnable v) s (fun e => memSame d e ∧ e.is en = false ∧ e.is CTR.CTL.CFG_ERR = true ∧
      raised e EV_CTR_CFG_ERR)) ∧
    (d.reaches en → d.is en = true → completes (.ctrEnable v) s (fun e => memSame d e ∧ regsSame d e ctl)) ∧
    (d.reaches CTR.SYNC.TOKEN → d.is en = true → completes (.ctrSync token) s (fun e => memSame d e ∧ e.is CTR.SYNC_DONE.PEND = true ∧ e.get CTR.SYNC.TOKEN = token % 65536 ∧
      regsSame d e [CTR.SYNC.TOKEN.key, CTR.SYNC_DONE.PEND.key])) ∧
    (d.reaches CTR.SYNC.TOKEN → off → completes (.ctrSync token) s (fun e => memSame d e ∧ e.is CTR.SYNC_DONE.PEND = false ∧
      e.get CTR.SYNC_DONE.TOKEN = token % 65536 ∧ e.get CTR.SYNC.TOKEN = token % 65536))

/-- R427, R428: at the end of a window its octets, sequence numbers and peaks are shown, a total above THR × 64 octets sets its bit and raises its event; the first window starts so; a write of BW_CFG that changes the window, the wire count or EN discards the window; a read of the peaks clears them. A slice other than slice 0 has no port of index 32: there BW_CFG is reserved and a write has no effect (R430, R9). -/
def Sys2Proof.Machine.bandwidthWindowsSays : Prop :=
  ∀ (s : State) (l j v : Nat),
    let d := s.dev
    let k := 34 * l + j
    let rx := sget d.ctr.bwRx k 0
    let tx := sget d.ctr.bwTx k 0
    let live := sget d.ctr.bwLive k 0
    let ends := d.is (SCT.BW_CFG.EN l j) = true ∧ d.sliceParked l = false ∧ d.tick % (d.get (SCT.BW_CFG.WIN_US l j) * 1000) = 0 ∧ live ≠ d.tick + 1
    let cleared := fun (e : Dev) => sget e.ctr.bwRx k 0 = 0 ∧ sget e.ctr.bwTx k 0 = 0
    let peaks := [(SCT.BW_PEAK.RX_PEAK l j).key, (SCT.BW_PEAK.TX_PEAK l j).key]
    let cfg := [(SCT.BW_CFG.THR l j).key, (SCT.BW_CFG.EN l j).key, (SCT.BW_CFG.WIRE l j).key, (SCT.BW_CFG.WIN_US l j).key]
    let us := v % 2 ^ 20
    l < 8 → j < 34 →
    (ends → live = 0 → completes (.bwWindowEnd l j) s (fun e => memSame d e ∧ regsSame d e [] ∧ cleared e ∧ sget e.ctr.bwLive k 0 = d.tick + 1)) ∧
    (ends → live ≠ 0 → completes (.bwWindowEnd l j) s (fun e => memSame d e ∧ cleared e ∧ sget e.ctr.bwLive k 0 = d.tick + 1 ∧
      e.get (SCT.BW_RX.OCTETS l j) = rx % 2 ^ 48 ∧ e.get (SCT.BW_TX.OCTETS l j) = tx % 2 ^ 48 ∧
      e.get (SCT.BW_RX.SEQ l j) = (d.get (SCT.BW_RX.SEQ l j) + 1) % 65536 ∧ e.get (SCT.BW_TX.SEQ l j) = (d.get (SCT.BW_TX.SEQ l j) + 1) % 65536 ∧
      e.get (SCT.BW_PEAK.RX_PEAK l j) = max (d.get (SCT.BW_PEAK.RX_PEAK l j)) (rx / 64) % 2 ^ 32 ∧
      e.get (SCT.BW_PEAK.TX_PEAK l j) = max (d.get (SCT.BW_PEAK.TX_PEAK l j)) (tx / 64) % 2 ^ 32 ∧
      (d.get (SCT.BW_CFG.THR l j) * 64 < max rx tx → bit (e.get (SCT.BW_HIGH.HIGH l)) j = true ∧
        (sget d.evtMs (EV_SCT_BW_HIGH l) 0 ≠ d.tick / 1000000 + 1 → raised e (EV_SCT_BW_HIGH l))))) ∧
    (¬ ends → completes (.bwWindowEnd l j) s (fun e => e = d)) ∧
    (d.reaches (SCT.BW_CFG.WIN_US l j) → (j ≠ 32 ∨ l = 0) → 1 ≤ us → us ≤ 1000000 → completes (.bwCfgWrite l j v) s (fun e => memSame d e ∧ regsSame d e cfg ∧
      e.get (SCT.BW_CFG.WIN_US l j) = us ∧ e.get (SCT.BW_CFG.WIRE l j) = v / 2 ^ 20 % 2 ∧ e.get (SCT.BW_CFG.EN l j) = v / 2 ^ 21 % 2 ∧
      e.get (SCT.BW_CFG.THR l j) = v / 2 ^ 32 % 2 ^ 32 ∧
      ((us ≠ d.get (SCT.BW_CFG.WIN_US l j) ∨ v / 2 ^ 20 % 2 ≠ d.get (SCT.BW_CFG.WIRE l j) ∨ v / 2 ^ 21 % 2 ≠ d.get (SCT.BW_CFG.EN l j)) →
        cleared e ∧ sget e.ctr.bwLive k 0 = 0))) ∧
    (d.reaches (SCT.BW_PEAK.RX_PEAK l j) → completes (.bwPeakRead l j) s (fun e => memSame d e ∧ regsSame d e peaks ∧
      e.host.hostData = [d.get (SCT.BW_PEAK.RX_PEAK l j) + d.get (SCT.BW_PEAK.TX_PEAK l j) * 2 ^ 32] ∧
      e.get (SCT.BW_PEAK.RX_PEAK l j) = 0 ∧ e.get (SCT.BW_PEAK.TX_PEAK l j) = 0)) ∧
    (d.reaches (SCT.BW_CFG.WIN_US l j) → j = 32 → l ≠ 0 → completes (.bwCfgWrite l j v) s (fun e => e = d))

/-- The counter reader and bandwidth windows: `counterReaderSays`, `bandwidthWindowsSays`. -/
def Obligations.CountersAndBandwidth : Prop := counterReaderSays ∧ bandwidthWindowsSays

-- The machine as a whole.

/-- Every register field at the value that the spec gives for reset, memory as after power-on, nothing waiting, running or queued, and the device held in reset. Table 14.2: a cold reset puts every register at its reset value. That the persistent store and the flash of a new device are empty, and that a register with no stated reset value reads 0, are the model's choices (log entries 3, 8, 56). -/
def Obligations.ResetState : Prop :=
  let d := State.reset.dev
  State.reset.pending = [] ∧ (∀ f : Fld, d.get f = f.rst) ∧ (∀ a, d.rdB a = memDefault a) ∧ blocksReset d ∧ d.held = true ∧
  (∀ n, (d.ctx n).st = .free) ∧ (∀ p q, (d.queue p q).ents = []) ∧ d.boot.flash = [] ∧ d.boot.progHash = 0 ∧ d.boot.progSig = false

/-- The reset state is sound: memory and registers in their canonical form, the ns counter a time. -/
def Obligations.SoundReset : Prop := State.reset.dev.sound

/-- Every step keeps a sound device sound: memory stays in its one canonical form, the registers in theirs, and the ns counter stays below one second with a 32-bit fraction and 48-bit seconds (R316, Table 13.1). -/
def Obligations.SoundKept : Prop :=
  ∀ s t : State, s.dev.sound → step s = .next t → t.dev.sound

/-- A step takes the command at the front of the queue and runs it on the device with the rest of the queue. -/
def Obligations.StepRunsFront : Prop :=
  ∀ (d : Dev) (c : Instr) (cs : List Instr), step ⟨d, c :: cs⟩ = exec c ⟨d, cs⟩

/-- With no command waiting, a step is one tick of 1 ns (log entry 7). In cold reset nothing else changes. With RUN at 0 the time of day holds its value. No tick changes a register, memory, a packet or a queue; in a parked domain the timers (down-holds, pauses, the time of residue copies) move with the tick, so that no time passes for them (R383). What the board drives on the GPIO balls is an input (log entry 95), and so is what the host writes into the configuration of the endpoint (log entry 97). -/
def Obligations.IdleTick : Prop :=
  ∀ d : Dev,
    (d.inCold = true → step ⟨d, []⟩ = .next ⟨{ d with tick := d.tick + 1 }, []⟩) ∧
    (d.inCold = false → ∃ e : Dev, step ⟨d, []⟩ = .next ⟨e, []⟩ ∧ e.tick = d.tick + 1 ∧ memSame d e ∧ regsSame d e [] ∧ e.pipe = d.pipe ∧ e.swc = { d.swc with downAt := e.swc.downAt, paused := e.swc.paused, pauseAt := e.swc.pauseAt, residues := e.swc.residues } ∧ (d.anyParked = false → e.swc = d.swc) ∧ e.pin = { d.pin with gpioExt := Config.gpioBoard (d.tick + 1) } ∧
      e.host = { d.host with pcie := e.host.pcie } ∧ (d.host.balls = true ∨ Config.hostCfg (d.tick + 1) = none → e.host.pcie = d.host.pcie) ∧
      (d.is TMU.CTL.RUN = false → e.tmu = d.tmu) ∧
      ∀ n, (e.ctx n).st = (d.ctx n).st ∧ (e.ctx n).regs = (d.ctx n).regs ∧ (e.ctx n).pc = (d.ctx n).pc ∧ (e.ctx n).pkt = (d.ctx n).pkt)

/-- Every command answers a next state in every state and for every operand: nothing faults, nothing is refused, and the waiting commands stay as they are (log entry 1: a command whose enabling condition does not hold changes nothing). -/
def Obligations.EveryCommandAnswers : Prop :=
  ∀ (i : Instr) (s : State), ∃ t : State, exec i s = .next t ∧ t.pending = s.pending

-- Where each command completes: one clause for every constructor. The conditions are those of the statement of its result above, on the state and the operands alone.

/-- R217: where ADD, SUB complete. -/
def Sys2Proof.Machine.aluAddSubRunsSays : Prop :=
  ∀ (s : State) (n : Nat) (ups : List (Nat × Nat)) (u : Cur),
    let a := s.dev.operand n u.word (uA u.word)
    let b := s.dev.operand n u.word (uB u.word)
    (aluNext s.dev n 1 ups u → completes (.add n ups) s (fun e => aluLeaves s.dev e n u (some (a + b)) ∧
      flagsAfter u (s.dev.ctx n) (e.ctx n) (a + b) (decide (2 ^ 64 ≤ a.toNat + b.toNat)) (decide ((a + b).toInt ≠ a.toInt + b.toInt)))) ∧
    (aluNext s.dev n 2 ups u → completes (.sub n ups) s (fun e => aluLeaves s.dev e n u (some (a - b)) ∧
      flagsAfter u (s.dev.ctx n) (e.ctx n) (a - b) (decide (a.toNat < b.toNat)) (decide ((a - b).toInt ≠ a.toInt - b.toInt))))

/-- R217: where ALU_NOP, AND, OR, XOR, ANDN, MOV, SHL, SHR, SAR, SRAND, SHLOR, MIN, MAX, MULLO, MULHI, CSADD, CRC32C, POPCNT, FFS complete. -/
def Sys2Proof.Machine.aluOthersRunsSays : Prop :=
  ∀ (s : State) (n : Nat) (ups : List (Nat × Nat)) (u : Cur),
    let a := s.dev.operand n u.word (uA u.word)
    let b := s.dev.operand n u.word (uB u.word)
    (aluNext s.dev n 0 ups u → completes (.aluNop n ups) s (fun e => aluLeaves s.dev e n u none ∧ (e.ctx n).conds = (s.dev.ctx n).conds)) ∧
    (∀ p ∈ aluTable, aluNext s.dev n p.2.1 ups u → completes (p.1 n ups) s (fun e => aluLeaves s.dev e n u (some (p.2.2 a b (uSHAMT u.word)))))

/-- R219: where NEXT, JUMP, BRANCH, MWAY complete. -/
def Sys2Proof.Machine.seqNextPcRunsSays : Prop :=
  ∀ (s : State) (n : Nat) (u : Cur),
    let t := fun i => s.dev.seqTest n u i
    (seqNext s.dev n 0 u → completes (.next n) s (fun e => seqLeaves s.dev e n ((s.dev.ctx n).pc + 1))) ∧
    (seqNext s.dev n 1 u → completes (.jump n) s (fun e => seqLeaves s.dev e n (uTARGET u.word))) ∧
    (seqNext s.dev n 2 u → completes (.branch n) s (fun e => seqLeaves s.dev e n (if t 0 = uNEG u.word then (s.dev.ctx n).pc + 1 else uTARGET u.word))) ∧
    (seqNext s.dev n 3 u → uTARGET u.word % 16 = 0 →
      completes (.mway n) s (fun e => seqLeaves s.dev e n (uTARGET u.word + b2n (t 0) + 2 * b2n (t 1) + 4 * b2n (t 2) + 8 * b2n (t 3))))

/-- R220: where CALL, RET complete. -/
def Sys2Proof.Machine.seqCallRetRunsSays : Prop :=
  ∀ (s : State) (n : Nat) (u : Cur),
    let x := s.dev.ctx n
    (seqNext s.dev n 4 u → x.stack.length < 4 → completes (.call n) s (fun e => seqLeaves s.dev e n (uTARGET u.word) ∧
      (e.ctx n).stack = (x.pc + 1) % 8192 :: x.stack)) ∧
    (∀ p ps, seqNext s.dev n 5 u → x.stack = p :: ps → completes (.ret n) s (fun e => seqLeaves s.dev e n p ∧ (e.ctx n).stack = ps))

/-- R224: where MEM_NOP, LDH, STH complete. -/
def Sys2Proof.Machine.headerWindowRunsSays : Prop :=
  ∀ (s : State) (n : Nat) (u : Cur),
    let d := s.dev
    let x := d.ctx n
    let m := sizeBytes u.word
    (memNext d n 0 u → completes (.memNop n) s (fun e => opDone d e n x u [])) ∧
    (∀ k, memNext d n 1 u → x.pkt = some k →
      completes (.ldh n) s (fun e => opDone d e n x u [(dataNo u 0, BitVec.ofNat 64 (beNat ((List.range m).map (fun i => if u.addr + i < k.winLen then nthD k.body (u.addr + i) 0 else 0))))])) ∧
    (∀ k, memNext d n 2 u → x.pkt = some k → u.addr + m ≤ k.winLen →
      completes (.sth n) s (fun e => opDone d e n { x with pkt := some { k with body := writeB k.body u.addr (natBE m (x.p (uREG u.word)).toNat) } } u []))

/-- R224: where LDK completes. -/
def Sys2Proof.Machine.keyWindowRunsSays : Prop :=
  ∀ (s : State) (n : Nat) (u : Cur),
    let d := s.dev
    let x := d.ctx n
    let m := sizeBytes u.word
    memNext d n 3 u →
    (u.addr + m ≤ 128 → x.key ≠ [] → completes (.ldk n) s (fun e => opDone d e n x u [(dataNo u 0, BitVec.ofNat 64 (beAt x.key u.addr m))]))

/-- R193: where LDS, STS, LDC, STC complete. -/
def Sys2Proof.Machine.scratchAndCregsRunsSays : Prop :=
  ∀ (s : State) (n : Nat) (ups : List (Nat × Nat)) (u : Cur),
    let d := s.dev
    let x := d.ctx n
    let c := n / 64
    let a := scratchA n u.addr
    let r := ENG.CREG.W c (u.addr % 64)
    (memNext d n 4 u → u.addr % 8 = 0 → u.addr < 0x80000 → (d.upset ups).badAt a = 0 →
      completes (.lds n ups) s (fun e => opWaits d e n x u .op [(dataNo u 0, BitVec.ofNat 64 (d.rd64 a))])) ∧
    (memNext d n 5 u → u.addr % 8 = 0 → u.addr < 0x80000 → completes (.sts n) s (fun e => stored8 d e a (x.p (uREG u.word)).toNat ∧ opWaits d e n x u .op [])) ∧
    (memNext d n 6 u → (d.upset ups).badAt (cregKey c (u.addr % 64)) = 0 →
      completes (.ldc n ups) s (fun e => opWaits d e n x u .op [(dataNo u 0, BitVec.ofNat 64 (d.get r))])) ∧
    (memNext d n 7 u → noWaitc d n → completes (.stc n) s (fun e => e.ctx n = { x with st := .waitMem, wait := .op } ∧ e.get r = (x.p (uREG u.word)).toNat))

/-- R193: where ATOM_ADD, ATOM_SWAP complete. -/
def Sys2Proof.Machine.scratchAtomicsRunsSays : Prop :=
  ∀ (s : State) (n : Nat) (ups : List (Nat × Nat)) (u : Cur),
    let d := s.dev
    let x := d.ctx n
    let a := scratchA n u.addr
    let old := d.rd64 a
    memNext d n 8 u → bit (uSIZE u.word) 2 = false → u.addr % 8 = 0 → u.addr < 0x80000 → (d.upset ups).badAt a = 0 →
    (uSIZE u.word % 4 = 0 → completes (.atomAdd n ups) s (fun e => stored8 d e a (old + (x.p (uREG u.word)).toNat) ∧
      opWaits d e n x u .op [(dataNo u 0, BitVec.ofNat 64 old)])) ∧
    (uSIZE u.word % 4 = 1 → completes (.atomSwap n ups) s (fun e => stored8 d e a (x.p (uREG u.word)).toNat ∧
      opWaits d e n x u .op [(dataNo u 0, BitVec.ofNat 64 old)]))

/-- R223: where ATOM_CAS completes. -/
def Sys2Proof.Machine.scratchCasRunsSays : Prop :=
  ∀ (s : State) (n : Nat) (ups : List (Nat × Nat)) (u : Cur),
    let d := s.dev
    let x := d.ctx n
    let a := scratchA n u.addr
    let old := d.rd64 a
    let scratch := uSIZE u.word % 8 = 2 ∧ u.addr % 8 = 0 ∧ u.addr < 0x80000 ∧ (d.upset ups).badAt a = 0
    memNext d n 8 u →
    (scratch → old = (x.p (uREG u.word)).toNat → completes (.atomCas n ups) s (fun e => stored8 d e a (x.p (uREG u.word + 1)).toNat ∧
      opWaits d e n (x.setCond 0x0C false) u .op [(dataNo u 0, BitVec.ofNat 64 old)]))

/-- R228, R229, R403: where LDM, STM, ADDM complete. -/
def Sys2Proof.Machine.hbmAccessRunsSays : Prop :=
  ∀ (s : State) (n : Nat) (ups : List (Nat × Nat)) (u : Cur),
    let d := s.dev
    let x := d.ctx n
    let h := u.addr / 2 ^ 36
    let o := winOff d n u.addr
    let a := hbmA h o
    let v := (x.p (uREG u.word)).toNat
    (memNext d n 9 u → inWindow d n u.addr → d.inAcc h o 8 = false → (d.upset ups).badAt a = 0 → d.areaWaits a 8 = false →
      completes (.ldm n ups) s (fun e => opWaits d e n x { u with hbm := a } .hbm [(dataNo u 0, BitVec.ofNat 64 (d.see64 a))])) ∧
    (memNext d n 0xA u → inWindow d n u.addr → d.protectedHbm h o 8 = false → d.areaWaits a 8 = false → completes (.stm n) s (fun e => stored8 d e a v ∧
      opDone d e n (noted x a) u [])) ∧
    (memNext d n 0xB u → inWindow d n u.addr → d.protectedHbm h o 8 = false → d.rowWaits a = false → completes (.addm n) s (fun e => stored8 d e a (d.rd64 a + v) ∧
      opDone d e n (noted x a) u []))

/-- R195, R276: where BALLOC, BFREE complete. -/
def Sys2Proof.Machine.bufferAllocFreeRunsSays : Prop :=
  ∀ (s : State) (n : Nat) (u : Cur),
    let d := s.dev
    let x := d.ctx n
    (memNext d n 0xC u → 1 ≤ u.addr → u.addr ≤ 262144 → d.handleShare n = true → completes (.balloc n) s (fun e => (e.ctx n).st = .waitMem ∧ (e.ctx n).wait = .op ∧
      (∀ m, m ≠ n → e.ctx m = d.ctx m) ∧ ((∃ y, (e.ctx n).handles = x.handles ++ [y] ∧ (e.ctx n).cond 0x12 = false ∧
      (e.ctx n).cur = some { u with loads := u.loads ++ [(dataNo u 0, BitVec.ofNat 64 y)] }) ∨ ((e.ctx n).handles = x.handles ∧ (e.ctx n).cond 0x12 = true ∧
      ∃ hint, (e.ctx n).cur = some { u with loads := u.loads ++ [(dataNo u 0, 0xFFFFFFFF), (dataNo u 1, hint)] })))) ∧
    (memNext d n 0xD u → d.handleOk (ctxHalf n) (u.addr % 2 ^ 32) = true →
      completes (.bfree n) s (fun e => e.ctx n = { x with st := .waitMem, wait := .op, handles := x.handles.erase (u.addr % 2 ^ 32) }))

/-- R224, R278: where BREF, BLD, BST complete. -/
def Sys2Proof.Machine.bufferRefAccessRunsSays : Prop :=
  ∀ (s : State) (n : Nat) (u : Cur),
    let d := s.dev
    let x := d.ctx n
    let h := ctxHalf n
    let y := u.addr % 2 ^ 32
    let w := d.binfo h y
    let z := (x.p (uREG u.word + 1)).toNat % 2 ^ 32
    let a := d.bufA h z u.addr
    (memNext d n 0xE u → d.handleShare n = true → d.handleOk h y = true → d.metaErr h y = false → 1 ≤ mREF w → mREF w < 255 → mQUAR w = false → mPARKED w = false →
      completes (.bref n) s (fun e => mREF (e.binfo h y) = mREF w + 1 ∧ mOWNER (e.binfo h y) = mOWNER w ∧ (e.ctx n).handles = x.handles ++ [y] ∧
      (e.ctx n).cond 7 = false)) ∧
    (memNext d n 0xF u → d.handleOk h z = true → z ∈ x.handles → u.addr + 8 ≤ poolSize (handlePool z) → handlePool z < 4 →
      completes (.bld n) s (fun e => opWaits d e n x u .op [(dataNo u 0, BitVec.ofNat 64 (d.rd64 a))])) ∧
    (memNext d n 0x10 u → d.handleOk h z = true → z ∈ x.handles → x.pkt = none → u.addr + 8 ≤ poolSize (handlePool z) → handlePool z < 4 →
      completes (.bst n) s (fun e => stored8 d e a (x.p (uREG u.word)).toNat ∧ opWaits d e n x u .op []))

/-- R195, R278, R284: where TXGEN completes. -/
def Sys2Proof.Machine.txGenRunsSays : Prop :=
  ∀ (s : State) (n : Nat) (u : Cur),
    let d := s.dev
    let x := d.ctx n
    let y := (x.p (uREG u.word)).toNat % 2 ^ 32
    let v := (x.p (uREG u.word + 1)).toNat
    memNext d n 0x11 u → d.handleOk (ctxHalf n) y = true → d.txgenOk n y v = true → d.txShare n = true →
    (d.metaErr (ctxHalf n) y = false → completes (.txgen n) s (fun e => memSame d e ∧ regsSame d e [] ∧ (∀ m, m ≠ n → e.ctx m = d.ctx m) ∧
      (e.ctx n).handles = x.handles.erase y ∧ (e.ctx n).txe = x.txe + 1 ∧ (e.ctx n).cond 7 = false ∧ ∃ a, e.swc.adms = d.swc.adms ++ [a] ∧
      a.dest = .port (bits v 22 14) ∧ a.queue = bits v 26 23 ∧ a.pkt.body = d.rdBytes (d.bufA (ctxHalf n) y 0) (bits v 13 0)))

/-- R167, R225: where QRD, QWR, QADD complete. -/
def Sys2Proof.Machine.heldRecordRunsSays : Prop :=
  ∀ (s : State) (n : Nat) (u : Cur),
    let d := s.dev
    let x := d.ctx n
    let i := uOFF u.word % 16
    let v := (x.p (uREG u.word)).toNat
    (∀ h, memNext d n 0x12 u → x.held = some h → i < (d.heldWords n h).length →
      completes (.qrd n) s (fun e => opWaits d e n x u .op [(dataNo u 0, BitVec.ofNat 64 (nthD (d.heldWords n h) i 0))])) ∧
    (∀ h, memNext d n 0x13 u → x.held = some h → completes (.qwr n) s (fun e => ∃ g, opWaits d e n { x with held := some g } u .op [] ∧ g.handle = h.handle ∧
      g.ver = h.ver ∧ (h.changed = true → g.changed = true) ∧ (nthD g.words i 0 ≠ nthD h.words i 0 → g.changed = true) ∧
      g.words = setNth h.words i (maskIn (stateMask (rFULL (nthD h.words 0 0)) i) (nthD h.words i 0) v))) ∧
    (∀ h l, memNext d n 0x14 u → x.held = some h → d.lineOf (n / 512) h.handle = some l → l.st ≠ .filling → completes (.qadd n) s (fun e => memSame d e ∧
      opWaits d e n { x with wrote := if h.handle ∈ x.wrote then x.wrote else x.wrote ++ [h.handle] } u .op [] ∧ ∃ m, e.lineOf (n / 512) h.handle = some m ∧
      m.st = .dirty ∧ m.words = l.words ∧ m.dPkts = l.dPkts + (if uSIZE u.word = 0 then v else 0) ∧ m.dBad = l.dBad + (if uSIZE u.word = 1 then v else 0) ∧
      m.dOct = l.dOct + (if uSIZE u.word = 2 then v else 0)))

/-- R154, R189: where QREL, QTAKE, QDEL complete. -/
def Sys2Proof.Machine.takeAndReleaseRunsSays : Prop :=
  ∀ (s : State) (n : Nat) (u : Cur),
    let d := s.dev
    let x := d.ctx n
    let sl := n / 512
    let released := fun (e : Dev) => e.ctx n = { x with held := none, cur := some { u with memDone := true } } ∧ ∀ m, m ≠ n → e.ctx m = d.ctx m
    (∀ h, memNext d n 0x15 u → x.held = some h → noWaiter d n h.handle → completes (.qrel n) s (fun e => released e ∧ (h.changed = true →
      ∃ t ∈ e.qry.txns, t.kind = .commit ∧ t.handle = h.handle ∧ t.words = h.words ∧ t.ver = h.ver))) ∧
    (∀ l, memNext d n 0x16 u → x.held = none → u.addr % 2 ^ 32 ≠ noFlow → d.goneStatus sl (u.addr % 2 ^ 32) = none → readable d sl (u.addr % 2 ^ 32) l →
      d.holder sl (u.addr % 2 ^ 32) = none → noWaiter d n (u.addr % 2 ^ 32) →
      completes (.qtake n) s (fun e => (e.ctx n).held = some ⟨l.handle, lineNow l, l.ver, false⟩ ∧ (e.ctx n).cond 0x0D = false ∧ (e.ctx n).st = .waitMem ∧
      (e.ctx n).wait = .op)) ∧
    (∀ h, memNext d n 0x18 u → x.held = some h → noWaiter d n h.handle → completes (.qdel n) s (fun e => released e ∧ ∃ t ∈ e.qry.txns, t.kind = .delete ∧
      t.handle = h.handle ∧ t.ctx = n + 1 ∧ t.half = flowHalf h.handle))

/-- R164, R225: where QINS completes. -/
def Sys2Proof.Machine.qinsIssueRunsSays : Prop :=
  ∀ (s : State) (n : Nat) (u : Cur),
    let d := s.dev
    let x := d.ctx n
    let on := d.is QRY.GCFG.EN = true ∧ d.is QRY.GCFG.READY = true ∧ d.is (QRY.CTL.EN (n / 512)) = true
    memNext d n 0x17 u →
    (on → completes (.qins n) s (fun e => memSame d e ∧ e.ctx n = { x with st := .waitMem, wait := .bench } ∧ (∀ m, m ≠ n → e.ctx m = d.ctx m) ∧
      ∃ t, e.qry.txns = d.qry.txns ++ [t] ∧ t.kind = .qins ∧ t.slice = n / 512 ∧ t.ctx = n + 1 ∧ t.fkey = d.qinsKey n u ∧ t.h1 = d.hash1 (d.qinsKey n u) ∧
      t.half = t.h1 / 2 ^ 31 ∧ t.done = false))

/-- R197: where COPEN, CPUT, CCOMMIT, CABORT, CRECV complete. -/
def Sys2Proof.Machine.channelsRunsSays : Prop :=
  ∀ (s : State) (n : Nat) (ups : List (Nat × Nat)) (u : Cur),
    let d := s.dev
    let x := d.ctx n
    let c := n / 64
    let i := u.addr % 16
    x.chanLost = false →
    (memNext d n 0x19 u → x.chan = none → (d.chan c i).st = 0 → completes (.copen n) s (fun e => (e.ctx n).chan = some i ∧ (e.ctx n).cond 8 = false ∧
      (e.ctx n).cond 9 = false ∧ (e.chan c i).st = 1 ∧ (e.chan c i).holder = n ∧ (e.chan c i).staged = [] ∧ (e.ctx n).cur = some { u with memDone := true })) ∧
    (∀ j, memNext d n 0x1A u → x.chan = some j → completes (.cput n) s (fun e => opDone d e n x u [] ∧
      sget (e.chan c j).staged (uSIZE u.word % 8) 0 = x.p (uREG u.word))) ∧
    (∀ j, memNext d n 0x1B u → x.chan = some j → (d.chan c j).recvs = [] → completes (.ccommit n) s (fun e => opDone d e n { x with chan := none } u [] ∧
      e.chan c j = { d.chan c j with st := 2, holder := 0 })) ∧
    (∀ j, memNext d n 0x1C u → x.chan = some j → (d.chan c j).opens = [] → completes (.cabort n) s (fun e => opDone d e n { x with chan := none } u [] ∧
      e.chan c j = { d.chan c j with st := 0, holder := 0, staged := [] })) ∧
    (memNext d n 0x1D u → (d.chan c i).st = 2 → (d.chan c i).opens = [] → x.kickReq = false → (∀ w, w < 8 → (d.upset ups).badAt (chanKey c i w) = 0) →
      completes (.crecv n ups) s (fun e => (e.chan c i).st = 0 ∧ (e.chan c i).staged = [] ∧
      opDone d e n { x with wait := .none } u ((List.range 8).map (fun w => (dataNo u w, sget (d.chan c i).staged w 0)))))

/-- R188, R227, R286: where PKT_SEND, PKT_DROP, PKT_PUNT, PKT_RECIRC complete. -/
def Sys2Proof.Machine.packetReleaseRunsSays : Prop :=
  ∀ (s : State) (n : Nat) (u : Cur),
    let d := s.dev
    let x := d.ctx n
    let sent := fun (e : Dev) (k : Pkt) (dest : Dest) => memSame d e ∧ letsGo d e n x u ∧
      ∃ a, e.swc.adms = d.swc.adms ++ [a] ∧ a.dest = dest ∧ a.cls = d3Class k.d3 ∧ a.pkt.id = k.id
    let first := fun (k : Pkt) => heldBack k.h1 k.h2 k.id (d.ordOf (flowCluster k.slice k.h1)) = false
    (∀ k, pktNext d n 0 u → x.pkt = some k → first k → completes (.pktSend n) s (fun e => sent e k k.dest ∧
      e.swc.adms.getLast?.map (fun a => a.queue) = some (match k.dest with | .group _ => 12 + d3MQ k.d3 | _ => d3UQ k.d3))) ∧
    (∀ k, pktNext d n 1 u → x.pkt = some k → completes (.pktDrop n) s (fun e => (e.ctx n).pkt = none ∧ (e.ctx n).released = true ∧ noneSent d e)) ∧
    (∀ k, pktNext d n 2 u → x.pkt = some k → first k → completes (.pktPunt n) s (fun e => sent e k (.port 256))) ∧
    (∀ k, pktNext d n 3 u → x.pkt = some k → first k → completes (.pktRecirc n) s (fun e => sent e k (.port (257 + n / 512))))

/-- R128, R227: where HINS, HDEL complete. -/
def Sys2Proof.Machine.headerReshapeRunsSays : Prop :=
  ∀ (s : State) (n : Nat) (u : Cur) (k : Pkt),
    let d := s.dev
    let x := d.ctx n
    let len := (x.p (uREG u.word)).toNat % 128
    x.pkt = some k →
    (pktNext d n 4 u → u.addr ≤ k.winLen → k.hnet + len ≤ 128 →
      completes (.hins n) s (fun e => opDone d e n { x with pkt := some { k with hnet := k.hnet + len, l3 := if k.l3 < u.addr then k.l3 else k.l3 + len, body := k.body.take u.addr ++ List.replicate len 0 ++ k.body.drop u.addr } } u [])) ∧
    (pktNext d n 5 u → len ≤ k.hnet → u.addr + len ≤ k.winLen →
      completes (.hdel n) s (fun e => opDone d e n { x with pkt := some { k with hnet := k.hnet - len, l3 := if k.l3 < u.addr then k.l3 else max u.addr (k.l3 - len), body := k.body.take u.addr ++ k.body.drop (u.addr + len) } } u []))

/-- R202, R230: where KOP_TAKE, RDP, WRP, RDH, WRH, KOP_STAT complete. -/
def Sys2Proof.Machine.keeperReadsRunsSays : Prop :=
  ∀ (s : State) (n : Nat) (u : Cur),
    let d := s.dev
    let m := n / 8 * 8 + u.addr % 8
    let y := d.ctx m
    let i := u.addr / 8 % 32
    let o := u.addr / 256 % 256
    let v := (d.ctx n).p (uREG u.word)
    (∀ r rs, kopNext d n 0 u → d.kqOf (n / 8) = r :: rs → completes (.kopTake n) s (fun e => e.kqOf (n / 8) = rs ∧
      opDone d e n ((d.ctx n).setCond 0x11 true) u [(dataNo u 0, BitVec.ofNat 64 r)])) ∧
    (kopNext d n 5 u → (y.st = .faulted → d.badAt (regKey m i) = 0) →
      completes (.rdp n) s (fun e => opDone d e n (d.ctx n) u [(dataNo u 0, if y.st = .faulted then y.p i else 0)])) ∧
    (kopNext d n 6 u → y.st = .faulted → completes (.wrp n) s (fun e => kopDone d e n u [] ∧ e.ctx m = y.setP i v)) ∧
    (∀ k, kopNext d n 7 u → y.st = .faulted → y.pkt = some k → o ≤ 248 →
      completes (.rdh n) s (fun e => opDone d e n (d.ctx n) u [(dataNo u 0, BitVec.ofNat 64 (beNat (k.header o 8)))])) ∧
    (∀ k, kopNext d n 8 u → y.st = .faulted → y.pkt = some k → o ≤ 248 → o + 8 ≤ k.winLen → completes (.wrh n) s (fun e => kopDone d e n u [] ∧
      e.ctx m = { y with pkt := some { k with body := writeB k.body o (natBE 8 v.toNat) } })) ∧
    (kopNext d n 9 u → completes (.kopStat n) s (fun e => opDone d e n (d.ctx n) u [(dataNo u 0, BitVec.ofNat 64 (d.ctxStat m))]))

/-- R202: where KOP_RESUME, KOP_DROP, KOP_PASS, KICK complete. -/
def Sys2Proof.Machine.keeperActsRunsSays : Prop :=
  ∀ (s : State) (n : Nat) (u : Cur),
    let d := s.dev
    let m := n / 8 * 8 + u.addr % 8
    let y := d.ctx m
    (kopNext d n 1 u → y.st = .faulted → d.isKeeper m = false → completes (.kopResume n) s (fun e => kopDone d e n u [] ∧
      e.ctx m = { y with st := .ready, pc := ((d.ctx n).p (uREG u.word)).toNat % 8192, fault := 0, delivered := false, faultAge := 0 })) ∧
    (kopNext d n 2 u → y.st = .faulted → d.isKeeper m = false → y.held = none → y.chan = none → y.parent = 0 →
      completes (.kopDrop n) s (fun e => kopDone d e n u [] ∧ e.ctx m = { txe := y.txe } ∧ noneSent d e)) ∧
    (∀ k, kopNext d n 3 u → y.st = .faulted → d.isKeeper m = false → y.held = none → y.chan = none → y.parent = 0 → y.pkt = some k →
      heldBack k.h1 k.h2 k.id (d.ordOf (flowCluster k.slice k.h1)) = false → completes (.kopPass n) s (fun e => kopDone d e n u [] ∧ e.ctx m = { txe := y.txe } ∧
      ∃ a, e.swc.adms = d.swc.adms ++ [a] ∧ a.dest = k.dest ∧ a.pkt.id = k.id)) ∧
    (kopNext d n 4 u → y.st = .ready → y.cur = none → d.isKeeper m = false → completes (.kick n) s (fun e => kopDone d e n u [] ∧ (e.ctx m).st = .faulted ∧
      (e.ctx m).fault % 256 = 9))

/-- R36, R37, R167, R222, R223: where OPERATION_COMPLETE, FENCE_LOCAL, FENCE_FLOW, FENCE_ALL complete. -/
def Sys2Proof.Machine.operationsAndFencesRunsSays : Prop :=
  ∀ (s : State) (n : Nat) (u : Cur),
    let d := s.dev
    let x := d.ctx n
    let sl := n / 512
    let busy := d.recPending n = true ∨ ∃ p ∈ d.qry.pushes, p.ctx = n + 1
    let fence := fun (k : Nat) => d.inWord n u ∧ u.fenceDone = false ∧ uFENCE u.word = k
    let ends := fun (e : Dev) (y : Ctx) => memSame d e ∧ regsSame d e [] ∧ (∀ m, m ≠ n → e.ctx m = d.ctx m) ∧
      e.ctx n = { y with st := .ready, wait := .none, cur := some { u with fenceDone := true } }
    x.kickReq = false →
    (d.clusterOn (n / 64) = true → x.wait = .op → x.cur = some u →
      completes (.operationComplete n) s (fun e => e.ctx n = { x with st := .ready, wait := .none, cur := some { u with memDone := true } })) ∧
    (fence 1 → completes (.fenceLocal n) s (fun e => ends e x)) ∧
    (fence 2 → x.held = none → ¬ busy → completes (.fenceFlow n) s (fun e => ends e { x.setCond 0x0B x.conflict with conflict := false })) ∧
    (fence 3 → x.held = none → ¬ busy → d.storesWait n = false → (∀ r ∈ x.wrote, (∀ l, d.lineOf sl r = some l → l.st ≠ .dirty) ∧ ∀ t ∈ d.qry.txns, t.slice = sl →
      t.brings r = false) → completes (.fenceAll n) s (fun e => ends e { x.setCond 0x0B x.conflict with conflict := false, wrote := [], stored := [] }))

/-- R210, R216, R231: where MICROWORD_FETCH completes. -/
def Sys2Proof.Machine.fetchRunsSays : Prop :=
  ∀ (s : State) (g n : Nat),
    let d := s.dev
    let p := sget d.eng.slotPtr g 0
    let w := d.ucodeWord (n / 64) (d.bankOf n) (d.ctx n).pc
    let mark := d.ucodeMark (n / 64) (d.bankOf n) (d.ctx n).pc
    g < 512 → d.canIssue g = true → d.issueFrom g (d.clSet (g / 8)) p = some n →
    (ucodeFails w = 0 → mark = 0 → d.breaks n (d.bankOf n) (w % 2 ^ 160) = false → uIllegal (w % 2 ^ 160) (d.isKeeper n) = false →
      completes (.microwordFetch g 0 0 0) s (fun e => e.ctx n = { d.ctx n with cur := some { word := w % 2 ^ 160, fenceDone := decide (uFENCE (w % 2 ^ 160) = 0) } } ∧
      sget e.eng.slotPtr g 0 = (p + 1) % 32))

/-- R190, R192, R194, R201, R218, R219, R220, R221: where WAITC, JOIN, END, KWAIT complete. -/
def Sys2Proof.Machine.seqWaitsAndEndRunsSays : Prop :=
  ∀ (s : State) (n : Nat) (ups : List (Nat × Nat)) (u : Cur),
    let d := s.dev
    let x := d.ctx n
    let i := uOFF u.word % 64
    let met := waitcTest (uSIZE u.word) (d.get (ENG.CREG.W (n / 64) i)) (uIMM u.word)
    (seqNext d n 6 u → (d.upset ups).badAt (cregKey (n / 64) i) = 0 → met = true → completes (.waitc n ups) s (fun e => seqLeaves d e n (x.pc + 1))) ∧
    (seqNext d n 8 u → x.children = 0 → completes (.join n) s (fun e => seqLeaves d e n (x.pc + 1))) ∧
    (seqNext d n 9 u → x.pkt = none → x.held = none → x.chan = none → x.handles = [] → x.parent = 0 → completes (.seqEnd n) s (fun e => e.ctx n = { txe := x.txe })) ∧
    (seqNext d n 0xA u → d.kqOf (n / 8) ≠ [] → completes (.kwait n) s (fun e => seqLeaves d e n (x.pc + 1)))

/-- R190, R192: where FORK_CHILD_READY, FORK complete. -/
def Sys2Proof.Machine.forkAndChildRunsSays : Prop :=
  ∀ (s : State) (n : Nat) (u : Cur),
    let d := s.dev
    let x := d.ctx n
    let m := d.lowestFree (n / 8)
    (x.forking = true → quiet x → completes (.forkChildReady n) s (fun e => e.ctx n = { x with forking := false, st := .ready, wait := .none, waitH := noFlow })) ∧
    (seqNext d n 7 u → x.children < 15 → d.freeIn (n / 8) ≠ [] → completes (.fork n) s (fun e => (e.ctx n).st = .ready ∧ (e.ctx n).pc = (x.pc + 1) % 8192 ∧
      (e.ctx n).children = x.children + 1 ∧ (e.ctx n).cond 6 = false ∧ (e.ctx m).st = .waitMem ∧ (e.ctx m).forking = true ∧ (e.ctx m).parent = n + 1))

/-- R186, R187: where DISPATCH completes. -/
def Sys2Proof.Machine.dispatchRunsSays : Prop :=
  ∀ (s : State) (c g : Nat) (k : Pkt) (ks : List Pkt),
    let d := s.dev
    let m := d.lowestFree g
    let sl := m / 512
    c < 64 → sget d.eng.dq c [] = k :: ks → d.canDispatch c = true → d.chooseEngine c = some g → k.miss = none →
    (∀ l, k.status ≤ 1 → k.recheck = false → d.goneStatus sl k.handle = none → readable d sl k.handle l → d.holder sl k.handle = none →
      d.recWaiter sl k.handle = none → (d.ctx m).held = none → completes (.dispatch c) s (fun e => sget e.eng.dq c [] = ks ∧ (e.ctx m).st = .ready ∧
      (e.ctx m).pc = k.status ∧ (e.ctx m).held = some ⟨l.handle, lineNow l, l.ver, false⟩))

/-- R188: where FLOW_ORDER_RELEASE completes. -/
def Sys2Proof.Machine.flowOrderRunsSays : Prop :=
  ∀ (s : State) (c id : Nat) (k : Pkt),
    c < 64 → s.dev.clusterOn c = true → s.dev.ordReady c id = some k →
    completes (.flowOrderRelease c id) s (fun e => e.swc.adms = s.dev.swc.adms ++ [admOf k] ∧ e.ordOf c = (s.dev.ordOf c).filter (fun o => o.id != id))

/-- R199, R201, R203, R204: where FAULT_DELIVERY, KEEPER_TIMEOUT, THREAD_TIMEOUT complete. -/
def Sys2Proof.Machine.faultHandlingRunsSays : Prop :=
  ∀ (s : State) (n : Nat),
    let d := s.dev
    let x := d.ctx n
    let c := n / 64
    let k := d.ctx (n / 8 * 8)
    n < 4096 →
    (x.st = .faulted → x.delivered = false → d.isKeeper n = false → d.keeperEn (n / 8) = true → k.st = .ready → (d.kqOf (n / 8)).length < 16 →
      completes (.faultDelivery n) s (fun e => e.ctx n = { x with delivered := true, faultAge := 0 } ∧ e.kqOf (n / 8) = d.kqOf (n / 8) ++ [x.fault])) ∧
    (x.st = .faulted → x.delivered = true → d.isKeeper n = false → alone x → d.get (ENG.TMO_CFG.KEEPER_TMO c) * 1000 ≤ x.faultAge →
      completes (.keeperTimeout n) s (fun e => e.ctx n = { txe := x.txe } ∧ raised e (EV_ENG_KEEPER_SLOW (n / 512)))) ∧
    ((x.st = .ready ∨ x.st = .waitMem ∨ x.st = .waitEvent) → d.isKeeper n = false → d.get (ENG.TMO_CFG.THREAD_TMO c) * 1000 ≤ x.timer → x.timer < timerSpent →
      completes (.threadTimeout n) s (fun e => faults d e n 1))

/-- R198, R205, R206: where CHANNEL_RECLAIM, FOG_SIGNAL complete. -/
def Sys2Proof.Machine.reclaimAndFogRunsSays : Prop :=
  ∀ (s : State) (c i g : Nat),
    let d := s.dev
    let h := (d.chan c i).holder
    let k := d.ctx (8 * g)
    let fog := d.is (ENG.CL_CTL.FOG_EN (g / 8)) = true ∧ d.is (ENG.CL_CTL.EN (g / 8)) = true ∧ d.fogCond g = true ∧
      d.get (ENG.TMO_CFG.FOG_WINDOW (g / 8)) * 100 ≤ sget d.eng.fogQuiet g 0 ∧ sget d.eng.fogQuiet g 0 < fogSounded
    (c < 64 → i < 16 → d.clusterOn c = true → (d.chan c i).st = 1 → (d.chan c i).opens = [] → d.get (ENG.TMO_CFG.HOLD_US c) * 1000 ≤ d.tick - (d.chan c i).openAt →
      completes (.channelReclaim c i) s (fun e => (e.chan c i).st = 0 ∧ (e.chan c i).staged = [] ∧ e.ctx h = { d.ctx h with chan := none, chanLost := true } ∧
      raised e (EV_ENG_CHANNEL_RECLAIM (c / 8)))) ∧
    (g < 512 → fog → d.keeperEn g = true → k.st = .keeperIdle → quiet k → completes (.fogSignal g) s (fun e => (e.ctx (8 * g)).st = .ready ∧
      (e.ctx (8 * g)).pc = (k.pc + 1) % 8192 ∧ (e.ctx (8 * g)).cond 0x10 = true))

/-- R194, R200, R208: where CL_CTL_WRITE, SHARE_CFG_WRITE, CREG_WRITE complete. -/
def Sys2Proof.Machine.clusterRegistersRunsSays : Prop :=
  ∀ (s : State) (c v i : Nat),
    let d := s.dev
    let r := ENG.CREG.W c i
    let bad := bits v 13 8 < bits v 5 1 ∨ bits v 29 24 < bits v 18 16 ∨ 16 < bits v 5 1 ∨ 4 < bits v 18 16 ∨ bits v 13 8 = 0 ∨ bits v 29 24 = 0
    c < 64 → i < 64 →
    (d.reaches (ENG.CL_CTL.EN c) → v < 2 ^ 32 → d.is (ENG.CL_CTL.EN c) = false → bit v 0 = true →
      completes (.clCtlWrite c v) s (fun e => e.is (ENG.CL_CTL.EN c) = true ∧ e.get (ENG.CL_CTL.KEEPER_EN c) = bits v 23 16)) ∧
    (d.reaches (ENG.SHARE_CFG.MODE c) → v < 2 ^ 32 → ¬ bad → completes (.shareCfgWrite c v) s (fun e => memSame d e ∧ e.get (ENG.SHARE_CFG.MODE c) = bits v 0 0 ∧
      e.get (ENG.SHARE_CFG.BUF_MIN c) = bits v 5 1 ∧ e.get (ENG.SHARE_CFG.BUF_MAX c) = bits v 13 8 ∧ e.get (ENG.SHARE_CFG.TX_MIN c) = bits v 18 16 ∧
      e.get (ENG.SHARE_CFG.TX_MAX c) = bits v 29 24)) ∧
    (d.reaches r → noWaitc d (64 * c) → completes (.cregWrite c i v) s (fun e => e.get r = v % 2 ^ 64))

/-- Where each part of a word and each command of the threads completes: `aluAddSubRunsSays`, `aluOthersRunsSays`, `seqNextPcRunsSays`, `seqCallRetRunsSays`, `headerWindowRunsSays`, `keyWindowRunsSays`, `scratchAndCregsRunsSays`, `scratchAtomicsRunsSays`, `scratchCasRunsSays`, `hbmAccessRunsSays`, `bufferAllocFreeRunsSays`, `bufferRefAccessRunsSays`, `txGenRunsSays`, `heldRecordRunsSays`, `takeAndReleaseRunsSays`, `qinsIssueRunsSays`, `channelsRunsSays`, `packetReleaseRunsSays`, `headerReshapeRunsSays`, `keeperReadsRunsSays`, `keeperActsRunsSays`, `operationsAndFencesRunsSays`, `fetchRunsSays`, `seqWaitsAndEndRunsSays`, `forkAndChildRunsSays`, `dispatchRunsSays`, `flowOrderRunsSays`, `faultHandlingRunsSays`, `reclaimAndFogRunsSays`, `clusterRegistersRunsSays`. -/
def Obligations.WordsComplete : Prop :=
  aluAddSubRunsSays ∧ aluOthersRunsSays ∧ seqNextPcRunsSays ∧ seqCallRetRunsSays ∧ headerWindowRunsSays ∧
  keyWindowRunsSays ∧ scratchAndCregsRunsSays ∧ scratchAtomicsRunsSays ∧ scratchCasRunsSays ∧ hbmAccessRunsSays ∧
  bufferAllocFreeRunsSays ∧ bufferRefAccessRunsSays ∧ txGenRunsSays ∧ heldRecordRunsSays ∧ takeAndReleaseRunsSays ∧
  qinsIssueRunsSays ∧ channelsRunsSays ∧ packetReleaseRunsSays ∧ headerReshapeRunsSays ∧ keeperReadsRunsSays ∧
  keeperActsRunsSays ∧ operationsAndFencesRunsSays ∧ fetchRunsSays ∧ seqWaitsAndEndRunsSays ∧ forkAndChildRunsSays ∧
  dispatchRunsSays ∧ flowOrderRunsSays ∧ faultHandlingRunsSays ∧ reclaimAndFogRunsSays ∧ clusterRegistersRunsSays

/-- R7, R8, R292, R362: where HOST_REGISTER_WRITE completes. -/
def Sys2Proof.Machine.hostRegisterWritesRunsSays : Prop :=
  ∀ (s : State) (sl o : Nat) (bs : List Byte) (r : RegFam),
    let d := s.dev
    let a := 0x1300000 + 0x400000 * sl + o
    let put := fun (f : FldL) => bits (leNat bs) (f.lo + f.w - 1) f.lo
    (sl < 8 → o < 0x80000 → (r.bytes = 4 ∨ r.bytes = 8) → findReg allLayout a = some (a, r) → a % r.bytes = 0 → bs.length = r.bytes →
      (r.flds.map (fun f => f.lo)).Nodup → (∀ f ∈ r.flds, 1 ≤ f.w) → d.held = false → d.bar0Err a = none →
      completes (.hostRegisterWrite a bs) s (fun e => ∀ f ∈ r.flds, f.acc = .rw → f.rule.ok (put f) = true → e.get (f.at a) = put f))

/-- R362, R364, R365, R367: where HOST_BAD_ACCESS, HOST_UNMAPPED_ACCESS, HOST_READ_TIMEOUT, PCIE_RESET complete. -/
def Sys2Proof.Machine.hostAccessErrorsRunsSays : Prop :=
  ∀ (s : State) (rd full : Bool) (bar a n t : Nat),
    let d := s.dev
    let ones := fun (e : Dev) => rd = true → e.host.hostData = [2 ^ (8 * n) - 1]
    let late := fun (b k : Nat) => 20000 + d.readSusp b a k t ≤ t ∨ 80000 ≤ t
    let answers := fun (b k : Nat) => readFits b a k = true ∧ d.spanErr b a k = none ∧ ¬ (d.readHalf b a = 1 ∧ d.linkGone = true) ∧ ¬ late b k
    d.held = false → a < (if bar = 0 then 0x4000000 else 0x40000000) →
    (bar = 0 → (bar0Ok a n = false ∨ full = false) → completes (.hostBadAccess rd a n full) s (fun e => errNoted d e GLB.HOST_ERR.BAD_SIZE 0 a ∧ ones e)) ∧
    (bar = 0 → d.get GLB.BOOT_STAT.STATE = 6 → 0x3400000 ≤ a → completes (.hostUnmappedAccess rd 0 a n) s (fun e => errNoted d e GLB.HOST_ERR.UNMAPPED 0 a ∧
      raised e EV_HOST_ACCESS_ERR ∧ ones e)) ∧
    (bar = 0 → answers 0 4 → a ≠ TMU.TOD_NS.NS.key / 32 * 4 → completes (.hostReadTimeout 0 a (4, t)) s (fun e => e.host.hostData = [d.read4 a])) ∧
    completes .pcieReset s (fun e => e = { d with host.hostData := [], host.pcie := .reset } ∧ e.held = true)

/-- R363, R364, R368, R403, R435: where BAR2_WRITE completes. -/
def Sys2Proof.Machine.bar2WritesRunsSays : Prop :=
  ∀ (s : State) (o : Nat) (bs : List Byte),
    let d := s.dev
    let a := d.winAddr o
    d.held = false → o < 0x40000000 → o % 8 = 0 → bs.length = 8 → a < 0x4000000000 → d.bar2Err a = none →
    (d.hostProtected a = false → d.areaWaits a 8 = false → completes (.bar2Write o bs) s (fun e => stored8 d e a (leNat bs)))

/-- R8, R31, R33, R235, R409: where HOST_FENCE_WRITE, HOST_FENCE_COMPLETE, LOCK_WRITE, PATCH_LOCK_WRITE complete. -/
def Sys2Proof.Machine.fencesAndLocksRunsSays : Prop :=
  ∀ (s : State) (t v : Nat),
    let d := s.dev
    (d.reaches GLB.HOST_FENCE.TOKEN → t < 2 ^ 16 → completes (.hostFenceWrite t) s (fun e => e.get GLB.HOST_FENCE.TOKEN = t ∧ e.is GLB.FENCE_DONE.PEND = true ∧
      e.ep.fenceAt = d.tick)) ∧
    (d.is GLB.FENCE_DONE.PEND = true → ((d.hbmRetrying 0 = false ∧ d.hbmRetrying 1 = false ∧ d.d2dRetrying = false) ∨ d.ep.fenceAt + 60000 ≤ d.tick) →
      d.get GLB.HOST_FENCE.TOKEN < 2 ^ 16 → completes .hostFenceComplete s (fun e => e.get GLB.FENCE_DONE.TOKEN = d.get GLB.HOST_FENCE.TOKEN ∧
      e.is GLB.FENCE_DONE.PEND = false)) ∧
    (d.reaches GLB.LOCK.LOCK → completes (.lockWrite v) s (fun e => (v % 2 = 1 → e.is GLB.LOCK.LOCK = true) ∧ (v % 2 = 0 → e = d))) ∧
    (d.reaches GLB.PATCH_LOCK.LOCK → completes (.patchLockWrite v) s (fun e => (v % 2 = 1 → e.is GLB.PATCH_LOCK.LOCK = true) ∧ (v % 2 = 0 → e = d)))

/-- R42, R354: where PART_ARM completes. -/
def Sys2Proof.Machine.partArmRunsSays : Prop :=
  ∀ (s : State) (n v : Nat),
    let d := s.dev
    let fault := d.ownFault n (1 - d.get (GLB.PART_CTL.ACTIVE n))
    n < 105 → d.reaches (GLB.PART_CTL.ACTIVE n) → ¬ (d.is GLB.EPOCH_STAT.ADV_BUSY = true ∧ d.ep.advPart = some n) →
    (d.is (GLB.PART_CTL.RETIRING n) = false → fault = none → completes (.partArm n v) s (fun e => e.is (GLB.PART_CTL.ARM n) = true))

/-- R33, R43, R44, R51, R409: where EPOCH_ADV_GO, EPOCH_STAMP, EPOCH_RETIRE, EPOCH_DRAIN_WARN complete. -/
def Sys2Proof.Machine.epochAdvanceRunsSays : Prop :=
  ∀ (s : State) (n : Nat),
    let d := s.dev
    let next := (d.get GLB.EPOCH_CUR.CUR + 1) % 8
    let settled := ((d.hbmRetrying 0 = false ∧ d.hbmRetrying 1 = false ∧ d.d2dRetrying = false) ∨ d.ep.advAt + 60000 ≤ d.tick)
    let may := d.is GLB.EPOCH_STAT.ADV_BUSY = false ∧ d.armed.length ≤ 1 ∧ d.epochLive next = false
    n < 105 →
    (d.reaches GLB.EPOCH_ADV.GO → may → completes .epochAdvGo s (fun e => e.is GLB.EPOCH_STAT.ADV_BUSY = true ∧ e.ep.advPart = d.armed.head? ∧ e.ep.advAt = d.tick)) ∧
    (d.is GLB.EPOCH_STAT.ADV_BUSY = true → settled → d.ep.advPart = none → completes .epochStamp s (fun e => e.get GLB.EPOCH_CUR.CUR = next ∧
      e.is GLB.EPOCH_STAT.ADV_BUSY = false)) ∧
    (d.is (GLB.PART_CTL.RETIRING n) = true → d.age d.oldest ≤ d.age (d.get (GLB.PART_CTL.SWITCH_EPOCH n)) →
      completes (.epochRetire n) s (fun e => e.is (GLB.PART_CTL.RETIRING n) = false)) ∧
    (d.get GLB.EPOCH_CFG.DRAIN_WARN ≠ 0 → d.get GLB.EPOCH_CFG.DRAIN_WARN ≤ d.oldestAge → bit d.ep.drainWarned d.oldest = false →
      completes .epochDrainWarn s (fun e => raised e EV_EPOCH_DRAIN_SLOW ∧ bit e.ep.drainWarned d.oldest = true))

/-- R41, R47, R50: where OCTET_MODE_WRITE completes. -/
def Sys2Proof.Machine.octetModeWriteRunsSays : Prop :=
  ∀ (s : State) (sl k v : Nat),
    let d := s.dev
    let n := 72 + (4 * sl + k)
    let st := octetModeF (4 * sl + k) (1 - d.get (GLB.PART_CTL.ACTIVE n))
    let x := if d.get (GLB.PART_CTL.ACTIVE n) = 0 then bits v 7 4 else bits v 3 0
    sl < 8 → k < 4 → d.get (GLB.PART_CTL.ACTIVE n) ≤ 1 → d.gateOpen = true → d.reaches (MAC.OCTET_MODE.MODE_0 sl k) →
    (d.is (GLB.PART_CTL.RETIRING n) = false → x ≤ 7 → completes (.octetModeWrite sl k v) s (fun e => e.get st = x))

/-- R53: where LANE_MAP_WRITE completes. -/
def Sys2Proof.Machine.laneMapWriteRunsSays : Prop :=
  ∀ (s : State) (sl k v : Nat),
    let d := s.dev
    let rx := MAC.LANE_SWAP_RX.RX_SEL sl k
    let tx := MAC.LANE_SWAP_TX.TX_SEL sl k
    let inv := MAC.LANE_POL.RX_INV sl k
    sl < 8 → k < 4 → v < 2 ^ 24 → d.reaches rx → d.reaches tx → d.reaches inv →
    (d.is GLB.LOCK.LOCK = false → d.octetMode (4 * sl + k) = 0 → isPerm v = true → completes (.laneMapWrite sl k 0 v) s (fun e => e.get rx = v))

/-- R56, R60, R72, R456: where PORT_CFG_WRITE, MGT_CFG_WRITE complete. -/
def Sys2Proof.Machine.portConfigRunsSays : Prop :=
  ∀ (s : State) (p v : Nat),
    let d := s.dev
    p < 265 →
    (d.reaches (MAC.PORT_CFG.MAX_FRAME p) → d.is (MAC.PORT_CFG.RX_EN p) = false →
      completes (.portCfgWrite p v) s (fun e => e.get (MAC.PORT_CFG.TX_EN p) = bits v 20 20 ∧ e.get (MAC.PORT_CFG.RX_EN p) = bits v 19 19 ∧
      e.get (MAC.PORT_CFG.LT_EN p) = bits v 18 18 ∧ e.get (MAC.PORT_CFG.AN_EN p) = bits v 17 17)) ∧
    (d.reaches GLB.MGT_CFG.MODE → v % 4 ≠ 3 → v % 4 ≠ d.get GLB.MGT_CFG.MODE → d.is (MAC.PORT_STAT.LINK 256) = false →
      completes (.mgtCfgWrite v) s (fun e => e.get GLB.MGT_CFG.MODE = v % 4 ∧ e.get GLB.MGT_CFG.WAKE_EN = bits v 2 2 ∧
      e.bringAt 256 = if e.canBring 256 then 2 else 0))

/-- R55: where PLL_LOCK, SIGNAL_DETECT, AN_COMPLETE, LT_COMPLETE, RX_ADAPT_DONE, PCS_ALIGN_DONE complete. -/
def Sys2Proof.Machine.linkBringUpRunsSays : Prop :=
  ∀ (s : State) (o p k : Nat) (coefs : List (List Int)),
    let d := s.dev
    p < 256 →
    (o < 32 → p / 8 = o → d.bringAt p = 2 → completes (.pllLock o) s (fun e => e.bringAt p = 3)) ∧
    (d.bringAt p = 3 →
      completes (.signalDetect p) s (fun e => e.bringAt p = if d.is (MAC.PORT_CFG.AN_EN p) then 4 else if d.is (MAC.PORT_CFG.LT_EN p) then 5 else 6)) ∧
    (d.bringAt p = 4 → completes (.anComplete p) s (fun e => e.is (MAC.PORT_STAT.AN_DONE p) = true ∧ e.bringAt p = if d.is (MAC.PORT_CFG.LT_EN p) then 5 else 6)) ∧
    (d.bringAt p = 5 → completes (.ltComplete p) s (fun e => e.is (MAC.PORT_STAT.LT_DONE p) = true ∧ e.bringAt p = 6)) ∧
    (d.bringAt p = 6 → completes (.rxAdaptDone p coefs) s (fun e => e.bringAt p = 7)) ∧
    (d.bringAt p = 7 → completes (.pcsAlignDone p k) s (fun e => e.bringAt p = 8 ∧ e.is (MAC.PORT_STAT.LINK p) = true ∧ e.is (MAC.PORT_STAT.PCS_LOCK p) = true ∧
      bit (e.get (MAC.LINK_CHG.BITS (p / 32))) (p % 32) = true ∧ raised e (EV_LINK_CHANGE (p / 32))))

/-- R56, R311: where PCS_LOCK_LOSS, LANE_SIGNAL_LOSS complete. -/
def Sys2Proof.Machine.linkLossRunsSays : Prop :=
  ∀ (s : State) (l p ns : Nat),
    let d := s.dev
    let down := fun (e : Dev) => e.is (MAC.PORT_STAT.LINK p) = false ∧ e.is (MAC.PORT_STAT.PCS_LOCK p) = false ∧
      bit (e.get (MAC.LINK_CHG.BITS (p / 32))) (p % 32) = true ∧ raised e (EV_LINK_CHANGE (p / 32)) ∧ e.is (SWC.PORT_STAT.HOLDING p) = true ∧
      e.bringAt p = (if d.canBring p then 3 else 0) ∧ memSame d e
    p < 256 → d.is (MAC.PORT_STAT.LINK p) = true → d.get (SWC.PORT_CFG.DOWN_HOLD p) ≠ 0 → sget d.mac.tx p none = none →
    (d.bringAt p = 7 ∨ d.bringAt p = 8 → completes (.pcsLockLoss p) s down) ∧
    (l < 256 → d.lanePort l = p → l ∈ d.lanesOf p → 1000 < ns → 3 < d.bringAt p → completes (.laneSignalLoss l ns) s down)

/-- R57, R58: where ADAPT_UPDATE completes. -/
def Sys2Proof.Machine.adaptationRunsSays : Prop :=
  ∀ (s : State) (l : Nat) (moves : List Int) (ends : List Bool) (margin : Int),
    let d := s.dev
    let sl := l / 32
    let k := l / 8 % 4
    let thr := d.get (MAC.ADAPT_CFG.MARGIN_THR sl k)
    l < 256 → d.linkUp (d.lanePort l) = true → d.portExists (d.lanePort l) = true → sget d.mac.adaptAt l 0 + d.get (MAC.ADAPT_CFG.INTERVAL sl k) * 1000 ≤ d.tick →
    completes (.adaptUpdate l moves ends margin) s (fun e => memSame d e ∧ (sget e.mac.coef l []).length = (sget d.mac.coef l []).length ∧
      (∀ i, (nthD (sget e.mac.coef l []) i 0 - nthD (sget d.mac.coef l []) i 0).natAbs ≤ 1) ∧ (d.is (MAC.ADAPT_CFG.FREEZE sl k) = true →
      sget e.mac.coef l [] = sget d.mac.coef l []) ∧ (∀ m, m ≠ l → sget e.mac.coef m [] = sget d.mac.coef m []) ∧ (thr ≠ 0 → margin < thr →
      sget d.mac.lowMargin l 0 = 0 → bit (e.get (MAC.LANE_MARGIN.BITS sl)) (l % 32) = true ∧ raised e (EV_LANE_MARGIN_LOW sl)))

/-- R62, R63, R65, R111, R293, R346: where RX_FRAME, RX_PAUSE_FRAME complete. -/
def Sys2Proof.Machine.frameReceptionRunsSays : Prop :=
  ∀ (s : State) (p ph : Nat) (bs : List Byte) (fec : Nat × Nat × Nat),
    let d := s.dev
    let body := bs.take (bs.length - 4)
    let parsed := fun (e : Dev) (bad late : Bool) => memSame d e ∧ ∃ k, e.pipe = d.pipe ++ [k] ∧ k.body = body ∧ k.rx = body ∧ k.bad = bad ∧ k.lateBad = late ∧
      k.ing = p ∧ k.port = p ∧ k.slice = p / 32 ∧ k.stage = .parse ∧ k.bufs = [] ∧ k.epoch = none ∧ k.fcs = leNat (bs.drop (bs.length - 4)) ∧ k.len = k.body.length + 4
    let q := d.quanta p (beAt body 16 2)
    p < 256 → d.canRx p = true →
    (goodFrame d p bs → pauseKind body = 0 → d.gateOpen = true → completes (.rxFrame p bs 0 ph fec) s (fun e => parsed e false false ∧ e.swc.adms = d.swc.adms)) ∧
    (goodFrame d p bs → pauseKind body = 1 → d.gateOpen = true → d.get (MAC.PORT_CFG.PAUSE_MODE p) = 1 →
      completes (.rxPauseFrame p (bs, fec)) s (fun e => e.pipe = d.pipe ∧ sget e.swc.paused (9 * p + 8) 0 = if beAt body 16 2 = 0 then 0 else d.tick + q))

/-- R73, R75, R78, R384: where INJECT_FRAME, WAKE_FRAME, MGT_PLAIN_FRAME, RECIRC_FRAME complete. -/
def Sys2Proof.Machine.managementFramesRunsSays : Prop :=
  ∀ (s : State) (bs : List Byte) (fec : Nat × Nat × Nat) (sl : Nat) (k : Pkt) (ks : List Pkt),
    let d := s.dev
    let b := bs.take (bs.length - 4)
    (d.canRx 256 = true → isShim bs = true → shimType bs ≠ 3 → goodFrame d 256 bs → injectOk b = true → d.gateOpen = true → bit (byteAt b 15) 0 = false →
      completes (.injectFrame (bs, fec)) s (fun e => e.pipe = d.pipe ∧
      if (((d.fecCount 256 fec).rxJudge 256 bs false).1.takeCells 0 (((b.drop 30).length + 259) / 256) []).1.isSome = true then (∃ a, e.swc.adms = d.swc.adms ++ [a] ∧
      a.dest = .port (bits (beAt b 16 2) 8 0) ∧ a.queue = bits (byteAt b 15) 7 4 ∧ a.pkt.body = b.drop 30 ∧ a.pkt.inj = true) else e.swc.adms = d.swc.adms)) ∧
    (d.canRx 256 = true → isShim bs = true → shimType bs = 3 → goodFrame d 256 bs → d.is GLB.MGT_CFG.WAKE_EN = true → shimOk b = true →
      beAt b 0 6 = d.mac48 GLB.MGT_DEV_MAC_LO.MAC GLB.MGT_DEV_MAC_HI.MAC → beAt b 18 4 = d.get GLB.MGT_WAKE_KEY.KEY →
      completes (.wakeFrame (bs, fec)) s (fun e => e.pipe = d.pipe ∧ e.is PWR.WAKE_STAT.VALID = true ∧ e.get PWR.WAKE_STAT.SOURCE = 2 ∧ raised e EV_PWR_WAKE)) ∧
    (d.canRx 256 = true → isShim bs = false → pauseKind b = 0 → completes (.mgtPlainFrame (bs, fec)) s (fun e => e.pipe = d.pipe ∧ e.swc = d.swc)) ∧
    (sl < 8 → d.sliceOn sl = true → d.granted 2 sl 10 = false → d.is (MAC.PORT_CFG.RX_EN (257 + sl)) = true → sget d.mac.recirc sl [] = k :: ks →
      completes (.recircFrame sl) s (fun e => memSame d e ∧ sget e.mac.recirc sl [] = ks ∧ ∃ k', e.pipe = d.pipe ++ [k'] ∧ k'.body = k.body ∧ k'.port = 257 + sl ∧
      k'.slice = sl ∧ k'.ing = k.ing ∧ k'.epoch = k.epoch ∧ k'.stamp = k.stamp ∧ k'.stage = .parse ∧ k'.bufs = []))

/-- R66, R67, R331, R346: where TX_FRAME completes. -/
def Sys2Proof.Machine.frameTransmissionRunsSays : Prop :=
  ∀ (s : State) (p ph und : Nat) (q : QEnt),
    let d := s.dev
    p ≤ 256 → d.gateOpen = true → d.linkUp p = true → d.is (MAC.PORT_CFG.TX_EN p) = true →
    (sget d.mac.tx p none = some q → q.pkt.ct = false → d.ptpFind (d.setOf 104 q.pkt.epoch) p q.pkt.routed = none →
      completes (.txFrame p ph und) s (fun e => sget e.mac.tx p none = none ∧ sget e.mac.wire p [] = q.pkt.routed ++ natLE 4 (q.pkt.txFcs q.pkt.routed)))

/-- R38, R80, R81, R89: where PARSE_FRAME completes. -/
def Sys2Proof.Machine.parseFrameRunsSays : Prop :=
  ∀ (s : State) (p : Nat) (k : Pkt),
    let d := s.dev
    let sl := k.slice
    let ep := k.epoch.getD (d.get GLB.EPOCH_CUR.CUR)
    let x := d.setOf sl (some ep)
    d.frameAt p 0 = some k → k.stage = .parse → d.blockOn sl 9 = true → d.bad = [] →
    (∀ key, d.is (PRS.PROF_CTL.PROFILE_OFF sl) = false → d.is (PRS.PRESEL_RESULT.VALID sl x 0) = true → d.get (PRS.PRESEL_MASK.W sl x 0) = 0 →
      d.is (PRS.PRESEL_RESULT.GRAPH sl x 0) = false → (d.runProfile sl (d.get (PRS.PRESEL_RESULT.PROFILE sl x 0)) { k with epoch := some ep }).1 = some key →
      completes (.parseFrame p []) s (fun e => inPipe e k.id (fun y => y.stage = .keyed ∧ y.epoch = some ep ∧ y.key = key ∧ y.body = k.body)))

/-- R88, R91: where GRAPH_WALK completes. -/
def Sys2Proof.Machine.graphWalkRunsSays : Prop :=
  ∀ (s : State) (sl j : Nat) (k : Pkt),
    let d := s.dev
    let x := d.setOf sl k.epoch
    let n := k.startNode
    sl < 8 → d.graphFrame sl j = some k → d.blockOn sl 10 = true → d.bad = [] → 1 ≤ d.get (PRS.GRAPH_CFG.NODE_LIMIT sl x) →
    (d.is (PRS.NODE_W0.VALID sl x n) = true → d.get (PRS.NODE_W0.ADV_MODE sl x n) = 2 → d.get (PRS.NODE_W0.ADV_PART sl x n) ≠ 3 →
      d.get (PRS.NODE_W1.EXT_CNT sl x n) = 0 → completes (.graphWalk sl j []) s (fun e => inPipe e k.id (fun y => y.stage = .keyed ∧ y.key.length = 128 ∧
      bit (beAt y.key 0 2) 14 = false ∧ bit (beAt y.key 0 2) 12 = true ∧ byteAt y.key 5 = 1)))

/-- R93: where PROFILE_WRITE completes. -/
def Sys2Proof.Machine.profileWriteRunsSays : Prop :=
  ∀ (s : State) (sl p w v : Nat),
    let d := s.dev
    let act := d.get (GLB.PART_CTL.ACTIVE sl)
    let names := fun x => ∃ i, i < 64 ∧ d.is (PRS.PRESEL_RESULT.VALID sl x i) = true ∧ d.is (PRS.PRESEL_RESULT.GRAPH sl x i) = false ∧ d.get (PRS.PRESEL_RESULT.PROFILE sl x i) = p
    let inUse := names act ∨ ((d.is (GLB.PART_CTL.RETIRING sl) = true ∨ d.is (GLB.PART_CTL.ARM sl) = true) ∧ names (1 - act))
    let off := d.is (PRS.PROF_CTL.PROFILE_OFF sl) = true
    let lo := PRS.PROFILE_CMD.LO sl p (w - 1)
    let hi := PRS.PROFILE_CMD.HI sl p (w - 1)
    sl < 8 → p < 64 → w < 16 → d.reaches (PRS.PROFILE_HDR.L3_OFF sl p) → d.reaches (PRS.PROFILE_CMD.LO sl p (w - 1)) →
    ((off ∨ ¬ inUse) → 1 ≤ w → completes (.profileWrite sl p w v) s (fun e => e.get lo = cmdHeld (bits v 31 0) ∧ e.get hi = cmdHeld (bits v 63 32)))

/-- R98, R100, R109, R111, R291: where CLASSIFY completes. -/
def Sys2Proof.Machine.classifyRunsSays : Prop :=
  ∀ (s : State) (p : Nat) (k : Pkt) (xs : List Nat),
    let d := s.dev
    let sl := k.slice
    let x := d.setOf sl k.epoch
    let kp := d.kprofOf x k
    let dflt := d.get (CLS.DEFAULT.W sl x)
    let on := d.is (CLS.CTL.EN sl) = true ∧ d.is (CLS.KPROF_HDR.VALID sl x kp) = true
    let r := (d.cntCls sl 0).searchVerified sl x kp (d.is (CLS.KPROF_HDR.WIDE sl x kp)) ((d.cntCls sl 0).searchKey x kp k) true 3 [] false
    let cells := fun (e : Dev) => (e.takeCells sl k.cells []).1
    let took := fun (e : Dev) (a : Nat) => inPipe e k.id (fun y => y.stage = .classified ∧ y.act = a ∧ y.d3 = d3OfAct a ∧ y.body = k.body ∧ y.mirSess = bits a 20 18 ∧
      y.bufs = xs ∧ y.bufSlice = sl)
    let filled := fun (e : Dev) => ∀ b, (∀ y ∈ xs, b < d.bufA (sl / 4) y 0 ∨ d.bufA (sl / 4) y 0 + 256 ≤ b) → e.rdB b = d.rdB b
    d.frameAt p 3 = some k → d.blockOn sl 11 = true → (k.stage = .scanned ∨ (k.stage = .keyed ∧ d.needScan k = false)) →
    (on → d.arrLive sl = [] → actDISP dflt = 0 → cells (r.2.cntCls sl 2) = some xs → completes (.classify p [] []) s (fun e => filled e ∧ took e dflt))

/-- R108, R114, R116, R123: where PAYLOAD_SCAN, CLS_SCRUB, CLS_PROBE, CLS_PROBE_DONE complete. -/
def Sys2Proof.Machine.scanScrubProbeRunsSays : Prop :=
  ∀ (s : State) (p sl i v key : Nat) (k : Pkt),
    let d := s.dev
    let x := d.setOf k.slice k.epoch
    let kp := d.kprofOf x k
    let w := sliceB k.body (byteAt k.key 11 + d.get (CLS.KPROF_HDR.SCAN_START k.slice x kp)) (min 256 (d.get (CLS.KPROF_HDR.SCAN_LEN k.slice x kp)))
    let hit := patAt d k.slice x w
    let ends := fun (q j : Nat) => j + bits (d.rd64 (patA k.slice q 4)) 7 3
    (d.frameAt p 2 = some k → k.stage = .keyed → d.blockOn k.slice 11 = true → d.needScan k = true → d.bad = [] →
      completes (.payloadScan p []) s (fun e => inPipe e k.id (fun y => y.stage = .scanned ∧ y.scanDone = true ∧ y.key = k.key ∧ y.body = k.body ∧
      y.scanCount = min 255 ((List.range 4096).map (fun q => ((List.range 256).filter (hit q)).length)).sum ∧ (y.scanHit = true ↔ ∃ q j, q < 4096 ∧ hit q j = true) ∧
      (∀ g, g < 64 → (bit y.scanGroups g = true ↔ ∃ q j, q < 4096 ∧ hit q j = true ∧ bits (d.rd64 (patA k.slice q 4)) 15 10 = g)) ∧ (∀ q j, q < 4096 →
      hit q j = true → (∀ q' j', q' < 4096 → hit q' j' = true → ends q j < ends q' j' ∨ (ends q j = ends q' j' ∧ q ≤ q')) → y.scanFirst = q) ∧ (y.scanHit = false →
      y.scanFirst = 0)))) ∧
    (sl < 8 → d.sliceOn sl = true → d.is (CLS.CTL.SCRUB_EN sl) = true → i < 49152 → d.shadowBad sl i false = false → (∃ w, w < 11 ∧
      sget d.mxor (entA sl i w) 0 ≠ 0) → completes (.clsScrub sl i [] []) s (fun e => raised e (EV_CLS_SCRUB_FIX sl) ∧ (∀ w, w < 11 →
      e.arrW sl i w = d.entW sl i w))) ∧
    (sl < 8 → d.reaches (CLS.PROBE_CTL.GO sl) → d.is (CLS.PROBE_CTL.DONE sl) = true → completes (.clsProbe sl v) s (fun e => e.is (CLS.PROBE_CTL.DONE sl) = false ∧
      e.get (CLS.PROBE_CTL.SET sl) = bits v 5 5 ∧ e.get (CLS.PROBE_CTL.KPROF sl) = bits v 4 1 ∧ (sget e.tbl.probe sl none).isSome = true)) ∧
    (sl < 8 → sget d.tbl.probe sl none = some key → d.arrLive sl = [] → completes (.clsProbeDone sl [] []) s (fun e => e.is (CLS.PROBE_CTL.DONE sl) = true ∧
      sget e.tbl.probe sl none = none ∧ e.get (CLS.PROBE_RES.W sl) = resultWord {} (d.get (CLS.PROBE_CTL.KPROF sl)) false 0 0 % 2 ^ 64))

/-- R110, R118, R119: where CLS_ENTRY_WRITE completes. -/
def Sys2Proof.Machine.entryWritesRunsSays : Prop :=
  ∀ (s : State) (sl i w v : Nat),
    let d := s.dev
    let a := entA sl i w
    let c := d.entW sl i 10
    sl < 8 → i < 49152 → v < 2 ^ 64 → d.reaches2 a → ecRETIRED c = false → d.is (GLB.PART_CTL.RETIRING sl) = false →
    (w = 10 → completes (.clsEntryWrite sl 0 i w v) s (fun e => stored8 d e a (v % 2 ^ 24) ∧ e.arrW sl i w = e.entW sl i w))

/-- R129: where FORWARD_LOOKUP completes. -/
def Sys2Proof.Machine.forwardLookupRunsSays : Prop :=
  ∀ (s : State) (p : Nat) (k : Pkt),
    let d := s.dev
    let sl := k.slice
    let x := d.setOf sl k.epoch
    let vid := if bits (bits (beAt k.key 2 2) 12 9) 3 2 = 1 then beAt k.key 54 2 % 4096 else d.get (FWD.PORT_CFG.PVID sl x (portIdx k.port))
    let da := beAt k.window 0 6
    let l2 := d.is (FWD.CTL.EN sl) = true ∧ d.is (FWD.VLAN.VALID sl x vid) = true ∧ d.is (FWD.RMAC.EN sl x) = false ∧ d.is (FWD.CTL.LEARN_EN sl) = false
    let goes := fun (e : Dev) (dest : Dest) => memSame d e ∧ inPipe e k.id (fun y => y.stage = .forwarded ∧ y.dest = dest ∧ y.body = k.body ∧ y.nh = k.nh)
    d.frameAt p 4 = some k → k.stage = .classified → d.blockOn sl 12 = true → d.bad = [] →
    (∀ j, l2 → da ≠ 0xFFFFFFFFFFFF → (d.macFind sl (macKey vid da) (fun w => fwSETS w x)).1 = some j → bits (d.fwdW sl 0 j 1) 22 21 = 0 →
      completes (.forwardLookup p []) s (fun e => goes e (.port (bits (d.fwdW sl 0 j 1) 8 0))))

/-- R135, R137, R139: where LEARN_APPLY, FWD_AGE_VISIT complete. -/
def Sys2Proof.Machine.learnAndAgeRunsSays : Prop :=
  ∀ (s : State) (sl k : Nat) (l : Learn) (ls : List Learn),
    let d := s.dev
    let r := d.fwdW sl 0 k 1
    let a0 := fwdA sl 0 k 0
    let a1 := fwdA sl 0 k 1
    let due := d.is (FWD.AGE_CFG.AGE_EN sl) = true ∧ fwVALID (d.fwdW sl 0 k 0) = true ∧ fwRETIRED (d.fwdW sl 0 k 0) = false ∧ bit r 23 = false
    let aged := d.get (FWD.AGE_CFG.AGE_MAX sl) ≤ (d.fwdNow + 65536 - bits r 39 24) % 65536
    let gone := fun (e : Dev) => fwVALID (e.fwdW sl 0 k 0) = false ∧ ∀ b, b ≠ a0 + 7 → e.rdB b = d.rdB b
    let found := (d.macFind sl (macKey l.vid l.sa) (fun _ => true)).1
    sl < 8 → d.sliceOn sl = true → d.bad = [] →
    (d.tbl.learns = l :: ls → l.slice = sl → l.bad = false → found = some k → fwSETS (d.fwdW sl 0 k 0) l.set = true → (bits r 22 21 ≠ 0 ∨ bits r 8 0 = l.port) →
      completes (.learnApply sl 0 []) s (fun e => stored8 d e a1 (setBits r 39 24 d.fwdNow) ∧ e.tbl.learns.length = ls.length)) ∧
    (k < 262144 → due → aged → d.ageWaits sl 0 k = none → d.get (FWD.LOG_SIZE.SIZE sl) = 0 → completes (.fwdAgeVisit sl 0 k (false, [])) s gone)

/-- R127, R132, R133: where FWD_INSERT, FWD_DELETE, FWD_SET_SETS, FWD_LOOKUP, FWD_CMD_DONE complete. -/
def Sys2Proof.Machine.tableCommandsRunsSays : Prop :=
  ∀ (s : State) (sl v k : Nat) (c : HostCmd),
    let d := s.dev
    let t := bits v 4 3
    let w := d.get (FWD.CMD_KEY.W sl 0)
    let run := fun (e : Dev) (st : Nat) => e.is (FWD.CMD_CTL.DONE sl) = false ∧ ∃ c, sget e.tbl.fwdCmd sl none = some c ∧ c.status = st
    sl < 8 → d.reaches (FWD.CMD_CTL.GO sl) → d.is (FWD.CMD_CTL.DONE sl) = true → d.is (GLB.PART_CTL.RETIRING sl) = false →
    (t = 0 → d.cmdFind sl 0 = none → d.macFree sl (w % 2 ^ 60) = [k] → completes (.fwdInsert sl v) s (fun e => run e 0 ∧
      e.fwdW sl 0 k 0 = w % 2 ^ 60 + bits v 6 5 * 2 ^ 60 + 2 ^ 62 ∧ e.fwdW sl 0 k 1 = d.get (FWD.CMD_RES.W sl) % 2 ^ 40)) ∧
    (t < 3 → d.cmdFind sl t = some k → ¬ (t = 2 ∧ d.cmdBadPrefix sl = true) → completes (.fwdDelete sl v) s (fun e => run e 0 ∧
      stored8 d e (fwdA sl t k 0) (clrBit (d.fwdW sl t k 0) 62))) ∧
    (t < 3 → d.cmdFind sl t = some k → ¬ (t = 2 ∧ d.cmdBadPrefix sl = true) → completes (.fwdSetSets sl v) s (fun e => run e 0 ∧
      stored8 d e (fwdA sl t k 0) (setBits (d.fwdW sl t k 0) 61 60 (bits v 6 5)))) ∧
    (t < 3 → d.cmdFind sl t = some k → ¬ (t = 2 ∧ d.cmdBadPrefix sl = true) → completes (.fwdLookup sl v) s (fun e => run e 0)) ∧
    (sget d.tbl.fwdCmd sl none = some c → c.status < 8 → completes (.fwdCmdDone sl) s (fun e => e.is (FWD.CMD_CTL.DONE sl) = true ∧
      e.get (FWD.CMD_CTL.STATUS sl) = c.status ∧ sget e.tbl.fwdCmd sl none = none))

/-- R131, R133, R137: where TABLE_WORD_WRITE, RING_RD_WRITE, RING_BASE_SIZE_WRITE complete. -/
def Sys2Proof.Machine.tableAndRingWritesRunsSays : Prop :=
  ∀ (s : State) (sl k r v : Nat),
    let d := s.dev
    let a := fwdA sl 0 k 1
    let g := ringNo r
    (sl < 8 → k < 262144 → v < 2 ^ 64 → d.reaches2 a → fwRETIRED (d.fwdW sl 0 k 0) = false → d.is (GLB.PART_CTL.RETIRING sl) = false →
      completes (.tableWordWrite sl (16 * k + 8) v) s (fun e => stored8 d e a (v % 2 ^ 40))) ∧
    (r < 12 → v < 2 ^ 32 → d.reaches g.rd → subMod 32 (d.get g.wr) v ≤ d.get g.size → completes (.ringRdWrite r v) s (fun e => e.get g.rd = v)) ∧
    (r < 10 → v < 2 ^ 32 → d.reaches g.size → d.get g.wr < 2 ^ 32 → (Rule.p2 64 (ringLimits r).1).ok v = true →
      completes (.ringBaseSizeWrite r true v) s (fun e => e.get g.size = v ∧ e.get g.rd = d.get g.wr ∧ e.ringUsed g = 0))

/-- Where each command of the host registers, epochs, ports, parser, classifier and forwarding completes: `hostRegisterWritesRunsSays`, `hostAccessErrorsRunsSays`, `bar2WritesRunsSays`, `fencesAndLocksRunsSays`, `partArmRunsSays`, `epochAdvanceRunsSays`, `octetModeWriteRunsSays`, `laneMapWriteRunsSays`, `portConfigRunsSays`, `linkBringUpRunsSays`, `linkLossRunsSays`, `adaptationRunsSays`, `frameReceptionRunsSays`, `managementFramesRunsSays`, `frameTransmissionRunsSays`, `parseFrameRunsSays`, `graphWalkRunsSays`, `profileWriteRunsSays`, `classifyRunsSays`, `scanScrubProbeRunsSays`, `entryWritesRunsSays`, `forwardLookupRunsSays`, `learnAndAgeRunsSays`, `tableCommandsRunsSays`, `tableAndRingWritesRunsSays`. -/
def Obligations.FramesComplete : Prop :=
  hostRegisterWritesRunsSays ∧ hostAccessErrorsRunsSays ∧ bar2WritesRunsSays ∧ fencesAndLocksRunsSays ∧ partArmRunsSays ∧
  epochAdvanceRunsSays ∧ octetModeWriteRunsSays ∧ laneMapWriteRunsSays ∧ portConfigRunsSays ∧ linkBringUpRunsSays ∧
  linkLossRunsSays ∧ adaptationRunsSays ∧ frameReceptionRunsSays ∧ managementFramesRunsSays ∧ frameTransmissionRunsSays ∧
  parseFrameRunsSays ∧ graphWalkRunsSays ∧ profileWriteRunsSays ∧ classifyRunsSays ∧ scanScrubProbeRunsSays ∧
  entryWritesRunsSays ∧ forwardLookupRunsSays ∧ learnAndAgeRunsSays ∧ tableCommandsRunsSays ∧ tableAndRingWritesRunsSays

/-- R26, R143, R144, R153, R158, R185, R188: where FACE_LOOKUP completes. -/
def Sys2Proof.Machine.faceLookupRunsSays : Prop :=
  ∀ (s : State) (p : Nat) (k : Pkt) (l : Line),
    let d := s.dev
    let sl := k.slice
    let t := keyType k
    let key := (flowKey (d.is (QRY.INS_CFG.SYM sl t)) k).1
    let dir := (flowKey (d.is (QRY.INS_CFG.SYM sl t)) k).2
    let h1 := d.hash1 key
    let h2 := d.hash2 key
    let q := fun (e : Dev) => sget e.eng.dq (flowCluster sl h1) []
    let flow := d.is (QRY.CTL.EN sl) = true ∧ d.is QRY.GCFG.EN = true ∧ (t % 4 = 1 ∨ t % 4 = 2) ∧ t / 4 < 3 ∧ actSKIP k.act = false ∧ k.bad = false
    let hit := d.lineFor sl h1 h2 key = some l ∧ d.lineOf sl l.handle = some l ∧ d.goneStatus sl l.handle = none
    let out := fun (e : Dev) => memSame d e ∧ e.pipe.length + 1 = d.pipe.length
    d.frameAt p 5 = some k → k.stage = .forwarded → d.blockOn sl 9 = true → d.bad = [] → (q d).length < 256 →
    (flow → hit → d.holder sl l.handle = none → fastOnly (nthD l.words 0 0) dir = false → completes (.faceLookup p []) s (fun e => out e ∧ ∃ y, q e = q d ++ [y] ∧
      y.id = k.id ∧ y.handle = l.handle ∧ y.status = 0 ∧ y.body = k.body))

/-- R159: where FLOW_UPDATE completes. -/
def Sys2Proof.Machine.flowUpdateRunsSays : Prop :=
  ∀ (s : State) (sl i : Nat) (k : Pkt) (l : Line),
    let d := s.dev
    let w := nthD l.words 0 0
    let added := fun (e : Dev) => e.lineOf sl k.handle = some (addDelta d.tick 1 0 k.len (some d.qryNow) l) ∧ e.pipe.length + 1 = d.pipe.length
    sl < 8 → d.flowFrame sl = some k → d.lineOf sl k.handle = some l → d.lineRetired l = false → d.blockOn sl 9 = true → d.is (QRY.FACE_CFG.WB_EN sl) = true →
    d.bad = [] →
    (rVERDICT w = 0 → rRWEN w = false → rNHEN w = false → k.dest = .port i → heldBack k.h1 k.h2 k.id (d.ordOf (flowCluster k.slice k.h1)) = false →
      completes (.flowUpdate sl []) s (fun e => added e ∧ ∃ a, e.swc.adms = d.swc.adms ++ [a] ∧ a.pkt.id = k.id ∧ a.pkt.body = k.body ∧ a.dest = k.dest))

/-- R155, R157, R158, R160, R162: where FACE_MISS_RESUME, LOOKUP_RESPONSE complete. -/
def Sys2Proof.Machine.faceMissesRunsSays : Prop :=
  ∀ (s : State) (sl id : Nat) (t : Txn) (m : Miss) (l : Line),
    let d := s.dev
    let one := ∀ x ∈ d.eng.dq, ∀ y ∈ x.2, y.miss = some m.id → y.fkey = m.fkey
    let free := d.waysFree sl (m.h1 % 16384)
    let ended := fun (e : Dev) => memSame d e ∧ e.qry.txns = d.qry.txns.filter (fun x => x.id != id) ∧ e.qry.misses = d.qry.misses.filter (fun x => x.id != m.id)
    sl < 8 →
    (d.blockOn sl 9 = true → d.missToSend sl = some m → missWays m ≤ free.length →
      completes (.faceMissResume sl) s (fun e => (∃ l, e.qry.lines = d.qry.lines ++ [l] ∧ l.st = .filling ∧ l.missId = m.id ∧ l.slice = sl ∧
      l.ways = free.take (missWays m)))) ∧
    (d.response id = some (t, m) → d.eng.ctxs = [] → one → t.rStatus ≤ 1 → rFULL (nthD t.rWords 0 0) = false → d.lineOf m.slice t.rHandle = none →
      d.qry.lines.find? (fun l => l.st == .filling && l.missId == m.id) = some l → (∀ w ∈ l.ways, d.isRetired 0 (faceLoc m.slice (m.h1 % 16384) w) = false) →
      completes (.lookupResponse id) s (fun e => ended e ∧ (∃ y ∈ e.qry.lines, y.slice = m.slice ∧ y.st = .clean ∧ y.handle = t.rHandle ∧ y.words = t.rWords ∧
      y.ways = l.ways.take 1)))

/-- R161, R164, R165, R166, R171, R225: where BENCH_LOOKUP, BENCH_LATE complete. -/
def Sys2Proof.Machine.benchLookupsRunsSays : Prop :=
  ∀ (s : State) (id a : Nat) (t : Txn),
    let d := s.dev
    let u := tINDEX (d.rd64 a)
    let x := d.flowOf t.half u
    let w := d.unitA t.half u
    let byKey := t.kind = .lookup ∧ t.handle = noFlow
    t.half < 2 → u < 2 ^ 27 → d.txnReady id = some t → d.bad = [] →
    (byKey → d.findTag t.half t.h1 t.h2 t.fkey = some a → d.handleState x = 0 → completes (.benchLookup id []) s (fun e => answered e id 0 x (e.recAt t.half u) ∧
      stored8 d e w (setBits (d.rd64 w) (56 + t.slice) (56 + t.slice) 1))) ∧
    (t.kind = .late → t.handle ≠ noFlow → d.handleState t.handle = 0 →
      completes (.benchLate id []) s (fun e => e.recOf t.handle = mergeDelta (d.recOf t.handle) 0 1 0 none))

/-- R167, R168: where BENCH_WRITE_BACK, BENCH_COMMIT, COMMIT_RESPONSE, BENCH_RELEASE, PUSH_RECEIVE complete. -/
def Sys2Proof.Machine.benchMergesRunsSays : Prop :=
  ∀ (s : State) (id j : Nat) (t : Txn) (l : Line) (p : Push) (r : List Push),
    let d := s.dev
    let ws := d.recOf t.handle
    let gone := fun (e : Dev) => ∀ y ∈ e.qry.txns, y.id ≠ id
    let ready := d.txnReady id = some t ∧ d.bad = [] ∧ t.slice < 8
    let new := mergeTxn t (mergeState (rFULL (nthD ws 0 0)) ws t.words)
    (ready → t.kind = .writeBack → d.handleState t.handle = 0 → completes (.benchWriteBack id []) s (fun e => gone e ∧ e.recOf t.handle = mergeTxn t ws)) ∧
    (ready → t.kind = .commit → d.handleState t.handle = 0 → rVER (nthD ws 0 0) = t.ver → d.eng.stepCmd = [] → completes (.benchCommit id []) s (fun e => gone e ∧
      e.recOf t.handle = setNth new 0 (setBits (nthD new 0 0) 7 0 (t.ver + 1)))) ∧
    (d.qry.txns.find? (fun t => t.id == id && t.kind == .commit && t.done) = some t → d.lineOf t.slice t.handle = some l → d.eng.stepCmd = [] →
      completes (.commitResponse id) s (fun e => gone e ∧ (t.ctx ≠ 0 → (e.ctx (t.ctx - 1)).conflict = true) ∧
      e.lineOf t.slice t.handle = some { l with words := mergeState (rFULL (nthD t.rWords 0 0)) l.words t.rWords, ver := rVER (nthD t.rWords 0 0) })) ∧
    (ready → t.kind = .release → d.handleState t.handle = 0 → completes (.benchRelease id []) s (fun e => gone e ∧
      e.recOf t.handle = setNth (mergeTxn t ws) 0 (setBits (nthD (mergeTxn t ws) 0 0) (56 + t.slice) (56 + t.slice) 0))) ∧
    (d.pushAt j = some (p, r) → d.lineOf p.slice p.handle = some l → completes (.pushReceive j) s (fun e => e.qry.pushes = r ∧
      e.lineOf p.slice p.handle = some { l with words := mergeState (rFULL (nthD l.words 0 0)) l.words p.words, ver := rVER (nthD p.words 0 0) }))

/-- R163, R168, R410: where BENCH_TIMEOUT, FACE_FLUSH, FACE_IDLE_RELEASE, FACE_FLUSH_ALL complete. -/
def Sys2Proof.Machine.timeoutsAndFlushRunsSays : Prop :=
  ∀ (s : State) (sl x id v : Nat) (t : Txn) (m : Miss) (l : Line),
    let d := s.dev
    let late := d.qry.txns.find? (fun y => y.id == id) = some t ∧ t.done = false ∧ ((d.timedOut t = true ∧ d.cutOff t = false) ∨ (d.timedOut t = false ∧ d.cutOff t = true)) ∧ t.slice < 8
    let sent := fun (e : Dev) (k : TxnKind) => memSame d e ∧ ∃ y, e.qry.txns = d.qry.txns ++ [y] ∧ y.kind = k ∧ y.slice = sl ∧ y.handle = l.handle ∧
      y.dPkts = l.dPkts ∧ y.dOct = l.dOct
    let ends := fun (e : Dev) => memSame d e ∧ raised e (EV_QRY_BENCH_TIMEOUT t.slice) ∧ e.qry.txns = d.qry.txns.filter (fun y => y.id != id)
    sl < 8 →
    (late → t.kind = .lookup → d.qry.misses.find? (fun y => y.id == t.missId) = some m → d.eng.ctxs = [] → completes (.benchTimeout id) s (fun e => ends e ∧
      e.qry.lines = d.qry.lines.filter (fun l => !(l.st == LineSt.filling && l.missId == m.id)) ∧ e.qry.misses = d.qry.misses.filter (fun y => y.id != m.id))) ∧
    (d.lineOf sl x = some l → wordsGood d sl l → l.st = .dirty → d.is (QRY.FACE_CFG.WB_EN sl) = true →
      d.get (QRY.FACE_CFG.FLUSH_MS sl) * 1000000 ≤ d.tick - l.dirtyAt → completes (.faceFlush sl x) s (fun e => sent e .writeBack ∧
      e.lineOf sl x = some (cleanLine l))) ∧
    (d.lineOf sl x = some l → wordsGood d sl l → d.pinned l = false → d.awaited l = false → d.get (QRY.FACE_CFG.IDLE_MS sl) * 1000000 ≤ d.tick - l.hitAt →
      completes (.faceIdleRelease sl x) s (fun e => sent e .release ∧ l ∉ e.qry.lines)) ∧
    (d.reaches (QRY.FACE_CFG.WB_EN sl) → v < 2 ^ 32 → d.qry.lines.filter (fun l => l.slice == sl && l.st == .dirty) = [l] → d.lineOf sl l.handle = some l →
      wordsGood d sl l → completes (.faceFlushAll sl v) s (fun e => sent e .writeBack ∧ e.lineOf sl l.handle = some (cleanLine l) ∧
      e.is (QRY.FACE_CFG.FLUSH_BUSY sl) = true))

/-- R169, R170, R171: where QRY_AGE_VISIT, BENCH_DELETE, DELETE_INVALIDATE, DELETE_FINISH complete. -/
def Sys2Proof.Machine.agingAndDeletionRunsSays : Prop :=
  ∀ (s : State) (h b j id a sl : Nat) (y : Del),
    let d := s.dev
    let t := d.rd64 (d.tagA h b j)
    let u := tINDEX t
    let w0 := d.rd64 (d.unitA h u)
    let old := rCACHED w0 = 0 ∧ d.get (QRY.AGE_MAX.MAX (rAGE w0)) ≤ subMod 32 d.qryNow (bits (d.rd64 (d.unitA h u + 24)) 31 0)
    let live := d.halfOn h = true ∧ d.is QRY.AGE_CFG.AGE_EN = true ∧ d.is QRY.GCFG.READY = true ∧ b < 2 ^ (d.unitsLog - 2) ∧ j < 8 ∧
      tVALID t = true ∧ tSTATIC t = false ∧ tDYING t = false ∧ d.anyWaits (d.tagA h b j :: d.recRows (d.flowOf h u)) = false
    let v0 := nthD (d.recOf y.handle) 0 0
    let unit := d.unitA (flowHalf y.handle) (flowUnit y.handle)
    let ring := 2 * flowHalf y.handle + b2n (rFULL (d.rd64 unit))
    let next := d.qry.dels.find? (fun z => z.id == id && !z.started) = some y ∧ y.reason ≠ 3 ∧ y.cmp = none ∧ d.halfOn (flowHalf y.handle) = true ∧ d.anyWaits (d.recRows y.handle) = false
    let rest := fun (e : Dev) => ∀ z ∈ e.qry.dels, z.id ≠ id
    h < 2 → sl < 8 → d.bad = [] →
    (live → old → completes (.qryAgeVisit h b j []) s (fun e => ∃ z, e.qry.dels = d.qry.dels ++ [z] ∧ z.handle = d.flowOf h u ∧ z.reason = 0 ∧ z.started = false)) ∧
    (next → d.handleState y.handle = 0 → rLOGEND v0 = false → d.tagOf (flowHalf y.handle) (flowUnit y.handle) = some a →
      completes (.benchDelete id []) s (fun e => stored8 d e a (setBit (d.rd64 a) 61) ∧ ∃ z ∈ e.qry.dels, z.id = id ∧ z.started = true ∧ z.handle = y.handle ∧
      ∀ i, i < 8 → (i ∈ z.waits ↔ bit (rCACHED v0) i = true))) ∧
    (d.delFor id sl = some y → d.qry.dels.find? (fun z => z.id == id) = some y →
      completes (.deleteInvalidate id sl) s (fun e => (∀ l, d.lineOf sl y.handle = some l → l ∉ e.qry.lines) ∧
      e.qry.dels.find? (fun z => z.id == id) = some { y with waits := y.waits.filter (fun i => i != sl) })) ∧
    (d.qry.dels.find? (fun y => y.id == id && y.started && y.waits.isEmpty) = some y → d.tagOf (flowHalf y.handle) (flowUnit y.handle) = some a → 16 ≤ d.unitsLog →
      d.rowGone unit = false → rFULL (d.rd64 unit) = false → completes (.deleteFinish id) s (fun e => rest e ∧ e.rd64 a = 0 ∧
      e.rd64 unit = setBits (d.rd64 unit) 11 8 (rGEN (d.rd64 unit) + 1) ∧ sget e.qry.freeRings ring [] = sget d.qry.freeRings ring [] ++ [(flowUnit y.handle, 1)]))

/-- R150, R174, R175: where QRY_LOOKUP, QRY_INSERT, QRY_DELETE, QRY_READ, QRY_WRITE, QRY_CMD_DONE, QRY_GCFG_WRITE, BENCH_INIT_DONE complete. -/
def Sys2Proof.Machine.quarryCommandsRunsSays : Prop :=
  ∀ (s : State) (v e0 a h : Nat) (c : HostCmd),
    let d := s.dev
    let k := (d.set QRY.CMD_CTL.KTYPE (bits v 15 12)).qryCmdKey
    let h1 := d.hash1 k
    let h2 := d.hash2 k
    let hf := h1 / 2 ^ 31
    let f := d.findTag hf h1 h2 k
    let x := d.get QRY.CMD_HANDLE.HANDLE
    let ws := d.recOf x
    let may := d.reaches QRY.CMD_CTL.GO ∧ d.is QRY.CMD_CTL.DONE = true ∧ d.bad = [] ∧ v < 2 ^ 32
    let up := d.is QRY.GCFG.EN = true ∧ d.is QRY.GCFG.READY = true
    let byHandle := up ∧ x ≠ noFlow ∧ d.handleState x = 0
    let run := fun (e : Dev) (st : Nat) => e.is QRY.CMD_CTL.DONE = false ∧ ∃ c, e.qry.qryCmd = some c ∧ c.status = st
    let new := mergeState (rFULL (nthD ws 0 0)) ws d.qryCmdData
    let u := bits v 4 0
    let n := 2 ^ d.unitsLog
    (may → up → f = some a → d.handleState (d.flowOf hf (tINDEX (d.rd64 a))) = 0 → completes (.qryLookup v []) s (fun e => run e 0 ∧ ∃ c, e.qry.qryCmd = some c ∧
      c.addr = d.flowOf hf (tINDEX (d.rd64 a)) + 1)) ∧
    (may → up → f = none → bits v 4 4 = 0 → bits v 15 12 % 4 ≠ 2 → sget d.qry.freeRings (2 * hf) [] = [(e0, 1)] → e0 < 2 ^ 27 → d.rowGone (d.unitA hf e0) = false →
      d.freeTag hf (d.buckets h1 h2) = some a → 16 ≤ d.unitsLog → h1 < 2 ^ 32 → h2 < 2 ^ 32 → completes (.qryInsert v []) s (fun e => run e 0 ∧
      tVALID (e.rd64 a) = true ∧ tINDEX (e.rd64 a) = e0 ∧ tFP (e.rd64 a) = Nat.xor h1 h2 ∧ tDYING (e.rd64 a) = false)) ∧
    (may → byHandle → completes (.qryDelete v []) s (fun e => run e 0 ∧ ∃ z, e.qry.dels = d.qry.dels ++ [z] ∧ z.handle = x ∧ z.reason = 1 ∧ z.started = false)) ∧
    (may → byHandle → d.qry.lines = [] → completes (.qryRead v []) s (fun e => run e 0 ∧ ∃ c, e.qry.qryCmd = some c ∧ c.addr = x + 1)) ∧
    (may → byHandle → completes (.qryWrite v []) s (fun e => run e 0 ∧ e.recOf x = setNth new 0 (setBits (nthD new 0 0) 7 0 (rVER (nthD ws 0 0) + 1)))) ∧
    (d.qry.qryCmd = some c → d.flt.repairs = [] → c.waiting = false → c.addr = 0 → c.status < 16 → completes .qryCmdDone s (fun e => e.qry.qryCmd = none ∧
      e.is QRY.CMD_CTL.DONE = true ∧ e.get QRY.CMD_CTL.STATUS = c.status)) ∧
    (d.reaches QRY.GCFG.UNITS_LOG2 → v < 2 ^ 32 → d.is QRY.GCFG.EN = false → 16 ≤ u → u ≤ 27 → d.get QRY.SPLIT.SPLIT ≤ 2 ^ u → bit v 5 = true →
      completes (.qryGcfgWrite v) s (fun e => e.get QRY.GCFG.UNITS_LOG2 = u ∧ e.is QRY.GCFG.EN = true ∧ e.qry.qryInit = true)) ∧
    (h < 2 → d.qry.qryInit = true → d.get (QRY.BENCH_BASE.GIB h) < 64 → n < 2 ^ 27 → 0 < d.get QRY.SPLIT.SPLIT → d.get QRY.SPLIT.SPLIT ≤ n →
      completes .benchInitDone s (fun e => e.is QRY.GCFG.READY = true ∧ e.qry.qryInit = false ∧ sget e.qry.freeRings (2 * h) [] = [(0, d.get QRY.SPLIT.SPLIT)]))

/-- R211, R233, R236: where PATCH_WRITE, PATCH_COPY, PATCH_REPAIR, PATCH_DONE complete. -/
def Sys2Proof.Machine.patchCommandsRunsSays : Prop :=
  ∀ (s : State) (c v n dst src crc x : Nat) (k : HostCmd),
    let d := s.dev
    let go := d.reaches (ENG.PATCH_CTL.GO c) ∧ v < 2 ^ 36
    let fields := fun (e : Dev) => e.get (ENG.PATCH_CTL.COUNT c) = bits v 34 21 ∧ e.get (ENG.PATCH_CTL.DST c) = bits v 20 8 ∧ e.is (ENG.PATCH_CTL.DONE c) = false ∧ memSame d e
    let given := fun (e : Dev) (st : Nat) => ∃ y, sget e.eng.patch c none = some y ∧ y.status = st
    let done := fun (e : Dev) (st : Nat) => e.get (ENG.PATCH_CTL.STATUS c) = st ∧ e.is (ENG.PATCH_CTL.DONE c) = true ∧ sget e.eng.patch c none = none
    let runs := sget d.eng.patch c none = some k ∧ k.status = 0 ∧ d.bad = [] ∧ k.at_ = x ∧ x < 2
    let fresh := ∀ i, i < 8192 → d.lastingWord c x i = false
    let able := d.clusterOn c = true ∧ d.flt.repairs = []
    c < 64 →
    (go → d.is (ENG.PATCH_CTL.DONE c) = true → d.is GLB.PATCH_LOCK.LOCK = false → 1 ≤ bits v 34 21 → bits v 20 8 + bits v 34 21 ≤ 8192 →
      d.get (ENG.PATCH_SRC.OFFSET c) % 64 = 0 → bit v 35 = false → d.is (GLB.PART_CTL.RETIRING (8 + c)) = false → completes (.patchWrite c v) s (fun e => fields e ∧
      given e 0)) ∧
    (go → d.is (ENG.PATCH_CTL.DONE c) = true → d.is GLB.PATCH_LOCK.LOCK = false → d.is (GLB.PART_CTL.RETIRING (8 + c)) = false →
      completes (.patchCopy c v) s (fun e => fields e ∧ given e 0)) ∧
    (go → d.is (ENG.PATCH_CTL.DONE c) = true → d.is GLB.PATCH_LOCK.LOCK = false → 1 ≤ bits v 34 21 → bits v 20 8 + bits v 34 21 ≤ 8192 →
      d.get (ENG.PATCH_SRC.OFFSET c) % 64 = 0 → completes (.patchRepair c v) s (fun e => fields e ∧ given e 0)) ∧
    (able → runs → k.data = [0, n, dst, src, crc] → dst + n ≤ 8192 → d.segCrcBad c src n crc = false → d.segBad c src n = false → fresh →
      completes (.patchDone c [] []) s (fun e => done e 0))

/-- R270, R272, R274, R281, R284, R403: where BPM_ENABLE, BPM_INIT_DONE, RING_BATCH, READ_META, FIND_Q, BPM_CMD_DONE complete. -/
def Sys2Proof.Machine.poolsAndCommandsRunsSays : Prop :=
  ∀ (s : State) (h v k x : Nat) (c : HostCmd),
    let d := s.dev
    let n := d.get (BPM.POOL_CFG.COUNT h k)
    let y := d.get (BPM.CMD_HANDLE.HANDLE h)
    let w := d.binfo h y
    let go := d.reaches (BPM.CMD_CTL.GO h) ∧ d.is (BPM.CMD_CTL.DONE h) = true
    let run := fun (e : Dev) (st : Nat) (l : List Nat) => memSame d e ∧ e.is (BPM.CMD_CTL.DONE h) = false ∧ ∃ c, sget e.buf.cmd h none = some c ∧ c.status = st ∧ c.data = l
    h < 2 → k < 8 →
    (d.reaches (BPM.CTL.EN h) → bit v 0 = true → d.is (BPM.CTL.EN h) = false → d.poolsOk h = true →
      completes (.bpmEnable h v) s (fun e => e.is (BPM.CTL.EN h) = true ∧ e.buf = d.buf)) ∧
    (d.is (BPM.CTL.EN h) = true → d.is (BPM.CTL.READY h) = false → (∀ r ∈ d.flt.retired, ¬ (r.1 = 7 ∧ r.2 / 2 ^ 30 % 2 = h)) → d.is (BPM.POOL_CFG.EN h k) = true →
      completes (.bpmInitDone h) s (fun e => e.is (BPM.CTL.READY h) = true ∧ runsLen (e.cacheOf h k) = min 1024 n ∧
      runsLen (e.cacheOf h k) + runsLen (e.ringOf h k) = n)) ∧
    (d.bad = [] → d.halfOn h = true → d.flt.repairs = [] → d.is (BPM.CTL.READY h) = true → runsLen (d.cacheOf h k) < 128 → runsLen (d.ringOf h k) ≠ 0 →
      completes (.ringBatch h k) s (fun e => e.cacheOf h k = d.cacheOf h k ++ (runsSplit (d.ringOf h k) 64).1 ∧ e.ringOf h k = (runsSplit (d.ringOf h k) 64).2)) ∧
    (go → d.handleOk h y = true → d.metaErr h y = false → completes (.readMeta h v) s (fun e => run e 0 [w])) ∧
    (∀ z, go → d.handleOk h y = true → d.bad = [] → ssorted d.buf.info = true → z < 2 ^ 32 → y ≤ z → handlePool z = handlePool y → d.handleOk h z = true →
      mQUAR (d.binfo h z) = true → d.metaErr h z = false → (∀ i, y ≤ i → i < z → d.handleOk h i = true → mQUAR (d.binfo h i) = false ∧ d.metaErr h i = false) →
      completes (.findQ h v) s (fun e => run e 0 [z])) ∧
    (sget d.buf.cmd h none = some c → c.data = [x] → x < 2 ^ 32 → c.status < 16 → completes (.bpmCmdDone h) s (fun e => e.get (BPM.CMD_DATA.DATA h) = x ∧
      e.get (BPM.CMD_CTL.STATUS h) = c.status ∧ e.is (BPM.CMD_CTL.DONE h) = true ∧ sget e.buf.cmd h none = none))

/-- R282, R284: where RELEASE_Q completes. -/
def Sys2Proof.Machine.releaseQRunsSays : Prop :=
  ∀ (s : State) (h v : Nat),
    let d := s.dev
    let y := d.get (BPM.CMD_HANDLE.HANDLE h)
    let w := d.binfo h y
    let go := d.reaches (BPM.CMD_CTL.GO h) ∧ d.is (BPM.CMD_CTL.DONE h) = true
    let run := fun (e : Dev) (st : Nat) (l : List Nat) => memSame d e ∧ e.is (BPM.CMD_CTL.DONE h) = false ∧ ∃ c, sget e.buf.cmd h none = some c ∧ c.status = st ∧ c.data = l
    h < 2 →
    (go → d.handleOk h y = true → d.metaErr h y = false → mRETIRED w = false → mPARKED w = false → completes (.releaseQ h v) s (fun e => run e 0 [] ∧
      e.binfo h y = metaParity (clrBit w 21)))

/-- R278, R286, R287, R288, R289, R303, R304, R309, R314: where ADMIT completes. -/
def Sys2Proof.Machine.admissionRunsSays : Prop :=
  ∀ (s : State) (p : Nat) (bw : Bool) (a : Adm),
    let d := s.dev
    let q := a.queue
    let onDie := (d.queue p q).spill = false ∧ d.get (SWC.QUEUE_SPILL.SPILL_THR p q) = 0x7FFFF
    plainAdm d a p →
    (a.dest = .port p → d.portExists p = true → d.admitCheck a p q = 0 → a.srcHalf = portHalf p → onDie → d.get (qCntF a.srcHalf p q) + a.pkt.cells < 2 ^ 24 →
      completes (.admitFrame 0 bw []) s (fun e => e.swc.adms = [] ∧ joined d e a p ∧ e.get (qCntF a.srcHalf p q) = d.get (qCntF a.srcHalf p q) + a.pkt.cells))

/-- R290, R297, R298, R299, R309, R310, R398: where CREDIT_RETURN, D2D_CROSS, SCHEDULE_DEQUEUE, OVERFLOW_READ_DONE complete. -/
def Sys2Proof.Machine.leavingRunsSays : Prop :=
  ∀ (s : State) (p q : Nat) (bw : Bool) (x y : QEnt) (xs : List QEnt) (c : Cross) (k : Credit) (d1 : Dev) (bs : List Nat),
    let d := s.dev
    let clean := ∀ j, j < 16 → ∀ z, (d.queue p j).ents.head? = some z → z.flush = false ∧ z.pkt.bad = false ∧ z.pkt.lateBad = false ∧ d.aged p j z = false
    let ready := d.portOn p = true ∧ d.linkUp p = true ∧ d.portExists p = true ∧ d.is (SWC.PORT_CFG.EN p) = true ∧ d.is (MAC.PORT_CFG.TX_EN p) = true ∧ sget d.mac.tx p none = none
    let d0 := Dev.freeBufs { d with swc.crosses := [] } c.pkt
    p < 265 → q < 16 →
    (d.swc.credits = [k] → (d.laneGroup 0).isSome = true → k.inGroup = true → completes (.creditReturn 0) s (fun e => e.swc.credits = [] ∧
      e.clsCells k.srcHalf k.cls = d.clsCells k.srcHalf k.cls - k.cells ∧ (k.gPort ≠ 511 → e.grpCells k.gPort k.cls = d.grpCells k.gPort k.cls - k.cells))) ∧
    (d.swc.crosses = [c] → c.lost = false → c.ents = [(p, y)] → c.resid = [] → c.needRef = [] → c.group = none → y.q = q → c.pkt.bufSlice < 8 →
      (d.queue p q).spill = false → d.get (SWC.QUEUE_SPILL.SPILL_THR p q) = 0x7FFFF → (d0.takeCells (portSlice p) c.pkt.cells []).1 = some bs →
      completes (.d2dCross 0 bw) s (fun e => e.swc.crosses = [] ∧
      (e.queue p q).ents = (d.queue p q).ents ++ [{ y with pkt := { y.pkt with bufs := bs, bufSlice := portSlice p } }])) ∧
    (clean → ready → d.get (SWC.PORT_SHAPE.RATE p) = 0 → sget d.tmu.buoys p [] = [] → d.schedule p = some (q, d1) → (d.queue p q).ents = x :: xs →
      completes (.scheduleDequeue p 0) s (fun e => sget e.mac.tx p none = some x ∧ (e.queue p q).ents = xs)) ∧
    (d.flt.repairs = [] → nextRead (d.queue p q) = some x → readAheadBytes (d.queue p q) + x.pkt.frameLen ≤ 65536 →
      completes (.overflowReadDone p q) s (fun e => (e.queue p q).ents = mapFirst (fun e => e.spilled && !e.readAhead) (d.readEnt p) (d.queue p q).ents))

/-- R292, R293, R306, R311, R312: where RESIDUE_RETRY, DOWN_HOLD_EXPIRE, RESIDENCY_SCAN, PAUSE_REFRESH, PAUSE_EXPIRE complete. -/
def Sys2Proof.Machine.holdsAndPausesRunsSays : Prop :=
  ∀ (s : State) (h p q k : Nat) (bw : Bool) (r : Residue) (x : QEnt),
    let d := s.dev
    let on := sget d.swc.paused (9 * p + k) 0
    let due := d.priOn p k = true ∧ ((d.get (MAC.PORT_CFG.PAUSE_MODE p) = 1 ∧ k = 8) ∨ (d.get (MAC.PORT_CFG.PAUSE_MODE p) = 2 ∧ k < 8)) ∧
      sget d.swc.pauseAt (9 * p + k) 0 + 16777216 / max 1 (d.portGbps p) ≤ d.tick
    h < 2 → q < 16 →
    (d.swc.residues = [r] → r.half = h → d.portOn r.port = true → r.due ≤ d.tick → ownBufs d r.adm.pkt →
      completes (.residueRetry h bw) s (fun e => e.swc.residues = [] ∧ e.swc.queues = d.swc.queues ∧ freed d e r.adm.pkt)) ∧
    (p < 265 → d.portOn p = true → d.is (SWC.PORT_STAT.HOLDING p) = true → sget d.swc.downAt p 0 + d.get (SWC.PORT_CFG.DOWN_HOLD p) * 1000000 ≤ d.tick →
      completes (.downHoldExpire p) s (fun e => e.is (SWC.PORT_STAT.HOLDING p) = false)) ∧
    (p < 265 → d.portOn p = true → (d.queue p q).ents = [x] → d.aged p q x = true → completes (.residencyScan p q) s (fun e => (e.queue p q).ents = [])) ∧
    (p ≤ 256 → due → completes (.pauseRefresh p k) s (fun e => e.swc.pauseReq = d.swc.pauseReq ++ [(p, k, true)])) ∧
    (k ≤ 8 → d.portOn p = true → on ≠ 0 → on ≤ d.tick + 1 → completes (.pauseExpire p k) s (fun e => sget e.swc.paused (9 * p + k) 0 = 0))

/-- R310, R399, R403, R407, R408: where D2D_FLIT_CRC_ERROR, D2D_GROUP_FAIL, HBM_CMD_RETRY, HBM_RETRY_FAIL, ROW_REPAIR_DONE, TRACKER_WINDOW_END complete. -/
def Sys2Proof.Machine.retriesAndTrackerRunsSays : Prop :=
  ∀ (s : State) (g x cut k a dt l cls loc : Nat) (c : Cross) (y : Track),
    let d := s.dev
    let t := d.hbmTry k
    let tried := d.d2dTry g
    let ends := if dt = 0 then 0 else d.tick + dt
    g < 16 → k < 4 →
    (bit (d.get (SWC.HALF_STAT.GROUP_FAIL 0)) g = false → tried.n = 0 → d.flt.tracks = [] → d.flt.retired = [] → 1 < d.get (GLB.FLT_CFG.THRESH 8) →
      completes (.d2dFlitCrcError g (x, dt)) s (fun e => e.swc = d.swc ∧ e.d2dTry g = ⟨1, x, d.tick, ends⟩)) ∧
    (tried.n = 17 → bit (d.get (SWC.HALF_STAT.GROUP_FAIL 0)) g = false → d.swc.crosses = [c] → c.laneGroup = g → (∃ j, j < 16 ∧ j ≠ g ∧
      bit (d.get (SWC.HALF_STAT.GROUP_FAIL 0)) j = false) → completes (.d2dGroupFail g cut) s (fun e => bit (e.get (SWC.HALF_STAT.GROUP_FAIL 0)) g = true ∧
      bit (e.get (SWC.HALF_STAT.GROUP_FAIL 1)) g = true ∧ raised e EV_D2D_GROUP_FAIL)) ∧
    (a < 0x2000000000 → locStack (hbmLoc a) = k → t.n < 8 → t.n ≠ 0 → t.loc = a → t.endAt = 0 → d.tick < t.t0 + 2000 →
      completes (.hbmCmdRetry k (a, dt)) s (fun e => e.hbmTry k = { t with n := t.n + 1, endAt := ends })) ∧
    (t.n = 8 → d.halfOn (k / 2) = true → completes (.hbmRetryFail k 3 0 0 []) s (fun e => e.is (HBC.ERR_LOG.VALID k) = true ∧ raised e (EV_HBC_RETRY_FAIL (k / 2)) ∧
      e.hbmTry k = {} ∧ e.badAt (t.loc / 8 * 8) = 3)) ∧
    (l ∈ d.flt.repairs → d.halfOn (l / 2 ^ 30 % 2) = true → d.flt.posted = [] → completes (.rowRepairDone l) s (fun e => l ∉ e.flt.repairs ∧
      raised e (EV_HBC_ROW_RETIRED (l / 2 ^ 30 % 2)))) ∧
    (y ∈ d.flt.tracks → y.cls = cls → y.loc = loc → d.trackOver y = true → completes (.trackerWindowEnd cls loc) s (fun e => memSame d e ∧ regsSame d e [] ∧
      ∀ z ∈ e.flt.tracks, z.cls ≠ cls ∨ z.loc ≠ loc))

/-- R404, R405, R411, R412, R415: where MAP_WRITE, PS_DEFER_RETRY, PS_READ, PS_WRITE, UNRETIRE, PS_CMD_DONE, PWR_FAIL_ASSERT, PWR_FAIL_DEASSERT complete. -/
def Sys2Proof.Machine.persistentStoreRunsSays : Prop :=
  ∀ (s : State) (i mv v : Nat) (m : MapW) (rest : List MapW) (c : HostCmd),
    let d := s.dev
    let o := d.psOff
    let ix := d.get NVS.PS_ADDR.WORD % 65536
    let w1 := d.badAt (mapA ix 1)
    let may := d.get GLB.HU_CFG.MODE = 2 ∧ d.flt.pwrFail = false
    let go := d.reaches NVS.PS_CTL.GO ∧ d.is NVS.PS_CTL.DONE = true
    let run := fun (e : Dev) (st : Nat) (l : List Nat) => memSame d e ∧ e.is NVS.PS_CTL.DONE = false ∧
      ∃ c, e.flt.psCmd = some c ∧ c.status = st ∧ c.data = l ∧ c.waiting = false
    let ended := fun (e : Dev) => e.is NVS.PS_CTL.DONE = true ∧ e.get NVS.PS_CTL.STATUS = c.status ∧ e.flt.psCmd = none
    (d.flt.mapQ = m :: rest → m.deferAt = 0 → m.slot = none → may → d.mapFree 65536 0 = some i → completes (.mapWrite mv) s (fun e => e.flt.mapQ = rest ∧
      e.rd64 (mapA i 0) = m.w0 % 2 ^ 64 ∧ e.rd64 (mapA i 1) = m.w1 % 2 ^ 64)) ∧
    (d.flt.psCmd = some c → c.waiting = true → c.at_ + 1000000 ≤ d.tick → may →
      completes (.psDeferRetry true mv) s (fun e => e.flt.psCmd = some { c with waiting := false })) ∧
    (go → d.badAt (psA o) ≠ 2 → completes (.psRead v []) s (fun e => run e 0 [o, d.rd64 (psA o)])) ∧
    (go → 0x800000 ≤ o → may → completes (.psWrite v mv) s (fun e => run e 0 [o, d.get NVS.PS_DATA.DATA])) ∧
    (go → w1 ≠ 2 → d.mapValid ix = true → may → completes (.unretire v mv) s (fun e => run e 0 [0x1000 + 16 * ix + 8, d.rd64 (mapA ix 1) % 2 ^ 63])) ∧
    (d.flt.psCmd = some c → c.waiting = false → c.status = 0 → c.addr ≠ 0 → c.data = [i, v] → completes .psCmdDone s (fun e => stored8 d e (psA i) v ∧ ended e)) ∧
    (d.flt.pwrFail = false → d.boot.flop.op ≠ 2 → d.flt.psCmd = none → completes (.pwrFailAssert false 0) s (fun e => e.flt.pwrFail = true ∧
      e.is NVS.HU_STAT.PF = true ∧ raised e EV_NVS_PWR_FAIL)) ∧
    (d.flt.pwrFail = true → completes .pwrFailDeassert s (fun e => e.flt.pwrFail = false ∧ e.is NVS.HU_STAT.PF = false))

/-- R316, R317: where INCR_WRITE completes. -/
def Sys2Proof.Machine.timeOfDayRunsSays : Prop :=
  ∀ (s : State) (d : Dev) (v : Nat),
    (d.reaches TMU.INCR.INCR → 0xF0000000 ≤ v → v ≤ 0x110000000 → completes (.incrWrite v) ⟨d, s.pending⟩ (fun e => e.get TMU.INCR.INCR = v))

/-- R317, R320, R321, R336: where TIME_STEP_GO, TIME_STEP, ADJ_WRITE, SLEW_COMPLETE, TOD_READ, REF_LOSS, REF_LOCK complete. -/
def Sys2Proof.Machine.timeCommandsRunsSays : Prop :=
  ∀ (s : State) (v op x : Nat),
    let d := s.dev
    let m := 2 ^ 48 * secU
    let ns := d.get TMU.STEP_NS.NS
    let wrong := d.is TMU.STAT.STEP_BUSY = true ∨ 1000000000 ≤ ns ∨ v % 4 = 3
    (d.reaches TMU.STEP_CTL.OP → ¬ wrong → completes (.timeStepGo v) s (fun e => e.is TMU.STAT.STEP_BUSY = true ∧ e.now = d.now ∧
      e.tmu.stepArm = some (v % 4, d.get TMU.STEP_SEC.SEC * secU + ns * 2 ^ 32 + d.get TMU.STEP_NS.FRAC))) ∧
    (d.tmu.legal → d.tmu.stepArm = some (op, x) → x < m →
      completes .timeStep s (fun e => e.now = (if op = 0 then x else if op = 1 then (d.now + x) % m else (d.now + m - x) % m) ∧ e.is TMU.STAT.STEP_BUSY = false ∧
      e.tmu.stepArm = none ∧ raised e EV_TMU_STEP)) ∧
    (d.reaches TMU.ADJ.ADJ → v < 2 ^ 40 → completes (.adjWrite v) s (fun e => e.tmu.slewRem = sgn 40 v ∧ e.get TMU.ADJ.ADJ = v ∧
      e.is TMU.STAT.ADJ_BUSY = decide (sgn 40 v ≠ 0) ∧ e.now = d.now)) ∧
    (d.tmu.slewOn = true → d.tmu.slewRem = 0 → completes .slewComplete s (fun e => e.is TMU.STAT.ADJ_BUSY = false)) ∧
    (d.reaches TMU.TOD_NS.NS → d.tmu.legal → completes .todRead s (fun e => e.host.hostData = [d.tmu.ns] ∧ e.get TMU.TOD_NS.NS = d.tmu.ns ∧
      e.get TMU.TOD_FRAC.FRAC = d.tmu.frac ∧ e.get TMU.TOD_SEC_HI.SEC * 2 ^ 32 + e.get TMU.TOD_SEC_LO.SEC = d.tmu.sec)) ∧
    (d.is TMU.REF_CFG.SRC = true → d.is TMU.STAT.HOLDOVER = false → completes .refLoss s (fun e => e.is TMU.STAT.LOCKED = false ∧ e.is TMU.STAT.HOLDOVER = true ∧
      raised e EV_TMU_REF_LOSS)) ∧
    (d.is TMU.REF_CFG.SRC = true → d.is TMU.STAT.LOCKED = false → completes .refLock s (fun e => e.is TMU.STAT.LOCKED = true ∧ e.is TMU.STAT.HOLDOVER = false ∧
      raised e EV_TMU_REF_LOCK))

/-- R322, R323, R327, R331, R333: where CAPTURE_EDGE, PPS_OUT_RISE, PPS_OUT_FALL, TXTS_POP, BUOY_RELEASE, BUOY_LAUNCH complete. -/
def Sys2Proof.Machine.capturesAndBuoysRunsSays : Prop :=
  ∀ (s : State) (k ph p q : Nat) (x : QEnt) (xs : List QEnt),
    let d := s.dev
    let last := sget d.tmu.capAt k 0
    let t := d.stampRaw ph
    let open_ := d.gateOpen = true ∧ d.is TMU.CTL.RUN = true
    let head := (d.queue p q).ents = x :: xs ∧ d.buoyHead p q = some x ∧ d.effT x.pkt ≤ (d.now : Int) + 2000 * 2 ^ 32 ∧ p < 265 ∧ q < 16
    let next := p < 265 ∧ d.linkUp p = true ∧ d.is (SWC.PORT_CFG.EN p) = true ∧ d.is (MAC.PORT_CFG.TX_EN p) = true ∧ sget d.mac.tx p none = none ∧
      sget d.tmu.buoys p [] = [x] ∧ d.shapeOk p x.pkt.frameLen = true ∧ x.pkt.late = false ∧ d.startsNow p ph x = true ∧ x.q < 16 ∧ (x.gPort < 265 ∨ x.gPort = 511)
    k < 3 →
    ((last = 0 ∨ last + 100 < d.tick + 1) → d.capEn k = true → d.is TMU.CTL.RUN = true → d.get (TMU.CAP_ADJ.ADJ k) = 0 →
      completes (.captureEdge k ph) s (fun e => e.is (TMU.CAP_SEC.VALID k) = true ∧ e.get (TMU.CAP_NS.NS k) = stampNs t ∧
      raised e (if k = 0 then EV_TMU_PPS_IN else EV_TMU_CAPTURE) ∧ (d.is (TMU.CAP_SEC.VALID k) = true → e.is (TMU.CAP_SEC.OVERRUN k) = true))) ∧
    (d.is TMU.CTL.RUN = true → d.is TMU.CTL.PPS_OUT_EN = true → d.tmu.ppsOut = false → d.passesOfs = true → d.tmu.ppsRiseAt = 0 →
      completes .ppsOutRise s (fun e => e.tmu.ppsOut = true ∧ e.tmu.ppsRiseAt = d.tick + 1)) ∧
    (d.tmu.ppsOut = true → d.tmu.ppsRiseAt + d.get TMU.PPS_CFG.WIDTH * 1000 ≤ d.tick + 1 → completes .ppsOutFall s (fun e => e.tmu.ppsOut = false)) ∧
    (p < 257 → d.reaches (TMU.TXTS.W p 2) → completes (.txtsPop p) s (fun e => e.host.hostData = [d.txtsWord p 2] ∧
      sget e.tmu.txts p [] = (sget d.tmu.txts p []).drop 1)) ∧
    (open_ → head → d.tooLate p 0 x.pkt = false → completes (.buoyRelease p q) s (fun e => (e.queue p q).ents = xs ∧
      sget e.tmu.buoys p [] = sget d.tmu.buoys p [] ++ [{ x with q := q, pkt := { x.pkt with late := false } }])) ∧
    (open_ → next → d.tooLate p ph x.pkt = false → completes (.buoyLaunch p ph) s (fun e => sget e.tmu.buoys p [] = [] ∧
      sget e.mac.tx p none = some { x with start := some (d.txStamp p ph) }))

/-- Where each command of the flow store, patching, pools, switch, faults and time completes: `faceLookupRunsSays`, `flowUpdateRunsSays`, `faceMissesRunsSays`, `benchLookupsRunsSays`, `benchMergesRunsSays`, `timeoutsAndFlushRunsSays`, `agingAndDeletionRunsSays`, `quarryCommandsRunsSays`, `patchCommandsRunsSays`, `poolsAndCommandsRunsSays`, `releaseQRunsSays`, `admissionRunsSays`, `leavingRunsSays`, `holdsAndPausesRunsSays`, `retriesAndTrackerRunsSays`, `persistentStoreRunsSays`, `timeOfDayRunsSays`, `timeCommandsRunsSays`, `capturesAndBuoysRunsSays`. -/
def Obligations.StoresComplete : Prop :=
  faceLookupRunsSays ∧ flowUpdateRunsSays ∧ faceMissesRunsSays ∧ benchLookupsRunsSays ∧ benchMergesRunsSays ∧
  timeoutsAndFlushRunsSays ∧ agingAndDeletionRunsSays ∧ quarryCommandsRunsSays ∧ patchCommandsRunsSays ∧
  poolsAndCommandsRunsSays ∧ releaseQRunsSays ∧ admissionRunsSays ∧ leavingRunsSays ∧ holdsAndPausesRunsSays ∧
  retriesAndTrackerRunsSays ∧ persistentStoreRunsSays ∧ timeOfDayRunsSays ∧ timeCommandsRunsSays ∧
  capturesAndBuoysRunsSays

/-- R6, R338, R339, R340, R448: where COLD_RESET, SOFT_RESET, RESET_RELEASE, VCORE_DIP, VCORE_RECOVER complete. -/
def Sys2Proof.Machine.resetsRunsSays : Prop :=
  ∀ (s : State) (straps key mv : Nat),
    let d := s.dev
    let pf := NVS.HU_STAT.PF.key
    let reset := fun (e : Dev) => regsReset e [pf] ∧ blocksReset e ∧ storeKept d e ∧ e.boot.phase = .reset ∧ e.held = true ∧
      e.boot.progHash = d.boot.progHash ∧ e.boot.progSig = d.boot.progSig
    let released := fun (e : Dev) => e.boot.phase = .hbm ∧ e.get GLB.BOOT_STAT.STATE = 1 ∧ e.get GLB.BOOT_STAT.BOOT = straps % 4 ∧
      e.is GLB.BOOT_STAT.SIG_FUSE = d.boot.progSig ∧ e.boot.keyHash = d.boot.progHash ∧ memSame d e
    let soft := [pf, GLB.BOOT_CTL.NEXT.key, GLB.BOOT_STAT.BOOT.key, GLB.BOOT_STAT.XSPI_SPEED.key, GLB.BOOT_STAT.SIG_FUSE.key, GLB.BOOT_STAT.STATE.key]
    completes (.coldReset false 0) s (fun e => reset e ∧ e.pin.sysResetN = false) ∧
    (d.reaches GLB.RESET.GO → key % 2 ^ 16 = 0x5120 → completes (.softReset key false 0) s (fun e => regsReset e soft ∧ blocksReset e ∧ storeKept d e ∧
      e.boot.phase = .hbm ∧ e.get GLB.BOOT_STAT.STATE = 1 ∧ e.get GLB.BOOT_CTL.NEXT = d.get GLB.BOOT_CTL.NEXT % 4 ∧
      e.get GLB.BOOT_STAT.BOOT = d.get GLB.BOOT_STAT.BOOT % 4)) ∧
    (d.pin.sysResetN = false → d.pwr.dip = none → completes (.resetRelease straps) s (fun e => released e ∧ e.pin.sysResetN = true)) ∧
    (d.pwr.dip = none → mv < 600 → completes (.vcoreDip mv false 0) s (fun e => reset e ∧ e.pwr.dip = some d.tick)) ∧
    (∀ t, d.pwr.dip = some t → t + 10000000 ≤ d.tick → 620 < mv → d.pin.sysResetN = true → completes (.vcoreRecover mv straps) s (fun e => released e ∧
      e.pwr.dip = none))

/-- R40, R341, R342, R346, R353, R354, R406: where HBM_INIT_DONE, RETIREMENT_MAP_APPLY, HEADER_READ_DONE, IMAGE_READ_DONE, SIG_VERIFY_DONE, OWN_CHECK_DONE complete. -/
def Sys2Proof.Machine.bootStepsRunsSays : Prop :=
  ∀ (s : State) (dens sec page c : Nat),
    let d := s.dev
    let img := d.candImage c
    let d3 := d.candImage 3
    (d.boot.phase = .hbm → 23 ≤ dens → dens ≤ 28 → completes (.hbmInitDone true 0 dens sec page) s (fun e => bootAt e .retire 2 ∧ e.is NVS.FL_INFO.PRESENT = true ∧
      e.get NVS.FL_INFO.DENSITY_LOG2 = dens ∧ e.boot.hbmOk = true)) ∧
    (d.boot.phase = .retire → d.rd64 (psA 0) ≠ psMagic → d.bootStrap ≠ 3 → d.boot.flashErr = 0 → completes (.retirementMapApply []) s (fun e => bootAt e .headers 3)) ∧
    (d.boot.phase = .headers → d.flt.pwrFail = false → d.bootStrap = c → (c = 1 ∨ c = 2) → completes .headerReadDone s (fun e => e.boot.cands = [c] ∧
      bootAt e .image 3)) ∧
    (d.boot.phase = .image → d.flt.pwrFail = false → d.boot.cands = [c] → d.candErr c = 0 → imgErr img (d.candMax c) = none →
      completes .imageReadDone s (fun e => bootAt e (if d.boot.sigEn then .verify else .own) 4 ∧ e.boot.table = imgTable img)) ∧
    (d.boot.phase = .verify → sigErr d.boot.keyHash d3 = 0 → completes .sigVerifyDone s (fun e => bootAt e .own 4)) ∧
    (d.boot.phase = .own → d.ownLoad d3 = none → completes .ownCheckDone s (fun e => bootAt e .apply 5 ∧ e.boot.applyAt = (0, 0) ∧ (∀ n, n < 105 →
      e.is (GLB.PART_CTL.ACTIVE n) = false) ∧ ((∀ n, n < 105 → d.is (GLB.PART_CTL.ACTIVE n) = false) → memSame d e)))

/-- R345, R347, R350: where IMAGE_APPLY_DONE, BOOT_LOAD, BOOT_OPEN complete. -/
def Sys2Proof.Machine.bootApplyAndControlRunsSays : Prop :=
  ∀ (s : State) (v k : Nat) (d1 : Dev),
    let d := s.dev
    let img := d.candImage 3
    let r := d.applyEnts img d.boot.applyAt.1 d.boot.applyAt.2 (((imgTable img).map entOf).drop d.boot.applyAt.1)
    let ctl := d.reaches GLB.BOOT_CTL.NEXT
    let opened := fun (e : Dev) (l : Nat) => bootAt e .none 6 ∧ e.gateOpen = true ∧ e.get GLB.BOOT_STAT.LOADED = l % 4 ∧ raised e EV_BOOT_DONE
    (d.boot.phase = .apply → r = (d1, k, .ok) → completes .imageApplyDone s (fun e => opened e (d1.boot.cands.headD 0) ∧
      e.get GLB.BOOT_SEQ.SEQ = le img 8 4 % 2 ^ 32)) ∧
    (ctl → d.hostMayBoot = true → d.boot.hbmOk = true → imgErr img 0x8000000 = none → completes (.bootLoad v) s (fun e => e.boot.cands = [3] ∧
      bootAt e (if d.boot.sigEn then .verify else .own) 4)) ∧
    (ctl → d.hostMayBoot = true → d.boot.sigEn = false → completes (.bootOpen v) s (fun e => opened e 0))

/-- R357, R360, R414: where FL_RELOAD, RELOAD_DONE, FL_WRITE, FLASH_OP_DONE, FLASH_DEFER_RETRY, FLASH_BUSY_TIMEOUT, FLASH_READ_TIMEOUT complete. -/
def Sys2Proof.Machine.flashCommandsRunsSays : Prop :=
  ∀ (s : State) (i slot mv : Nat),
    let d := s.dev
    let go := d.reaches NVS.FL_CTL.GO ∧ d.is NVS.FL_CTL.DONE = true
    let op := d.boot.flop
    let ended := fun (e : Dev) (st : Nat) => e.get NVS.FL_CTL.STATUS = st ∧ e.is NVS.FL_CTL.DONE = true ∧ e.boot.flop.op = 0
    let may := d.get GLB.HU_CFG.MODE = 2 ∧ d.flt.pwrFail = false
    let ent := entOf (nthD d.boot.table op.section_ [])
    let bs := d.flashBytes (d.slotBase (d.get GLB.BOOT_STAT.LOADED - 1) + ent.off) ent.len
    let run := op.op = 2 ∧ op.deferAt = 0
    let stale := fun (e : Dev) => op.slot < 2 → e.candErr (op.slot + 1) = 3
    let n := 2 ^ d.boot.sectorLog
    let b := (d.slotBase op.slot + op.pos) / n * n
    i < 1024 → slot < 2 →
    (go → d.reloadRefusal i = 0 → completes (.flReload i) s (fun e => e.boot.flop = { op := 1, section_ := i } ∧ e.is NVS.FL_CTL.DONE = false)) ∧
    (op.op = 1 → d.flt.pwrFail = false → fcsOf bs = ent.crc → d.boot.sigEn = false → completes .reloadDone s (fun e => ended e 0)) ∧
    (go → d.writeRefusal slot = 0 → may → completes (.flWrite slot mv) s (fun e => e.is NVS.FL_CTL.DONE = false ∧
      e.boot.flop = { op := 2, slot := slot, step := 1 })) ∧
    (run → (op.step = 1 ∨ op.step = 2) → completes (.flashOpDone mv []) s (fun e => (∀ a, b ≤ a → a < b + n → sget e.boot.flash a 0xFF = 0xFF))) ∧
    (op.op = 2 → op.step = 1 → op.deferAt ≠ 0 → op.deferAt + 1000000 ≤ d.tick + 1 → may →
      completes (.flashDeferRetry mv) s (fun e => e.boot.flop = { op with deferAt := 0 })) ∧
    (run → op.step ≠ 4 → completes .flashBusyTimeout s (fun e => ended e 0x44 ∧ stale e)) ∧
    (op.reads = true → completes .flashReadTimeout s (fun e => ended e 0x12 ∧ stale e))

/-- R370, R372, R374, R375, R376: where IDENT, BEACON, BOOT, TEMP_MAX, TEMP_H0, TEMP_H1, VCORE_REQ, VCORE_MEAS, POWER, PACE_MIN, HEALTH, SMBUS_NAK, SMBUS_SCL_TIMEOUT complete. -/
def Sys2Proof.Machine.monitorCommandsRunsSays : Prop :=
  ∀ (s : State) (pec : Bool) (t t1 : Int),
    let d := s.dev
    let hears := d.inReset = false ∧ d.host.balls = false
    let sends := fun (i : Instr) (bs : List Byte) => completes i s (fun e => sentBytes d e pec bs)
    let word := fun (i : Instr) (ok : Nat → Prop) => completes i s (fun e => ∃ v, ok v ∧ sentBytes d e pec (natLE 2 v))
    let pace := fun k => d.get (PWR.PACE_STAT.PACE k)
    (hears → sends (.ident pec) ([12] ++ natLE 4 (0x01512000 + if Config.isES then 0xE else 1) ++ natLE 8 Config.uid.toNat)) ∧
    (hears → completes (.beacon pec) s (fun e => ∃ v, sentBytes d e pec ([4] ++ natLE 4 v) ∧ ∀ g, g < 32 →
      (bit v g = true ↔ Nat.land (d.get (GLB.EVT_STAT.STAT g)) (65535 - d.get (GLB.EVT_MASK.MASK g)) ≠ 0))) ∧
    (hears →
      sends (.boot pec) ([4] ++ natLE 4 (d.get GLB.BOOT_STAT.STATE + d.get GLB.BOOT_STAT.BOOT * 2 ^ 4 + d.get GLB.BOOT_STAT.XSPI_SPEED * 2 ^ 6 + d.get GLB.BOOT_STAT.SIG_FUSE * 2 ^ 7 + d.get GLB.BOOT_STAT.LOADED * 2 ^ 8 + d.get GLB.BOOT_STAT.FALLBACK * 2 ^ 10 + d.get GLB.BOOT_STAT.ERR_FIRST * 2 ^ 16 + d.get GLB.BOOT_STAT.ERR_LAST * 2 ^ 24))) ∧
    (hears → sends (.tempMax pec t t1) (natLE 2 (toWord 16 (max t t1)))) ∧
    (hears → sends (.tempH0 pec t) (natLE 2 (toWord 16 t))) ∧
    (hears → sends (.tempH1 pec t) (natLE 2 (toWord 16 t))) ∧
    (hears → sends (.vcoreReq pec) (natLE 2 (d.get PWR.AVS_STAT.V_REQ))) ∧
    (hears → word (.vcoreMeas pec) (fun v => v ≤ d.pwr.vMeas + 10 ∧ d.pwr.vMeas ≤ v + 10)) ∧
    (hears → word (.power pec) (fun _ => True)) ∧
    (hears → word (.paceMin pec) (fun v => (∀ k, k < 8 → d.sliceParked k = false → v ≤ pace k) ∧ ((∃ k, k < 8 ∧ d.sliceParked k = false) → ∃ k, k < 8 ∧
      d.sliceParked k = false ∧ v = pace k))) ∧
    (hears → completes (.health pec) s (fun e => ∃ v, v < 16 ∧ sentBytes d e pec (natLE 1 v) ∧ (bit v 0 = true ↔ ∃ k, k < 8 ∧
      d.is (PWR.PACE_STAT.LOW_ACTIVE k) = true) ∧ bit v 1 = d.is PWR.AVS_STAT.NO_REPLY ∧ bit v 2 = d.thermalLimit ∧
      (bit v 3 = true ↔ d.get GLB.BOOT_STAT.STATE = 8))) ∧
    completes .smbusNak s (fun e => e = { d with host.bus := [] }) ∧
    completes .smbusSclTimeout s (fun e => e = { d with host.bus := [] })

/-- R373, R376: where GPIO_FN_WRITE, EXTEST, SAMPLE_PRELOAD, IDCODE, HIGHZ, CLAMP, EXTEST_PULSE, EXTEST_TRAIN, BYPASS, TAP_RESET complete. -/
def Sys2Proof.Machine.pinsAndTapRunsSays : Prop :=
  ∀ (s : State) (i v cells code : Nat),
    let d := s.dev
    let fn := v % 8
    let f := GLB.GPIO_FN.FN i
    let used := 1 ≤ fn ∧ fn ≤ 4 ∧ ∃ j, j < 16 ∧ j ≠ i ∧ d.get (GLB.GPIO_FN.FN j) = fn
    let tap := fun (e : Dev) (ir : Nat) => e.host.tapIr = ir
    let took := fun (e : Dev) (ir : Nat) (floating : Bool) => tap e ir ∧ e.host.balls = true ∧ e.host.floating = floating ∧ e.boot = d.boot ∧
      (∀ j, j < 16 → (e.gpioDriven j = !floating) ∧ (floating = false → e.gpioLevel j = Config.cellLevel e.host.cells j)) ∧
      (d.swc.queues = [] → d.tmu.buoys = [] → d.mac.tx = [] → memSame d e ∧ ∀ p, p < 257 → e.linkUp p = false)
    let free := { d with host.tapIr := 2, host.balls := false, host.floating := false }
    (i < 16 → d.reaches f → ¬ used → completes (.gpioFnWrite i v) s (fun e => e.get f = fn)) ∧
    completes (.extest cells) s (fun e => took e 0 false ∧ e.host.cells = cells) ∧
    completes (.samplePreload cells) s (fun e => e = { d with host.tapIr := 1, host.cells := cells, host.tapData := e.host.tapData, freeCtr := e.freeCtr }) ∧
    completes .idcode s (fun e => e = { d with host.tapIr := 2, host.tapData := 0x0512074B }) ∧
    completes .highz s (fun e => took e 3 true) ∧
    completes .clamp s (fun e => took e 4 false ∧ e.host.cells = d.host.cells) ∧
    completes (.extestPulse cells) s (fun e => took e 5 false ∧ e.host.cells = cells) ∧
    completes (.extestTrain cells) s (fun e => took e 6 false ∧ e.host.cells = cells) ∧
    (code ∉ [0, 1, 2, 3, 4, 5, 6, 0x30, 0x31] → code < 256 → completes (.bypass code) s (fun e => e = { d with host.tapIr := 0xFF, host.tapData := 0 })) ∧
    (d.host.balls = false → completes .tapReset s (fun e => e = free))

/-- R339, R377: where PROG_HASH, PROG_SIG, FUSE_READ, FUSE_CMD_DONE complete. -/
def Sys2Proof.Machine.fuseCommandsRunsSays : Prop :=
  ∀ (s : State) (h : Nat),
    let d := s.dev
    let b := d.boot
    let mayBoot := d.get GLB.BOOT_STAT.STATE = 7 ∨ d.get GLB.BOOT_STAT.STATE = 8
    let idle := b.fuseCmd = none
    let reads := { d.host with tapIr := 0x30, tapData := b.progHash % 2 ^ 384 + b2n b.progSig * 2 ^ 384 + b.fuseStatus % 256 * 2 ^ 392 }
    let runs := fun (e : Dev) (c v : Nat) => e = { d with host := reads, boot := { b with fuseCmd := some (c, v), fuseAt := d.tick, fuseStatus := 1 } }
    (idle → mayBoot → b.progHash = 0 → completes (.progHash h) s (fun e => runs e 1 (h % 2 ^ 384))) ∧
    (idle → mayBoot → b.progHash ≠ 0 → b.progSig = false → completes .progSig s (fun e => runs e 2 0)) ∧
    (idle → mayBoot → completes .fuseRead s (fun e => runs e 3 0)) ∧
    (b.fuseCmd = some (1, h) → b.fuseAt + 20000000 ≤ d.tick →
      completes .fuseCmdDone s (fun e => e = { d with boot := { b with fuseCmd := none, fuseStatus := 0, progHash := h } }))

/-- R207, R379: where HALT, DBG_RESUME, STEP, HALT_ALL, RESUME_ALL complete. -/
def Sys2Proof.Machine.debugCommandsRunsSays : Prop :=
  ∀ (s : State) (c t : Nat) (rel : Bool),
    let d := s.dev
    let n := 64 * c + t
    let x := d.ctx n
    let st := DBG.CMD.STATUS c
    let keys := [(DBG.CMD.OP c).key, (DBG.CMD.CONTEXT c).key, st.key]
    let halt : Instr := if rel then .haltRelease c t else .halt c t
    let others := fun (e : Dev) => ∀ m, m ≠ n → e.ctx m = d.ctx m
    let ends := fun (e : Dev) (code : Nat) (y : Ctx) => e.get st = code ∧ e.ctx n = y ∧ others e ∧ memSame d e ∧ regsSame d e keys
    let between := x.st = .waitEvent ∨ x.st = .keeperIdle ∨ (x.st = .ready ∧ x.cur = none)
    let goes := fun (y : Ctx) => { y with st := .ready, byBp := false, skipBp := y.byBp, relHalt := false }
    let stops := fun (y : Ctx) => match y.st with
      | .free => CtxSt.free | .faulted => .faulted | .halted => .halted | .waitEvent => .halted | .keeperIdle => .halted
      | .ready => if y.cur.isNone then .halted else .ready
      | .waitMem => .waitMem
    c < 64 → t < 64 → d.reaches (DBG.CMD.OP c) → d.is (DBG.CMD.DONE c) = true → d.get (DBG.CTL.OWNER c) = 0 → d.eng.stepCmd = [] →
    (between → x.chan = none → x.held = none → completes halt s (fun e => ends e 0 (haltedCtx x rel))) ∧
    (x.st = .halted → x.chanLost = false → completes (.dbgResume c t) s (fun e => ends e 0 (goes x))) ∧
    (x.st = .halted → x.chanLost = false → completes (.step c t) s (fun e => e.is (DBG.CMD.DONE c) = false ∧ others e ∧
      e.ctx n = { x with st := .ready, byBp := false, skipBp := true, stepping := true } ∧ sget e.eng.stepCmd c 0 = n + 1)) ∧
    completes (.haltAll c) s (fun e => e.get st = 0 ∧ (e.ctx n).st = stops x) ∧
    (x.chanLost = false → completes (.resumeAll c) s (fun e => e.get st = 0 ∧ e.ctx n = (if x.st = .halted then goes x else x)))

/-- R378, R381: where DBG_ACCESS, DBG_CTL_WRITE complete. -/
def Sys2Proof.Machine.debugPortRunsSays : Prop :=
  ∀ (s : State) (c t v : Nat),
    let d := s.dev
    let n := 64 * c + t
    let own := DBG.CTL.OWNER c
    let forn := DBG.CTL.FOREIGN c
    let o := 0x10000 * c + 0x1000 + 0x200 * t + 0x140
    let idle := ∀ m, m < 64 → (d.ctx (64 * c + m)).st ≠ .halted
    c < 64 → t < 64 →
    (d.clusterParked c = false → completes (.dbgAccess false o v) s (fun e => e.host.tapData = d.stateWord n)) ∧
    (d.reaches own → d.get own = 0 → completes (.dbgCtlWrite c v) s (fun e => e.get (DBG.CTL.BRK_EN c) = v / 2 % 2 ∧ e.get (DBG.CTL.BP_RELEASE c) = v / 4 % 2 ∧
      e.get (DBG.CTL.HOLD_DISPATCH c) = v / 8 % 2 ∧ e.get forn = (if v / 16 % 2 = 1 then 0 else d.get forn) ∧ (idle → e.get own = v % 2)))

/-- R386, R387, R389: where POWER_ON, PARK, POWER_OFF, PARK_DELAY_RETRY complete. -/
def Sys2Proof.Machine.powerRequestsRunsSays : Prop :=
  ∀ (s : State) (v : Nat),
    let d := s.dev
    let k := bits v 2 0
    let i := bits v 10 4
    let r := d.pwr.pwr
    let valid := k < 5 ∧ i < domCount k
    let runs := fun (e : Dev) (p : PwrPhase) => memSame d e ∧ e.pwr.pwr.phase = p ∧ e.is PWR.REQ_STAT.DONE = false
    let clear := fun c => sget d.eng.dq c [] = [] ∧ d.ordOf c = [] ∧ ∀ n, n / 64 = c → (d.ctx n).st = .free
    let again := r.phase = .asking ∧ r.delayed = true ∧ r.askedAt + 10000 ≤ d.tick ∧ r.kind = 0 ∧ r.pos = 0
    let asks := d.reaches PWR.REQ.KIND ∧ d.is PWR.REQ_STAT.DONE = true ∧ r.phase = .idle
    (asks → valid → (k ≠ 1 ∨ d.is PWR.SL_STATE.TRIPPED = false) → (∃ x, x ∈ domPath k i ∧ d.domOff x.1 x.2 = true) →
      completes (.powerOn v) s (fun e => runs e .exiting ∧ e.is PWR.WAKE_STAT.VALID = true ∧ e.get PWR.WAKE_STAT.SOURCE = 0 ∧ raised e EV_PWR_WAKE)) ∧
    (asks → k = 0 → i < 64 → d.domOff 0 i = false → clear i → completes (.park v) s (fun e => runs e .entering ∧ e.pwr.pwr.index = i ∧ e.pwr.pwr.target = 1)) ∧
    (asks → k = 1 → i < 32 → d.octetSt i ≠ 2 → (∀ j, j < 8 → sget d.mac.tx (8 * i + j) none = none) →
      completes (.powerOff v) s (fun e => e.pwr.pwr.phase = .entering ∧ e.pwr.pwr.kind = 1 ∧ e.pwr.pwr.index = i ∧ e.pwr.pwr.target = 2)) ∧
    (again → clear r.index → completes .parkDelayRetry s (fun e => e.pwr.pwr.phase = .entering))

/-- R382, R385, R388, R390: where DOMAIN_ENTRY_DONE, DOMAIN_EXIT_DONE, ENGINE_DOZE, LINE_ENERGY_WAKE complete. -/
def Sys2Proof.Machine.domainChangesRunsSays : Prop :=
  ∀ (s : State) (i : Nat),
    let d := s.dev
    let r := d.pwr.pwr
    let dozes := d.clusterOn (i / 8) = true ∧ d.is (ENG.MODE.SLEEP_EN (i / 8) (i % 8)) = true ∧ sget d.pwr.dozing i 0 = 0 ∧
      (∀ j, j < 8 → (d.ctx (8 * i + j)).st.idle = true) ∧ sget d.eng.kq i [] = [] ∧ (∀ t ∈ d.qry.txns, t.ctx = 0 ∨ (t.ctx - 1) / 8 ≠ i) ∧ sget d.eng.idleAt i 0 + 10 * d.get (ENG.MODE.IDLE_DELAY (i / 8) (i % 8)) ≤ d.tick
    let cl := PWR.CL_STATE.PARKED
    (r.phase = .entering → r.kind = 0 → r.index < 64 → r.target = 1 → completes .domainEntryDone s (fun e => pwrEnded e (if r.woken then 2 else 0) ∧
      bit (e.get cl) r.index = true ∧ (r.woken = true → (0, r.index) ∈ e.pwr.waking))) ∧
    (i < 64 → (0, i) ∈ d.pwr.waking → completes (.domainExitDone 0 i) s (fun e => bit (e.get cl) i = false ∧ (0, i) ∉ e.pwr.waking ∧ (r.phase = .exiting →
      r.need = [(0, i)] → pwrEnded e 0) ∧ (r.phase ≠ .exiting → e.pwr.pwr = r))) ∧
    (i < 512 → dozes → completes (.engineDoze i) s (fun e => e = { d with pwr := { d.pwr with dozing := sset d.pwr.dozing i 1 0 } })) ∧
    (i < 32 → r.phase = .idle → d.octetSt i = 1 → bit (d.get PWR.WAKE_CFG.EN) i = true → d.is PWR.SL_STATE.TRIPPED = false →
      completes (.lineEnergyWake i) s (fun e => e.is PWR.WAKE_STAT.VALID = true ∧ e.get PWR.WAKE_STAT.SOURCE = 1 ∧ e.get PWR.WAKE_STAT.OCTET = i ∧
      raised e EV_PWR_WAKE))

/-- R376, R391, R393: where GOVERNOR_PERIOD, AVS_RESPONSE, AVS_RETRY complete. -/
def Sys2Proof.Machine.voltageAndPaceRunsSays : Prop :=
  ∀ (s : State) (mv v : Nat) (paces : List Nat),
    let d := s.dev
    let p := d.pwr
    let pace := fun k => min (nthD paces k 0) 1023
    let due := p.govAt + d.get PWR.PACE_CFG.PERIOD_US * 1000 ≤ d.tick + 1
    let settled := p.avsAckAt = 0 ∨ p.avsAckAt + 200000 ≤ d.tick + 1
    let wait := if d.is PWR.AVS_STAT.NO_REPLY then 10000000 else 100000
    (due → settled → completes (.governorPeriod paces) s (fun e => (∀ k, k < 8 → d.sliceOn k = true → e.get (PWR.PACE_STAT.PACE k) = pace k ∧
      e.is (PWR.PACE_STAT.PARKED k) = false) ∧ (∀ k, k < 8 → d.sliceOn k = false → e.is (PWR.PACE_STAT.PARKED k) = true))) ∧
    (p.avsPend = some v → v < 65536 → d.host.balls = false → completes (.avsResponse mv) s (fun e => e.get PWR.AVS_STAT.V_ACK = v ∧
      e.is PWR.AVS_STAT.NO_REPLY = false ∧ (e.is PWR.AVS_STAT.AT_MAX = true ↔ v = d.get PWR.AVS_CFG.VMAX_MV) ∧ e.pwr.avsPend = none ∧ e.pwr.vMeas = mv % 65536)) ∧
    (d.is PWR.AVS_CFG.EN = true → p.avsPend = some v → p.avsAt + wait ≤ d.tick → p.avsFails < 3 →
      completes .avsRetry s (fun e => e = { d with pwr := { p with avsAt := d.tick, avsFails := p.avsFails + 1 } }))

/-- R395: where THERMAL_WARN, THERMAL_LIMIT, THERMAL_TRIP, THERMAL_TRIP_CLEAR, THERMAL_LIMIT_CLEAR complete. -/
def Sys2Proof.Machine.thermalResponseRunsSays : Prop :=
  ∀ (s : State) (h : Nat) (t t1 : Int),
    let d := s.dev
    let p := d.pwr
    let warn : Int := d.get PWR.THERM_CFG.WARN
    let limit : Int := d.get PWR.THERM_CFG.LIMIT
    let temp := fun (e : Dev) => (if h = 0 then e.pwr.tempH0 else e.pwr.tempH1) = t
    h < 2 →
    (warn ≤ t → sget p.thermWarn h 0 ≠ 1 → completes (.thermalWarn h t) s (fun e => temp e ∧ raised e EV_THERMAL_WARN ∧ sget e.pwr.thermWarn h 0 = 1)) ∧
    (limit ≤ t → completes (.thermalLimit h t) s (fun e => temp e ∧ e.thermalLimit = true ∧ (sget p.thermLim h 0 = 0 → raised e EV_THERMAL_LIMIT))) ∧
    (115 ≤ t → d.is PWR.SL_STATE.TRIPPED = false → p.pwr.phase ≠ .exiting → d.swc.queues = [] → d.tmu.buoys = [] → d.mac.tx = [] →
      completes (.thermalTrip h t) s (fun e => temp e ∧ e.is PWR.SL_STATE.TRIPPED = true ∧ raised e EV_THERMAL_TRIP ∧ (p.pwr.kind = 1 → e.pwr.pwr.woken = false))) ∧
    (d.is PWR.SL_STATE.TRIPPED = true → t ≤ limit - 10 → t1 ≤ limit - 10 → completes (.thermalTripClear t t1) s (fun e => e.is PWR.SL_STATE.TRIPPED = false ∧
      e.pwr.tempH0 = t ∧ e.pwr.tempH1 = t1)) ∧
    (sget p.thermLim h 0 = 1 → t < limit → completes (.thermalLimitClear h t) s (fun e => temp e ∧ sget e.pwr.thermLim h 0 = (if t ≤ limit - 2 then 0 else 2) ∧
      sget e.pwr.thermLim (1 - h) 0 = sget p.thermLim (1 - h) 0))

/-- R418, R423: where CTR_SWEEP, CTR_ENABLE, CTR_SYNC complete. -/
def Sys2Proof.Machine.counterReaderRunsSays : Prop :=
  ∀ (s : State) (us v token : Nat),
    let d := s.dev
    let base := fun h => d.get (CTR.ACC_BASE.OFFSET h)
    let late := EV_CTR_SWEEP_LATE
    let en := CTR.CTL.EN
    let off := d.is en = false
    (d.is en = true → d.sweepWaits = false → d.bad = [] → (∀ h, h < 2 → base h < 0x200000000) →
      completes (.ctrSweep us []) s (fun e => e.get CTR.STAT.LAST_US = min us 65535 ∧ (d.get CTR.CTL.SWEEP_US < us →
      e.get CTR.STAT.LATE = min (d.get CTR.STAT.LATE + 1) 65535 ∧ (sget d.evtMs late 0 ≠ d.tick / 1000000 + 1 → raised e late)))) ∧
    (d.reaches en → off → d.accOk 0 = true → d.accOk 1 = true → d.is CTR.CTL.INIT_DONE = true → completes (.ctrEnable v) s (fun e => e.is en = true)) ∧
    (d.reaches CTR.SYNC.TOKEN → d.is en = true → completes (.ctrSync token) s (fun e => e.is CTR.SYNC_DONE.PEND = true ∧ e.get CTR.SYNC.TOKEN = token % 65536))

/-- R9, R427, R428, R430: where BW_WINDOW_END, BW_CFG_WRITE, BW_PEAK_READ complete. -/
def Sys2Proof.Machine.bandwidthWindowsRunsSays : Prop :=
  ∀ (s : State) (l j v : Nat),
    let d := s.dev
    let k := 34 * l + j
    let rx := sget d.ctr.bwRx k 0
    let tx := sget d.ctr.bwTx k 0
    let live := sget d.ctr.bwLive k 0
    let ends := d.is (SCT.BW_CFG.EN l j) = true ∧ d.sliceParked l = false ∧ d.tick % (d.get (SCT.BW_CFG.WIN_US l j) * 1000) = 0 ∧ live ≠ d.tick + 1
    let cleared := fun (e : Dev) => sget e.ctr.bwRx k 0 = 0 ∧ sget e.ctr.bwTx k 0 = 0
    let us := v % 2 ^ 20
    l < 8 → j < 34 →
    (ends → live ≠ 0 → completes (.bwWindowEnd l j) s (fun e => cleared e ∧ sget e.ctr.bwLive k 0 = d.tick + 1 ∧ e.get (SCT.BW_RX.OCTETS l j) = rx % 2 ^ 48 ∧
      e.get (SCT.BW_TX.OCTETS l j) = tx % 2 ^ 48 ∧ e.get (SCT.BW_RX.SEQ l j) = (d.get (SCT.BW_RX.SEQ l j) + 1) % 65536)) ∧
    (d.reaches (SCT.BW_CFG.WIN_US l j) → (j ≠ 32 ∨ l = 0) → 1 ≤ us → us ≤ 1000000 → completes (.bwCfgWrite l j v) s (fun e => e.get (SCT.BW_CFG.WIN_US l j) = us ∧
      e.get (SCT.BW_CFG.WIRE l j) = v / 2 ^ 20 % 2 ∧ e.get (SCT.BW_CFG.EN l j) = v / 2 ^ 21 % 2 ∧ e.get (SCT.BW_CFG.THR l j) = v / 2 ^ 32 % 2 ^ 32)) ∧
    (d.reaches (SCT.BW_PEAK.RX_PEAK l j) →
      completes (.bwPeakRead l j) s (fun e => e.host.hostData = [d.get (SCT.BW_PEAK.RX_PEAK l j) + d.get (SCT.BW_PEAK.TX_PEAK l j) * 2 ^ 32] ∧
      e.get (SCT.BW_PEAK.RX_PEAK l j) = 0 ∧ e.get (SCT.BW_PEAK.TX_PEAK l j) = 0))

/-- Where each command of boot, flash, monitor, TAP, debug, power and counters completes: `resetsRunsSays`, `bootStepsRunsSays`, `bootApplyAndControlRunsSays`, `flashCommandsRunsSays`, `monitorCommandsRunsSays`, `pinsAndTapRunsSays`, `fuseCommandsRunsSays`, `debugCommandsRunsSays`, `debugPortRunsSays`, `powerRequestsRunsSays`, `domainChangesRunsSays`, `voltageAndPaceRunsSays`, `thermalResponseRunsSays`, `counterReaderRunsSays`, `bandwidthWindowsRunsSays`. -/
def Obligations.DeviceComplete : Prop :=
  resetsRunsSays ∧ bootStepsRunsSays ∧ bootApplyAndControlRunsSays ∧ flashCommandsRunsSays ∧ monitorCommandsRunsSays ∧
  pinsAndTapRunsSays ∧ fuseCommandsRunsSays ∧ debugCommandsRunsSays ∧ debugPortRunsSays ∧ powerRequestsRunsSays ∧
  domainChangesRunsSays ∧ voltageAndPaceRunsSays ∧ thermalResponseRunsSays ∧ counterReaderRunsSays ∧
  bandwidthWindowsRunsSays
end

