-- ==== Sys2Proof/Laws/Sparse.lean ====
section
/-! SUPPORT. Laws of sparse data: reading after writing, and the canonical form that every write keeps. -/

namespace Sys2Proof.Machine

variable {α : Type}

@[simp] theorem sget_nil (k : Nat) (x : α) : sget [] k x = x := rfl

theorem sget_sput_self (m : Sparse α) (k : Nat) (v x : α) : sget (sput m k v) k x = v := by
  induction m with
  | nil => simp [sput, sget]
  | cons e m ih =>
    obtain ⟨j, w⟩ := e
    unfold sput
    split
    · simp [sget]
    · split
      · simp [sget]
      · simp [sget, *]

theorem sget_sput_ne (m : Sparse α) {k j : Nat} (v x : α) (h : j ≠ k) : sget (sput m k v) j x = sget m j x := by
  induction m with
  | nil => simp [sput, sget, Ne.symm h]
  | cons e m ih =>
    obtain ⟨i, w⟩ := e
    unfold sput
    split
    · subst_vars; simp [sget, Ne.symm h]
    · split
      · simp [sget, Ne.symm h]
      · simp [sget, ih]

theorem sget_sdel_self (m : Sparse α) (k : Nat) (x : α) : sget (sdel m k) k x = x := by
  induction m with
  | nil => rfl
  | cons e m ih =>
    obtain ⟨j, w⟩ := e
    unfold sdel at ih ⊢
    by_cases h : j = k
    · subst h; simpa [List.filter_cons] using ih
    · simpa [List.filter_cons, h, sget] using ih

theorem sget_sdel_ne (m : Sparse α) {k j : Nat} (x : α) (h : j ≠ k) : sget (sdel m k) j x = sget m j x := by
  induction m with
  | nil => rfl
  | cons e m ih =>
    obtain ⟨i, w⟩ := e
    unfold sdel at ih ⊢
    by_cases hi : i = k
    · subst hi; simpa [List.filter_cons, sget, Ne.symm h] using ih
    · simp only [ne_eq, decide_not] at ih; simp [List.filter_cons, hi, sget, ih]

/-- Reading the key that was written gives the value written. -/
@[simp] theorem sget_sset_self [DecidableEq α] (m : Sparse α) (k : Nat) (v x : α) : sget (sset m k v x) k x = v := by
  unfold sset
  split
  · subst_vars; exact sget_sdel_self m k _
  · exact sget_sput_self m k v x

/-- A write leaves every other key alone. -/
theorem sget_sset_ne [DecidableEq α] (m : Sparse α) {k j : Nat} (v x y : α) (h : j ≠ k) : sget (sset m k v x) j y = sget m j y := by
  unfold sset
  split
  · exact sget_sdel_ne m y h
  · exact sget_sput_ne m v y h

-- The canonical form.

theorem sabove_filter {k : Nat} {m : Sparse α} (p : Nat × α → Bool) (h : sabove k m = true) : sabove k (m.filter p) = true := by
  induction m with
  | nil => rfl
  | cons e m ih =>
    simp only [sabove, Bool.and_eq_true] at h
    by_cases hp : p e
    · simp [List.filter, hp, sabove, h.1, ih h.2]
    · simp [List.filter, hp, ih h.2]

/-- Taking entries out keeps the order. -/
theorem ssorted_filter {m : Sparse α} (p : Nat × α → Bool) (h : ssorted m = true) : ssorted (m.filter p) = true := by
  induction m with
  | nil => rfl
  | cons e m ih =>
    obtain ⟨j, w⟩ := e
    simp only [ssorted, Bool.and_eq_true] at h
    by_cases hp : p (j, w)
    · simp [List.filter, hp, ssorted, sabove_filter p h.1, ih h.2]
    · simp [List.filter, hp, ih h.2]

theorem sabove_trans {i j : Nat} {m : Sparse α} (hij : i < j) (h : sabove j m = true) : sabove i m = true := by
  induction m with
  | nil => rfl
  | cons e m ih =>
    simp only [sabove, Bool.and_eq_true, Nat.blt_eq] at h ⊢
    exact ⟨by omega, ih h.2⟩

theorem sabove_sput {i k : Nat} {m : Sparse α} (v : α) (hik : i < k) (h : sabove i m = true) : sabove i (sput m k v) = true := by
  induction m with
  | nil => simp [sput, sabove, hik]
  | cons e m ih =>
    obtain ⟨j, w⟩ := e
    simp only [sabove, Bool.and_eq_true, Nat.blt_eq] at h
    unfold sput
    split
    · simp [sabove, hik, h.2]
    · split
      · simp [sabove, hik, h.1, h.2]
      · simp [sabove, h.1, ih h.2]

/-- A put keeps the keys rising. -/
theorem ssorted_sput {m : Sparse α} (k : Nat) (v : α) (h : ssorted m = true) : ssorted (sput m k v) = true := by
  induction m with
  | nil => rfl
  | cons e m ih =>
    obtain ⟨j, w⟩ := e
    simp only [ssorted, Bool.and_eq_true] at h
    unfold sput
    split
    · subst_vars; simp [ssorted, h.1, h.2]
    · split
      · rename_i hk; simp [ssorted, sabove, hk, h.1, h.2, sabove_trans hk h.1]
      · rename_i h1 h2; simp [ssorted, sabove_sput v (by omega : j < k) h.1, ih h.2]

/-- A write keeps the keys rising. -/
theorem ssorted_sset [DecidableEq α] {m : Sparse α} (k : Nat) (v x : α) (h : ssorted m = true) : ssorted (sset m k v x) = true := by
  unfold sset
  split
  · exact ssorted_filter _ h
  · exact ssorted_sput k v h

theorem mem_sput {m : Sparse α} {k : Nat} {v : α} {e : Nat × α} (h : e ∈ sput m k v) : e = (k, v) ∨ e ∈ m := by
  induction m with
  | nil => simpa [sput] using h
  | cons d m ih =>
    obtain ⟨j, w⟩ := d
    unfold sput at h
    split at h
    · rcases List.mem_cons.1 h with h | h
      · exact .inl h
      · exact .inr (List.mem_cons_of_mem _ h)
    · split at h
      · simpa using h
      · rcases List.mem_cons.1 h with h | h
        · exact .inr (h ▸ List.mem_cons_self ..)
        · rcases ih h with h | h
          · exact .inl h
          · exact .inr (List.mem_cons_of_mem _ h)

/-- What a write can leave listed: the entry written, if it is not the default, and entries that were listed. -/
theorem mem_sset [DecidableEq α] {m : Sparse α} {k : Nat} {v x : α} {e : Nat × α} (h : e ∈ sset m k v x) :
    (e = (k, v) ∧ v ≠ x) ∨ e ∈ m := by
  unfold sset at h
  split at h
  · exact .inr (List.mem_filter.1 h).1
  · rename_i hv
    rcases mem_sput h with h | h
    · exact .inl ⟨h, hv⟩
    · exact .inr h

end Sys2Proof.Machine
end

