-- ==== Sys2Proof/Laws/State.lean ====
section
/-! SUPPORT. Laws of the small operations on the device: what a register read gives after a write, and which parts of the device each operation leaves alone. -/

namespace Sys2Proof.Machine

open Sys2Proof

-- Writing a field.

@[simp] theorem Dev.set_tick (d : Dev) (f : Fld) (v : Nat) : (d.set f v).tick = d.tick := rfl
@[simp] theorem Dev.set_freeCtr (d : Dev) (f : Fld) (v : Nat) : (d.set f v).freeCtr = d.freeCtr := rfl
@[simp] theorem Dev.set_nextId (d : Dev) (f : Fld) (v : Nat) : (d.set f v).nextId = d.nextId := rfl
@[simp] theorem Dev.set_mem (d : Dev) (f : Fld) (v : Nat) : (d.set f v).mem = d.mem := rfl
@[simp] theorem Dev.set_mxor (d : Dev) (f : Fld) (v : Nat) : (d.set f v).mxor = d.mxor := rfl
@[simp] theorem Dev.set_bad (d : Dev) (f : Fld) (v : Nat) : (d.set f v).bad = d.bad := rfl
@[simp] theorem Dev.set_evtMs (d : Dev) (f : Fld) (v : Nat) : (d.set f v).evtMs = d.evtMs := rfl
@[simp] theorem Dev.set_pipe (d : Dev) (f : Fld) (v : Nat) : (d.set f v).pipe = d.pipe := rfl
@[simp] theorem Dev.set_pin (d : Dev) (f : Fld) (v : Nat) : (d.set f v).pin = d.pin := rfl
@[simp] theorem Dev.set_mac (d : Dev) (f : Fld) (v : Nat) : (d.set f v).mac = d.mac := rfl
@[simp] theorem Dev.set_tbl (d : Dev) (f : Fld) (v : Nat) : (d.set f v).tbl = d.tbl := rfl
@[simp] theorem Dev.set_qry (d : Dev) (f : Fld) (v : Nat) : (d.set f v).qry = d.qry := rfl
@[simp] theorem Dev.set_eng (d : Dev) (f : Fld) (v : Nat) : (d.set f v).eng = d.eng := rfl
@[simp] theorem Dev.set_swc (d : Dev) (f : Fld) (v : Nat) : (d.set f v).swc = d.swc := rfl
@[simp] theorem Dev.set_buf (d : Dev) (f : Fld) (v : Nat) : (d.set f v).buf = d.buf := rfl
@[simp] theorem Dev.set_tmu (d : Dev) (f : Fld) (v : Nat) : (d.set f v).tmu = d.tmu := rfl
@[simp] theorem Dev.set_boot (d : Dev) (f : Fld) (v : Nat) : (d.set f v).boot = d.boot := rfl
@[simp] theorem Dev.set_host (d : Dev) (f : Fld) (v : Nat) : (d.set f v).host = d.host := rfl
@[simp] theorem Dev.set_ep (d : Dev) (f : Fld) (v : Nat) : (d.set f v).ep = d.ep := rfl
@[simp] theorem Dev.set_pwr (d : Dev) (f : Fld) (v : Nat) : (d.set f v).pwr = d.pwr := rfl
@[simp] theorem Dev.set_flt (d : Dev) (f : Fld) (v : Nat) : (d.set f v).flt = d.flt := rfl
@[simp] theorem Dev.set_ctr (d : Dev) (f : Fld) (v : Nat) : (d.set f v).ctr = d.ctr := rfl

/-- A field reads as what was written, cut to its width. -/
@[simp] theorem Dev.get_set_self (d : Dev) (f : Fld) (v : Nat) : (d.set f v).get f = v % 2 ^ f.w := by
  simp [Dev.get, Dev.set]

/-- Other fields read as before. -/
theorem Dev.get_set_ne (d : Dev) {f g : Fld} (v : Nat) (h : g.key ≠ f.key) : (d.set f v).get g = d.get g :=
  sget_sset_ne _ _ _ _ h

/-- A field reads by its key and reset value alone. -/
theorem Dev.get_congr {d e : Dev} (h : d.flds = e.flds) (f : Fld) : d.get f = e.get f := by simp [Dev.get, h]

theorem regsSame_refl (d : Dev) (ks : List Nat) : regsSame d d ks := fun _ _ => rfl

theorem regsSame_trans {d e f : Dev} {ks : List Nat} (h : regsSame d e ks) (h' : regsSame e f ks) : regsSame d f ks :=
  fun g hg => (h' g hg).trans (h g hg)

theorem regsSame_set (d : Dev) (f : Fld) (v : Nat) {ks : List Nat} (h : f.key ∈ ks) : regsSame d (d.set f v) ks :=
  fun _ hg => d.get_set_ne v (fun e => hg (e ▸ h))

theorem regsSame_of_flds {d e : Dev} (ks : List Nat) (h : e.flds = d.flds) : regsSame d e ks :=
  fun f _ => Dev.get_congr h f

theorem memSame_of_mem {d e : Dev} (h : e.mem = d.mem) : memSame d e := fun a => by simp [Dev.rdB, h]

-- Events.

@[simp] theorem Dev.raise_tick (d : Dev) (n : Nat) : (d.raise n).tick = d.tick := rfl
@[simp] theorem Dev.raise_freeCtr (d : Dev) (n : Nat) : (d.raise n).freeCtr = d.freeCtr := rfl
@[simp] theorem Dev.raise_nextId (d : Dev) (n : Nat) : (d.raise n).nextId = d.nextId := rfl
@[simp] theorem Dev.raise_mem (d : Dev) (n : Nat) : (d.raise n).mem = d.mem := rfl
@[simp] theorem Dev.raise_mxor (d : Dev) (n : Nat) : (d.raise n).mxor = d.mxor := rfl
@[simp] theorem Dev.raise_bad (d : Dev) (n : Nat) : (d.raise n).bad = d.bad := rfl
@[simp] theorem Dev.raise_evtMs (d : Dev) (n : Nat) : (d.raise n).evtMs = d.evtMs := rfl
@[simp] theorem Dev.raise_pipe (d : Dev) (n : Nat) : (d.raise n).pipe = d.pipe := rfl
@[simp] theorem Dev.raise_pin (d : Dev) (n : Nat) : (d.raise n).pin = d.pin := rfl
@[simp] theorem Dev.raise_mac (d : Dev) (n : Nat) : (d.raise n).mac = d.mac := rfl
@[simp] theorem Dev.raise_tbl (d : Dev) (n : Nat) : (d.raise n).tbl = d.tbl := rfl
@[simp] theorem Dev.raise_qry (d : Dev) (n : Nat) : (d.raise n).qry = d.qry := rfl
@[simp] theorem Dev.raise_eng (d : Dev) (n : Nat) : (d.raise n).eng = d.eng := rfl
@[simp] theorem Dev.raise_swc (d : Dev) (n : Nat) : (d.raise n).swc = d.swc := rfl
@[simp] theorem Dev.raise_buf (d : Dev) (n : Nat) : (d.raise n).buf = d.buf := rfl
@[simp] theorem Dev.raise_tmu (d : Dev) (n : Nat) : (d.raise n).tmu = d.tmu := rfl
@[simp] theorem Dev.raise_boot (d : Dev) (n : Nat) : (d.raise n).boot = d.boot := rfl
@[simp] theorem Dev.raise_host (d : Dev) (n : Nat) : (d.raise n).host = d.host := rfl
@[simp] theorem Dev.raise_ep (d : Dev) (n : Nat) : (d.raise n).ep = d.ep := rfl
@[simp] theorem Dev.raise_pwr (d : Dev) (n : Nat) : (d.raise n).pwr = d.pwr := rfl
@[simp] theorem Dev.raise_flt (d : Dev) (n : Nat) : (d.raise n).flt = d.flt := rfl
@[simp] theorem Dev.raise_ctr (d : Dev) (n : Nat) : (d.raise n).ctr = d.ctr := rfl

-- Writing bytes.

@[simp] theorem Dev.wrBytes_tick (d : Dev) (a : Nat) (bs : List Byte) : (d.wrBytes a bs).tick = d.tick := rfl
@[simp] theorem Dev.wrBytes_freeCtr (d : Dev) (a : Nat) (bs : List Byte) : (d.wrBytes a bs).freeCtr = d.freeCtr := rfl
@[simp] theorem Dev.wrBytes_nextId (d : Dev) (a : Nat) (bs : List Byte) : (d.wrBytes a bs).nextId = d.nextId := rfl
@[simp] theorem Dev.wrBytes_flds (d : Dev) (a : Nat) (bs : List Byte) : (d.wrBytes a bs).flds = d.flds := rfl
@[simp] theorem Dev.wrBytes_mxor (d : Dev) (a : Nat) (bs : List Byte) : (d.wrBytes a bs).mxor = d.mxor := rfl
@[simp] theorem Dev.wrBytes_evtMs (d : Dev) (a : Nat) (bs : List Byte) : (d.wrBytes a bs).evtMs = d.evtMs := rfl
@[simp] theorem Dev.wrBytes_pipe (d : Dev) (a : Nat) (bs : List Byte) : (d.wrBytes a bs).pipe = d.pipe := rfl
@[simp] theorem Dev.wrBytes_pin (d : Dev) (a : Nat) (bs : List Byte) : (d.wrBytes a bs).pin = d.pin := rfl
@[simp] theorem Dev.wrBytes_mac (d : Dev) (a : Nat) (bs : List Byte) : (d.wrBytes a bs).mac = d.mac := rfl
@[simp] theorem Dev.wrBytes_tbl (d : Dev) (a : Nat) (bs : List Byte) : (d.wrBytes a bs).tbl = d.tbl := rfl
@[simp] theorem Dev.wrBytes_qry (d : Dev) (a : Nat) (bs : List Byte) : (d.wrBytes a bs).qry = d.qry := rfl
@[simp] theorem Dev.wrBytes_eng (d : Dev) (a : Nat) (bs : List Byte) : (d.wrBytes a bs).eng = d.eng := rfl
@[simp] theorem Dev.wrBytes_swc (d : Dev) (a : Nat) (bs : List Byte) : (d.wrBytes a bs).swc = d.swc := rfl
@[simp] theorem Dev.wrBytes_buf (d : Dev) (a : Nat) (bs : List Byte) : (d.wrBytes a bs).buf = d.buf := rfl
@[simp] theorem Dev.wrBytes_tmu (d : Dev) (a : Nat) (bs : List Byte) : (d.wrBytes a bs).tmu = d.tmu := rfl
@[simp] theorem Dev.wrBytes_boot (d : Dev) (a : Nat) (bs : List Byte) : (d.wrBytes a bs).boot = d.boot := rfl
@[simp] theorem Dev.wrBytes_host (d : Dev) (a : Nat) (bs : List Byte) : (d.wrBytes a bs).host = d.host := rfl
@[simp] theorem Dev.wrBytes_ep (d : Dev) (a : Nat) (bs : List Byte) : (d.wrBytes a bs).ep = d.ep := rfl
@[simp] theorem Dev.wrBytes_pwr (d : Dev) (a : Nat) (bs : List Byte) : (d.wrBytes a bs).pwr = d.pwr := rfl
@[simp] theorem Dev.wrBytes_flt (d : Dev) (a : Nat) (bs : List Byte) : (d.wrBytes a bs).flt = d.flt := rfl
@[simp] theorem Dev.wrBytes_ctr (d : Dev) (a : Nat) (bs : List Byte) : (d.wrBytes a bs).ctr = d.ctr := rfl

-- Errors met.

@[simp] theorem Dev.upset_tick (d : Dev) (ups : List (Nat × Nat)) : (d.upset ups).tick = d.tick := rfl
@[simp] theorem Dev.upset_freeCtr (d : Dev) (ups : List (Nat × Nat)) : (d.upset ups).freeCtr = d.freeCtr := rfl
@[simp] theorem Dev.upset_nextId (d : Dev) (ups : List (Nat × Nat)) : (d.upset ups).nextId = d.nextId := rfl
@[simp] theorem Dev.upset_flds (d : Dev) (ups : List (Nat × Nat)) : (d.upset ups).flds = d.flds := rfl
@[simp] theorem Dev.upset_mem (d : Dev) (ups : List (Nat × Nat)) : (d.upset ups).mem = d.mem := rfl
@[simp] theorem Dev.upset_mxor (d : Dev) (ups : List (Nat × Nat)) : (d.upset ups).mxor = d.mxor := rfl
@[simp] theorem Dev.upset_evtMs (d : Dev) (ups : List (Nat × Nat)) : (d.upset ups).evtMs = d.evtMs := rfl
@[simp] theorem Dev.upset_pipe (d : Dev) (ups : List (Nat × Nat)) : (d.upset ups).pipe = d.pipe := rfl
@[simp] theorem Dev.upset_pin (d : Dev) (ups : List (Nat × Nat)) : (d.upset ups).pin = d.pin := rfl
@[simp] theorem Dev.upset_mac (d : Dev) (ups : List (Nat × Nat)) : (d.upset ups).mac = d.mac := rfl
@[simp] theorem Dev.upset_tbl (d : Dev) (ups : List (Nat × Nat)) : (d.upset ups).tbl = d.tbl := rfl
@[simp] theorem Dev.upset_qry (d : Dev) (ups : List (Nat × Nat)) : (d.upset ups).qry = d.qry := rfl
@[simp] theorem Dev.upset_eng (d : Dev) (ups : List (Nat × Nat)) : (d.upset ups).eng = d.eng := rfl
@[simp] theorem Dev.upset_swc (d : Dev) (ups : List (Nat × Nat)) : (d.upset ups).swc = d.swc := rfl
@[simp] theorem Dev.upset_buf (d : Dev) (ups : List (Nat × Nat)) : (d.upset ups).buf = d.buf := rfl
@[simp] theorem Dev.upset_tmu (d : Dev) (ups : List (Nat × Nat)) : (d.upset ups).tmu = d.tmu := rfl
@[simp] theorem Dev.upset_boot (d : Dev) (ups : List (Nat × Nat)) : (d.upset ups).boot = d.boot := rfl
@[simp] theorem Dev.upset_host (d : Dev) (ups : List (Nat × Nat)) : (d.upset ups).host = d.host := rfl
@[simp] theorem Dev.upset_ep (d : Dev) (ups : List (Nat × Nat)) : (d.upset ups).ep = d.ep := rfl
@[simp] theorem Dev.upset_pwr (d : Dev) (ups : List (Nat × Nat)) : (d.upset ups).pwr = d.pwr := rfl
@[simp] theorem Dev.upset_flt (d : Dev) (ups : List (Nat × Nat)) : (d.upset ups).flt = d.flt := rfl
@[simp] theorem Dev.upset_ctr (d : Dev) (ups : List (Nat × Nat)) : (d.upset ups).ctr = d.ctr := rfl

-- Contexts.

@[simp] theorem Dev.upset_ctx (d : Dev) (ups : List (Nat × Nat)) (n : Nat) : (d.upset ups).ctx n = d.ctx n := rfl

/-- A context reads as it was written. -/
@[simp] theorem Dev.ctx_setCtx_self (d : Dev) (n : Nat) (x : Ctx) : (d.setCtx n x).ctx n = x := by
  simp [Dev.ctx, Dev.setCtx]

@[simp] theorem Dev.stepEnd_eng_ctxs (d : Dev) (n : Nat) (st : CtxSt) : (d.stepEnd n st).eng.ctxs = d.eng.ctxs := by
  unfold Dev.stepEnd
  dsimp only
  split
  · split <;> rfl
  · rfl

/-- Other contexts read as before. -/
theorem Dev.ctx_setCtx_ne (d : Dev) {n m : Nat} (x : Ctx) (h : m ≠ n) : (d.setCtx n x).ctx m = d.ctx m := by
  simp [Dev.ctx, Dev.setCtx, sget_sset_ne _ _ _ _ h]

@[simp] theorem Dev.stepEnd_mem (d : Dev) (n : Nat) (st : CtxSt) : (d.stepEnd n st).mem = d.mem := by
  unfold Dev.stepEnd
  dsimp only
  split
  · split <;> rfl
  · rfl

/-- Writing a context stores nothing. -/
@[simp] theorem Dev.setCtx_mem (d : Dev) (n : Nat) (x : Ctx) : (d.setCtx n x).mem = d.mem := by
  simp [Dev.setCtx]

/-- Only a context that halts, ends or faults finishes a STEP command; any other write of a context leaves every register alone. -/
theorem Dev.setCtx_flds (d : Dev) (n : Nat) (x : Ctx) (h : x.st ≠ .halted ∧ x.st ≠ .free ∧ x.st ≠ .faulted) : (d.setCtx n x).flds = d.flds := by
  obtain ⟨h1, h2, h3⟩ := h
  simp only [Dev.setCtx, Dev.stepEnd]
  split <;> first | rfl | (split <;> simp_all)

/-- Writing a context changes no register but the status of a STEP command. -/
theorem Dev.regsSame_setCtx (d : Dev) (n : Nat) (x : Ctx) :
    regsSame d (d.setCtx n x) [(DBG.CMD.STATUS (n / 64)).key, (DBG.CMD.DONE (n / 64)).key] := by
  intro f hf
  simp only [List.mem_cons, List.not_mem_nil, or_false, not_or] at hf
  have h : ∀ st, (d.stepEnd n st).get f = d.get f := by
    intro st
    unfold Dev.stepEnd
    dsimp only
    have k : ∀ v, ((d.set (DBG.CMD.STATUS (n / 64)) v).set (DBG.CMD.DONE (n / 64)) 1).get f = d.get f := fun v => by
      rw [Dev.get_set_ne _ _ hf.2, Dev.get_set_ne _ _ hf.1]
    split
    · split <;> first | exact k _ | rfl
    · rfl
  exact h x.st

end Sys2Proof.Machine
end

