-- ==== Sys2Proof/Laws/Act.lean ====
section
/-! SUPPORT. What `act` and `hostAct` make of a command: once its condition holds, its effect on the device and nothing else. -/

namespace Sys2Proof.Machine

open Sys2Proof

theorem completes_of_act {i : Instr} {s : State} {g : Dev → Bool} {f : Dev → Dev} {P : Dev → Prop}
    (e : exec i s = act s g f) (hg : g s.dev = true) (hp : P (f s.dev)) : completes i s P :=
  ⟨{ s with dev := f s.dev }, by simp [e, act, hg], rfl, hp⟩

theorem completes_of_hostAct {i : Instr} {s : State} {fl : Fld} {g : Dev → Dev} {P : Dev → Prop}
    (e : exec i s = hostAct s fl g) (hr : s.dev.reaches fl) (hp : P (g s.dev)) : completes i s P := by
  refine completes_of_act e rfl ?_
  simpa [Dev.hostReg, hr.1, hr.2] using hp

theorem completes_of_hostAct2 {i : Instr} {s : State} {a : Nat} {g : Dev → Dev} {P : Dev → Prop}
    (e : exec i s = hostAct2 s a g) (hr : s.dev.reaches2 a) (hp : P (g s.dev)) : completes i s P := by
  refine completes_of_act e rfl ?_
  simpa [Dev.hostWord, hr.1, hr.2] using hp

theorem completes_of_hostReadAct {i : Instr} {s : State} {fl : Fld} {n : Nat} {g : Dev → Dev} {P : Dev → Prop}
    (e : exec i s = hostReadAct s fl n g) (hr : s.dev.reaches fl) (hp : P (g s.dev)) : completes i s P := by
  refine completes_of_act e (by simp [hr.1]) ?_
  simpa [hr.2] using hp

/-- The microword in execution. -/
theorem Dev.word_of_inWord {d : Dev} {n : Nat} {u : Cur} (h : d.inWord n u) : d.word n = some u := by
  simp [Dev.word, h.1, h.2.1, h.2.2]

theorem completes_of_uop {i : Instr} {s : State} {n : Nat} {g : Cur → Bool} {f : Cur → Dev → Dev} {u : Cur} {P : Dev → Prop}
    (e : exec i s = uopCmd n g f s) (hw : s.dev.inWord n u) (hg : g u = true) (hp : P (f u s.dev)) : completes i s P := by
  have hw := Dev.word_of_inWord hw
  exact completes_of_act e (by simp [hw, hg]) (by simpa [hw] using hp)

/-- Every command answers a next state and leaves the queue alone. -/
theorem act_next (s : State) (g : Dev → Bool) (f : Dev → Dev) : ∃ t, act s g f = .next t ∧ t.pending = s.pending := by
  unfold act
  split <;> exact ⟨_, rfl, rfl⟩

end Sys2Proof.Machine
end

