-- ==== Sys2Proof/Laws/Bits.lean ====
section
/-! SUPPORT. Laws of single bits and of condition flags. -/

namespace Sys2Proof.Machine

open Sys2Proof

theorem bit_eq (v i : Nat) : bit v i = v.testBit i := by
  simp [bit, Nat.testBit, Nat.shiftRight_eq_div_pow]

/-- A bit after another, or the same, is set. -/
theorem bit_setBit (v i j : Nat) : bit (setBit v i) j = (bit v j || decide (j = i)) := by
  rw [bit_eq, bit_eq]
  show (v ||| 2 ^ i).testBit j = _
  rw [Nat.testBit_or, Nat.testBit_two_pow]
  simp [eq_comm]

/-- A bit after another, or the same, is cleared. -/
theorem bit_clrBit (v i j : Nat) : bit (clrBit v i) j = (bit v j && decide (j ≠ i)) := by
  unfold clrBit
  split
  · rename_i h
    rw [bit_eq] at h
    rw [bit_eq, bit_eq]
    show (v ^^^ 2 ^ i).testBit j = _
    rw [Nat.testBit_xor, Nat.testBit_two_pow]
    by_cases hj : j = i
    · subst hj; simp [h]
    · simp [hj, Ne.symm hj]
  · rename_i h
    by_cases hj : j = i
    · subst hj; simpa using h
    · simp [hj]

/-- A condition after another, or the same, is set or cleared. -/
theorem Ctx.cond_setCond (x : Ctx) (i j : Nat) (b : Bool) : (x.setCond i b).cond j = if j = i then b else x.cond j := by
  unfold Ctx.cond Ctx.setCond
  by_cases hj : j = i
  · subst hj; cases b <;> simp [bit_setBit, bit_clrBit]
  · cases b <;> simp [bit_setBit, bit_clrBit, hj]

end Sys2Proof.Machine
end

