-- ==== Sys2Proof/Laws/Into.lean ====
section
/-! SUPPORT. The relation in which every operation of the model stands: which parts of the device it can touch, and that a sound device stays sound. -/

namespace Sys2Proof.Machine

open Sys2Proof

/-- From `d` to `e` only the parts `ps` may change, and a sound device stays sound. -/
structure Dev.into (ps : List Part) (d e : Dev) : Prop where
  sound : d.sound → e.sound
  same : Dev.sameBut ps d e

/-- Every part of `a` is in `b`. -/
def Part.sub (a b : List Part) : Bool := a.all (fun p => b.contains p)

theorem Part.mem_of_sub {a b : List Part} (h : Part.sub a b = true) {p : Part} (hp : p ∈ a) : p ∈ b := by
  have := List.all_eq_true.1 h p hp
  simpa using this

theorem into_refl (ps : List Part) (d : Dev) : Dev.into ps d d :=
  ⟨id, .inr rfl, .inr rfl, .inr rfl, .inr rfl, .inr rfl, .inr rfl, .inr rfl, .inr rfl, .inr rfl, .inr rfl, .inr rfl, .inr rfl, .inr rfl, .inr rfl, .inr rfl, .inr rfl, .inr rfl, .inr rfl, .inr rfl, .inr rfl, .inr rfl, .inr rfl, .inr rfl⟩

theorem into_part {α : Type} {ps : List Part} {p : Part} {x y z : α} (h : p ∈ ps ∨ y = x) (k : p ∈ ps ∨ z = y) : p ∈ ps ∨ z = x := by
  rcases h with h | h
  · exact .inl h
  · rcases k with k | k
    · exact .inl k
    · exact .inr (k.trans h)

theorem into_trans {ps : List Part} {d e f : Dev} (h : Dev.into ps d e) (k : Dev.into ps e f) : Dev.into ps d f := by
  obtain ⟨hs, h0, h1, h2, h3, h4, h5, h6, h7, h8, h9, h10, h11, h12, h13, h14, h15, h16, h17, h18, h19, h20, h21, h22⟩ := h
  obtain ⟨ks, k0, k1, k2, k3, k4, k5, k6, k7, k8, k9, k10, k11, k12, k13, k14, k15, k16, k17, k18, k19, k20, k21, k22⟩ := k
  exact ⟨ks ∘ hs, into_part h0 k0, into_part h1 k1, into_part h2 k2, into_part h3 k3, into_part h4 k4, into_part h5 k5, into_part h6 k6, into_part h7 k7, into_part h8 k8, into_part h9 k9, into_part h10 k10, into_part h11 k11, into_part h12 k12, into_part h13 k13, into_part h14 k14, into_part h15 k15, into_part h16 k16, into_part h17 k17, into_part h18 k18, into_part h19 k19, into_part h20 k20, into_part h21 k21, into_part h22 k22⟩

theorem into_sub {a b : List Part} {d e : Dev} (h : Dev.into a d e) (k : Part.sub a b = true) : Dev.into b d e := by
  obtain ⟨hs, h0, h1, h2, h3, h4, h5, h6, h7, h8, h9, h10, h11, h12, h13, h14, h15, h16, h17, h18, h19, h20, h21, h22⟩ := h
  exact ⟨hs, h0.imp_left (Part.mem_of_sub k), h1.imp_left (Part.mem_of_sub k), h2.imp_left (Part.mem_of_sub k), h3.imp_left (Part.mem_of_sub k), h4.imp_left (Part.mem_of_sub k), h5.imp_left (Part.mem_of_sub k), h6.imp_left (Part.mem_of_sub k), h7.imp_left (Part.mem_of_sub k), h8.imp_left (Part.mem_of_sub k), h9.imp_left (Part.mem_of_sub k), h10.imp_left (Part.mem_of_sub k), h11.imp_left (Part.mem_of_sub k), h12.imp_left (Part.mem_of_sub k), h13.imp_left (Part.mem_of_sub k), h14.imp_left (Part.mem_of_sub k), h15.imp_left (Part.mem_of_sub k), h16.imp_left (Part.mem_of_sub k), h17.imp_left (Part.mem_of_sub k), h18.imp_left (Part.mem_of_sub k), h19.imp_left (Part.mem_of_sub k), h20.imp_left (Part.mem_of_sub k), h21.imp_left (Part.mem_of_sub k), h22.imp_left (Part.mem_of_sub k)⟩

theorem Part.sub_trans {a b c : List Part} (h : Part.sub a b = true) (k : Part.sub b c = true) : Part.sub a c = true := by
  refine List.all_eq_true.2 fun p hp => ?_
  simpa using Part.mem_of_sub k (Part.mem_of_sub h hp)

theorem into_step {a ps : List Part} {d e f : Dev} (k : Dev.into a e f) (s : Part.sub a ps = true) (h : Dev.into ps d e) : Dev.into ps d f :=
  into_trans h (into_sub k s)

/-- What makes the device with parts `x1` to `x22` and the tick of `e` one into which `e` may change. -/
structure Dev.intoOk (ps : List Part) (e : Dev) (f : Dev) : Prop where
  sound : e.sound → f.sound
  rest : (Part.freeCtr ∈ ps ∨ f.freeCtr = e.freeCtr) ∧ (Part.nextId ∈ ps ∨ f.nextId = e.nextId) ∧ (Part.flds ∈ ps ∨ f.flds = e.flds) ∧ (Part.mem ∈ ps ∨ f.mem = e.mem) ∧ (Part.mxor ∈ ps ∨ f.mxor = e.mxor) ∧ (Part.bad ∈ ps ∨ f.bad = e.bad) ∧ (Part.evtMs ∈ ps ∨ f.evtMs = e.evtMs) ∧ (Part.pipe ∈ ps ∨ f.pipe = e.pipe) ∧ (Part.pin ∈ ps ∨ f.pin = e.pin) ∧ (Part.mac ∈ ps ∨ f.mac = e.mac) ∧ (Part.tbl ∈ ps ∨ f.tbl = e.tbl) ∧ (Part.qry ∈ ps ∨ f.qry = e.qry) ∧ (Part.eng ∈ ps ∨ f.eng = e.eng) ∧ (Part.swc ∈ ps ∨ f.swc = e.swc) ∧ (Part.buf ∈ ps ∨ f.buf = e.buf) ∧ (Part.tmu ∈ ps ∨ f.tmu = e.tmu) ∧ (Part.boot ∈ ps ∨ f.boot = e.boot) ∧ (Part.host ∈ ps ∨ f.host = e.host) ∧ (Part.ep ∈ ps ∨ f.ep = e.ep) ∧ (Part.pwr ∈ ps ∨ f.pwr = e.pwr) ∧ (Part.flt ∈ ps ∨ f.flt = e.flt) ∧ (Part.ctr ∈ ps ∨ f.ctr = e.ctr)

theorem into_mk {ps : List Part} {e : Dev} {x1 x2 x3 x4 x5 x6 x7 x8 x9 x10 x11 x12 x13 x14 x15 x16 x17 x18 x19 x20 x21 x22} (h : Dev.intoOk ps e ⟨e.tick, x1, x2, x3, x4, x5, x6, x7, x8, x9, x10, x11, x12, x13, x14, x15, x16, x17, x18, x19, x20, x21, x22⟩) : Dev.into ps e ⟨e.tick, x1, x2, x3, x4, x5, x6, x7, x8, x9, x10, x11, x12, x13, x14, x15, x16, x17, x18, x19, x20, x21, x22⟩ :=
  ⟨h.1, .inr rfl, h.2⟩

theorem intoOk_of_sound {ps : List Part} {e : Dev} {x1 x2 x3 x4 x5 x6 x7 x8 x9 x10 x11 x12 x13 x14 x15 x16 x17 x18 x19 x20 x21 x22} (hs : e.sound → Dev.sound ⟨e.tick, x1, x2, x3, x4, x5, x6, x7, x8, x9, x10, x11, x12, x13, x14, x15, x16, x17, x18, x19, x20, x21, x22⟩)
    (h1 : Part.freeCtr ∈ ps ∨ x1 = e.freeCtr := by first | exact .inr rfl | exact .inl (by decide))
    (h2 : Part.nextId ∈ ps ∨ x2 = e.nextId := by first | exact .inr rfl | exact .inl (by decide))
    (h3 : Part.flds ∈ ps ∨ x3 = e.flds := by first | exact .inr rfl | exact .inl (by decide))
    (h4 : Part.mem ∈ ps ∨ x4 = e.mem := by first | exact .inr rfl | exact .inl (by decide))
    (h5 : Part.mxor ∈ ps ∨ x5 = e.mxor := by first | exact .inr rfl | exact .inl (by decide))
    (h6 : Part.bad ∈ ps ∨ x6 = e.bad := by first | exact .inr rfl | exact .inl (by decide))
    (h7 : Part.evtMs ∈ ps ∨ x7 = e.evtMs := by first | exact .inr rfl | exact .inl (by decide))
    (h8 : Part.pipe ∈ ps ∨ x8 = e.pipe := by first | exact .inr rfl | exact .inl (by decide))
    (h9 : Part.pin ∈ ps ∨ x9 = e.pin := by first | exact .inr rfl | exact .inl (by decide))
    (h10 : Part.mac ∈ ps ∨ x10 = e.mac := by first | exact .inr rfl | exact .inl (by decide))
    (h11 : Part.tbl ∈ ps ∨ x11 = e.tbl := by first | exact .inr rfl | exact .inl (by decide))
    (h12 : Part.qry ∈ ps ∨ x12 = e.qry := by first | exact .inr rfl | exact .inl (by decide))
    (h13 : Part.eng ∈ ps ∨ x13 = e.eng := by first | exact .inr rfl | exact .inl (by decide))
    (h14 : Part.swc ∈ ps ∨ x14 = e.swc := by first | exact .inr rfl | exact .inl (by decide))
    (h15 : Part.buf ∈ ps ∨ x15 = e.buf := by first | exact .inr rfl | exact .inl (by decide))
    (h16 : Part.tmu ∈ ps ∨ x16 = e.tmu := by first | exact .inr rfl | exact .inl (by decide))
    (h17 : Part.boot ∈ ps ∨ x17 = e.boot := by first | exact .inr rfl | exact .inl (by decide))
    (h18 : Part.host ∈ ps ∨ x18 = e.host := by first | exact .inr rfl | exact .inl (by decide))
    (h19 : Part.ep ∈ ps ∨ x19 = e.ep := by first | exact .inr rfl | exact .inl (by decide))
    (h20 : Part.pwr ∈ ps ∨ x20 = e.pwr := by first | exact .inr rfl | exact .inl (by decide))
    (h21 : Part.flt ∈ ps ∨ x21 = e.flt := by first | exact .inr rfl | exact .inl (by decide))
    (h22 : Part.ctr ∈ ps ∨ x22 = e.ctr := by first | exact .inr rfl | exact .inl (by decide)) :
    Dev.intoOk ps e ⟨e.tick, x1, x2, x3, x4, x5, x6, x7, x8, x9, x10, x11, x12, x13, x14, x15, x16, x17, x18, x19, x20, x21, x22⟩ :=
  ⟨hs, h1, h2, h3, h4, h5, h6, h7, h8, h9, h10, h11, h12, h13, h14, h15, h16, h17, h18, h19, h20, h21, h22⟩

/-- A record update of parts `ps` that leaves memory, fields and time alone. -/
theorem intoOk_intro {ps : List Part} {e : Dev} {x1 x2 x3 x4 x5 x6 x7 x8 x9 x10 x11 x12 x13 x14 x15 x16 x17 x18 x19 x20 x21 x22}
    (hf : x3 = e.flds) (hm : x4 = e.mem) (ht : x16.ns = e.tmu.ns ∧ x16.frac = e.tmu.frac ∧ x16.sec = e.tmu.sec)
    (h1 : Part.freeCtr ∈ ps ∨ x1 = e.freeCtr := by first | exact .inr rfl | exact .inl (by decide))
    (h2 : Part.nextId ∈ ps ∨ x2 = e.nextId := by first | exact .inr rfl | exact .inl (by decide))
    (h5 : Part.mxor ∈ ps ∨ x5 = e.mxor := by first | exact .inr rfl | exact .inl (by decide))
    (h6 : Part.bad ∈ ps ∨ x6 = e.bad := by first | exact .inr rfl | exact .inl (by decide))
    (h7 : Part.evtMs ∈ ps ∨ x7 = e.evtMs := by first | exact .inr rfl | exact .inl (by decide))
    (h8 : Part.pipe ∈ ps ∨ x8 = e.pipe := by first | exact .inr rfl | exact .inl (by decide))
    (h9 : Part.pin ∈ ps ∨ x9 = e.pin := by first | exact .inr rfl | exact .inl (by decide))
    (h10 : Part.mac ∈ ps ∨ x10 = e.mac := by first | exact .inr rfl | exact .inl (by decide))
    (h11 : Part.tbl ∈ ps ∨ x11 = e.tbl := by first | exact .inr rfl | exact .inl (by decide))
    (h12 : Part.qry ∈ ps ∨ x12 = e.qry := by first | exact .inr rfl | exact .inl (by decide))
    (h13 : Part.eng ∈ ps ∨ x13 = e.eng := by first | exact .inr rfl | exact .inl (by decide))
    (h14 : Part.swc ∈ ps ∨ x14 = e.swc := by first | exact .inr rfl | exact .inl (by decide))
    (h15 : Part.buf ∈ ps ∨ x15 = e.buf := by first | exact .inr rfl | exact .inl (by decide))
    (h16 : Part.tmu ∈ ps ∨ x16 = e.tmu := by first | exact .inr rfl | exact .inl (by decide))
    (h17 : Part.boot ∈ ps ∨ x17 = e.boot := by first | exact .inr rfl | exact .inl (by decide))
    (h18 : Part.host ∈ ps ∨ x18 = e.host := by first | exact .inr rfl | exact .inl (by decide))
    (h19 : Part.ep ∈ ps ∨ x19 = e.ep := by first | exact .inr rfl | exact .inl (by decide))
    (h20 : Part.pwr ∈ ps ∨ x20 = e.pwr := by first | exact .inr rfl | exact .inl (by decide))
    (h21 : Part.flt ∈ ps ∨ x21 = e.flt := by first | exact .inr rfl | exact .inl (by decide))
    (h22 : Part.ctr ∈ ps ∨ x22 = e.ctr := by first | exact .inr rfl | exact .inl (by decide)) :
    Dev.intoOk ps e ⟨e.tick, x1, x2, x3, x4, x5, x6, x7, x8, x9, x10, x11, x12, x13, x14, x15, x16, x17, x18, x19, x20, x21, x22⟩ :=
  intoOk_of_sound (fun k => ⟨hm ▸ k.1, hf ▸ k.2.1, by
    obtain ⟨a, b, c⟩ := ht
    have k := k.2.2
    unfold TmuSt.legal at k ⊢
    dsimp only
    rw [a, b, c]
    exact k⟩) (h3 := .inr hf) (h4 := .inr hm) (h1 := h1) (h2 := h2) (h5 := h5) (h6 := h6) (h7 := h7) (h8 := h8) (h9 := h9) (h10 := h10) (h11 := h11) (h12 := h12) (h13 := h13) (h14 := h14) (h15 := h15) (h16 := h16) (h17 := h17) (h18 := h18) (h19 := h19) (h20 := h20) (h21 := h21) (h22 := h22)

theorem into_mk_step {ps : List Part} {d e : Dev} {x1 x2 x3 x4 x5 x6 x7 x8 x9 x10 x11 x12 x13 x14 x15 x16 x17 x18 x19 x20 x21 x22} (k : Dev.into ps d e) (h : Dev.intoOk ps e ⟨e.tick, x1, x2, x3, x4, x5, x6, x7, x8, x9, x10, x11, x12, x13, x14, x15, x16, x17, x18, x19, x20, x21, x22⟩) : Dev.into ps d ⟨e.tick, x1, x2, x3, x4, x5, x6, x7, x8, x9, x10, x11, x12, x13, x14, x15, x16, x17, x18, x19, x20, x21, x22⟩ :=
  into_trans k (into_mk h)

theorem intoOk_sub {ps qs : List Part} {e f : Dev} (h : Dev.intoOk ps e f) (k : Part.sub ps qs = true) : Dev.intoOk qs e f := by
  obtain ⟨hs, h1, h2, h3, h4, h5, h6, h7, h8, h9, h10, h11, h12, h13, h14, h15, h16, h17, h18, h19, h20, h21, h22⟩ := h
  exact ⟨hs, h1.imp_left (Part.mem_of_sub k), h2.imp_left (Part.mem_of_sub k), h3.imp_left (Part.mem_of_sub k), h4.imp_left (Part.mem_of_sub k), h5.imp_left (Part.mem_of_sub k), h6.imp_left (Part.mem_of_sub k), h7.imp_left (Part.mem_of_sub k), h8.imp_left (Part.mem_of_sub k), h9.imp_left (Part.mem_of_sub k), h10.imp_left (Part.mem_of_sub k), h11.imp_left (Part.mem_of_sub k), h12.imp_left (Part.mem_of_sub k), h13.imp_left (Part.mem_of_sub k), h14.imp_left (Part.mem_of_sub k), h15.imp_left (Part.mem_of_sub k), h16.imp_left (Part.mem_of_sub k), h17.imp_left (Part.mem_of_sub k), h18.imp_left (Part.mem_of_sub k), h19.imp_left (Part.mem_of_sub k), h20.imp_left (Part.mem_of_sub k), h21.imp_left (Part.mem_of_sub k), h22.imp_left (Part.mem_of_sub k)⟩

-- The device among the components of an answer.

theorem into_of_2 {α : Type} {ps : List Part} {d e : Dev} {p : α × Dev} {a : α} (h : p = (a, e)) (k : Dev.into ps d p.2) : Dev.into ps d e := by
  subst h; exact k
theorem into_of_1 {α : Type} {ps : List Part} {d e : Dev} {p : Dev × α} {a : α} (h : p = (e, a)) (k : Dev.into ps d p.1) : Dev.into ps d e := by
  subst h; exact k
theorem into_of_22 {α β : Type} {ps : List Part} {d e : Dev} {p : α × β × Dev} {a : α} {b : β} (h : p = (a, b, e)) (k : Dev.into ps d p.2.2) :
    Dev.into ps d e := by
  subst h; exact k
theorem into_of_222 {α β γ : Type} {ps : List Part} {d e : Dev} {p : α × β × γ × Dev} {a : α} {b : β} {c : γ} (h : p = (a, b, c, e))
    (k : Dev.into ps d p.2.2.2) : Dev.into ps d e := by
  subst h; exact k

/-- Folding an operation over a list. -/
theorem into_foldl {α : Type} {ps : List Part} {f : Dev → α → Dev} (h : ∀ d a, Dev.into ps d (f d a)) (l : List α) (d : Dev) :
    Dev.into ps d (l.foldl f d) := by
  induction l generalizing d with
  | nil => exact into_refl ps d
  | cons a l ih => exact into_trans (h d a) (ih (f d a))

theorem into_foldl_step {α : Type} {ps : List Part} {f : Dev → α → Dev} {l : List α} {d e : Dev} (k : Dev.into ps d e)
    (h : ∀ d a, Dev.into ps d (f d a)) : Dev.into ps d (l.foldl f e) := into_trans k (into_foldl h l e)

/-- Folding an operation that also carries a value. -/
theorem into_foldl_snd {α β : Type} {ps : List Part} {f : β × Dev → α → β × Dev} (h : ∀ p a, Dev.into ps p.2 (f p a).2) (l : List α) (p : β × Dev) :
    Dev.into ps p.2 (l.foldl f p).2 := by
  induction l generalizing p with
  | nil => exact into_refl ps p.2
  | cons a l ih => exact into_trans (h p a) (ih (f p a))

/-- Folding over 0 to n − 1. -/
theorem into_forN {ps : List Part} {f : Nat → Dev → Dev} (h : ∀ k d, Dev.into ps d (f k d)) (n : Nat) (d : Dev) : Dev.into ps d (forN n d f) := by
  induction n with
  | zero => exact into_refl ps d
  | succ n ih => exact into_trans ih (h n _)

theorem into_forN_step {ps : List Part} {f : Nat → Dev → Dev} {n : Nat} {d e : Dev} (k : Dev.into ps d e) (h : ∀ k d, Dev.into ps d (f k d)) :
    Dev.into ps d (forN n e f) := into_trans k (into_forN h n e)

/-- A command with a condition. -/
theorem into_act {ps : List Part} {s t : State} {g : Dev → Bool} {f : Dev → Dev} (h : ∀ d, Dev.into ps d (f d)) (e : act s g f = .next t) :
    Dev.into ps s.dev t.dev := by
  unfold act at e
  cases e
  split
  · exact h s.dev
  · exact into_refl ps s.dev

-- Memory.

theorem Memory.wf_iff {m : List Host.Cell} : Memory.wf m = true ↔ ssorted m = true ∧ ∀ e ∈ m, e.2 ≠ memDefault e.1 := by
  simp [Memory.wf]

/-- Writing a byte keeps the canonical form. -/
theorem Memory.wf_memSet {m : List Host.Cell} (a : Nat) (b : Byte) (h : Memory.wf m = true) : Memory.wf (memSet m a b) = true := by
  rw [Memory.wf_iff] at h ⊢
  refine ⟨ssorted_sset _ _ _ h.1, fun e he => ?_⟩
  rcases mem_sset he with ⟨rfl, hb⟩ | he
  · exact hb
  · exact h.2 e he

/-- Writing bytes keeps the canonical form. -/
theorem Memory.wf_memSets {m : List Host.Cell} (a : Nat) (bs : List Byte) (h : Memory.wf m = true) : Memory.wf (memSets m a bs) = true := by
  induction bs generalizing m a with
  | nil => exact h
  | cons b bs ih => exact ih _ (Memory.wf_memSet a b h)

/-- Dropping bytes keeps the canonical form. -/
theorem Memory.wf_filter {m : List Host.Cell} (p : Host.Cell → Bool) (h : Memory.wf m = true) : Memory.wf (m.filter p) = true := by
  rw [Memory.wf_iff] at h ⊢
  exact ⟨ssorted_filter p h.1, fun e he => h.2 e (List.mem_filter.1 he).1⟩

/-- Copying bytes keeps the canonical form. -/
theorem Memory.wf_foldl {m : List Host.Cell} (l : List Host.Cell) (f : Nat → Nat) (h : Memory.wf m = true) :
    Memory.wf (l.foldl (fun m e => memSet m (f e.1) e.2) m) = true := by
  induction l generalizing m with
  | nil => exact h
  | cons e l ih => exact ih (Memory.wf_memSet _ _ h)

/-- The byte written reads back. -/
theorem rdB_memSet_self (d : Dev) (a : Nat) (b : Byte) : sget (memSet d.mem a b) a (memDefault a) = b := sget_sset_self ..

/-- Other bytes read as before. -/
theorem memSet_ne (m : List Host.Cell) {a c : Nat} (b : Byte) (h : c ≠ a) : sget (memSet m a b) c (memDefault c) = sget m c (memDefault c) :=
  sget_sset_ne _ _ _ _ h

/-- Bytes outside those written read as before. -/
theorem memSets_out (m : List Host.Cell) (a : Nat) (bs : List Byte) {c : Nat} (h : c < a ∨ a + bs.length ≤ c) :
    sget (memSets m a bs) c (memDefault c) = sget m c (memDefault c) := by
  induction bs generalizing m a with
  | nil => rfl
  | cons b bs ih =>
    simp only [List.length_cons] at h
    rw [memSets, ih _ _ (by omega), memSet_ne _ _ (by omega)]

/-- A store changes no byte outside those it stores to. -/
theorem Dev.rdB_wrBytes_out (d : Dev) (a : Nat) (bs : List Byte) {c : Nat} (h : c < a ∨ a + bs.length ≤ c) : (d.wrBytes a bs).rdB c = d.rdB c :=
  memSets_out d.mem a bs h

/-- The bytes stored read back. -/
theorem Dev.rdB_wrBytes_in (d : Dev) (a : Nat) (bs : List Byte) {i : Nat} (h : i < bs.length) : (d.wrBytes a bs).rdB (a + i) = bs[i] := by
  show sget (memSets d.mem a bs) (a + i) (memDefault (a + i)) = _
  generalize d.mem = m
  induction bs generalizing m a i with
  | nil => simp at h
  | cons b bs ih =>
    rw [memSets]
    cases i with
    | zero => rw [memSets_out _ _ _ (by simp)]; exact sget_sset_self ..
    | succ i =>
      have := ih (a + 1) (i := i) (by simpa using h) (memSet m a b)
      rw [show a + (i + 1) = a + 1 + i by omega, this]
      rfl

-- The primitives.

theorem into_set (d : Dev) (f : Fld) (v : Nat) : Dev.into [.flds] d (d.set f v) :=
  into_mk (intoOk_of_sound (fun h => ⟨h.1, ssorted_sset _ _ _ h.2.1, h.2.2⟩))

theorem into_wrBytes (d : Dev) (a : Nat) (bs : List Byte) : Dev.into [.mem, .bad] d (d.wrBytes a bs) :=
  into_mk (intoOk_of_sound (fun h => ⟨Memory.wf_memSets _ _ h.1, h.2⟩))

theorem into_clearRange (d : Dev) (a n : Nat) : Dev.into [.mem] d (d.clearRange a n) :=
  into_mk (intoOk_of_sound (fun h => ⟨Memory.wf_filter _ h.1, h.2⟩))

end Sys2Proof.Machine
end

