-- ==== Sys2Proof/Laws/IntoOps.lean ====
section
/-! SUPPORT. Which parts of the device the operations of Machine/Ops.lean can touch, and that they keep it sound. -/


namespace Sys2Proof.Machine

open Sys2Proof


theorem into_setBitF (d : Dev) (f : Fld) (i : Nat) : Dev.into [.flds] d (Dev.setBitF d f i) := by
  unfold Dev.setBitF
  repeat'
    first
    | (with_reducible show Part.sub _ _ = true); exact Eq.refl true
    | assumption
    | with_reducible exact into_refl _ _
    | split
    | with_reducible apply into_step (into_set _ _ _)
    | intro _
    | dsimp only

theorem into_addSat (d : Dev) (f : Fld) (k : Nat) : Dev.into [.flds] d (Dev.addSat d f k) := by
  unfold Dev.addSat
  repeat'
    first
    | (with_reducible show Part.sub _ _ = true); exact Eq.refl true
    | assumption
    | with_reducible exact into_refl _ _
    | split
    | with_reducible apply into_step (into_set _ _ _)
    | intro _
    | dsimp only


theorem into_wr64 (d : Dev) (a v : Nat) : Dev.into [.mem, .bad] d (Dev.wr64 d a v) := by
  unfold Dev.wr64
  repeat'
    first
    | (with_reducible show Part.sub _ _ = true); exact Eq.refl true
    | assumption
    | with_reducible exact into_refl _ _
    | split
    | with_reducible apply into_step (into_wrBytes _ _ _)
    | intro _
    | dsimp only

theorem into_wrWords (d : Dev) (a : Nat) (y0 : List Nat) : Dev.into [.mem, .bad] d (Dev.wrWords d a y0) := by
  fun_induction Dev.wrWords d a y0
  repeat'
    first
    | (with_reducible show Part.sub _ _ = true); exact Eq.refl true
    | assumption
    | with_reducible exact into_refl _ _
    | split
    | with_reducible apply into_step (into_wr64 _ _ _)
    | with_reducible refine into_trans ?_ (by assumption)
    | intro _
    | dsimp only


theorem into_upset (d : Dev) (ups : List (Nat × Nat)) : Dev.into [.bad] d (Dev.upset d ups) := by
  unfold Dev.upset
  repeat'
    first
    | (with_reducible show Part.sub _ _ = true); exact Eq.refl true
    | assumption
    | with_reducible exact into_refl _ _
    | split
    | with_reducible apply into_foldl_step
    | intro _
    | dsimp only
    | exact intoOk_intro rfl rfl ⟨rfl, rfl, rfl⟩
    | with_reducible apply into_mk_step

theorem into_fresh (d : Dev) : Dev.into [.freeCtr] d (Dev.fresh d).2 := by
  unfold Dev.fresh
  repeat'
    first
    | (with_reducible show Part.sub _ _ = true); exact Eq.refl true
    | assumption
    | with_reducible exact into_refl _ _
    | split
    | intro _
    | dsimp only
    | exact intoOk_intro rfl rfl ⟨rfl, rfl, rfl⟩
    | with_reducible apply into_mk_step

theorem into_pick {α : Type} (d : Dev) (l : List α) : Dev.into [.freeCtr] d (d.pick l).2 := by
  unfold Dev.pick
  split
  · exact into_refl _ _
  · exact into_mk (intoOk_intro rfl rfl ⟨rfl, rfl, rfl⟩)

theorem into_newId (d : Dev) : Dev.into [.nextId] d (Dev.newId d).2 := by
  unfold Dev.newId
  repeat'
    first
    | (with_reducible show Part.sub _ _ = true); exact Eq.refl true
    | assumption
    | with_reducible exact into_refl _ _
    | split
    | intro _
    | dsimp only
    | exact intoOk_intro rfl rfl ⟨rfl, rfl, rfl⟩
    | with_reducible apply into_mk_step

theorem into_cntAdd (base : Nat) (chain : Nat) (y0 : Nat) (y1 : Nat) (y2 : Nat) (y3 : Dev) : Dev.into [.flds] y3 (cntAdd base chain y0 y1 y2 y3) := by
  fun_induction cntAdd base chain y0 y1 y2 y3
  repeat'
    first
    | (with_reducible show Part.sub _ _ = true); exact Eq.refl true
    | assumption
    | with_reducible exact into_refl _ _
    | split
    | with_reducible apply into_step (into_set _ _ _)
    | with_reducible refine into_trans ?_ (by assumption)
    | intro _
    | dsimp only

theorem into_count (d : Dev) (base : Fld) (n : Nat) (chain : Nat) (i k : Nat) : Dev.into [.flds] d (Dev.count d base n chain i k) := by
  unfold Dev.count
  repeat'
    first
    | (with_reducible show Part.sub _ _ = true); exact Eq.refl true
    | assumption
    | with_reducible exact into_refl _ _
    | split
    | with_reducible apply into_step (into_cntAdd _ _ _ _ _ _)
    | intro _
    | dsimp only

theorem into_cntMac (d : Dev) (p i k : Nat) : Dev.into [.flds] d (Dev.cntMac d p i k) := by
  unfold Dev.cntMac
  repeat'
    first
    | (with_reducible show Part.sub _ _ = true); exact Eq.refl true
    | assumption
    | with_reducible exact into_refl _ _
    | split
    | with_reducible apply into_step (into_count _ _ _ _ _ _)
    | intro _
    | dsimp only

theorem into_cntPrs (d : Dev) (s i : Nat) : Dev.into [.flds] d (Dev.cntPrs d s i) := by
  unfold Dev.cntPrs
  repeat'
    first
    | (with_reducible show Part.sub _ _ = true); exact Eq.refl true
    | assumption
    | with_reducible exact into_refl _ _
    | split
    | with_reducible apply into_step (into_count _ _ _ _ _ _)
    | intro _
    | dsimp only

theorem into_cntPrsBy (d : Dev) (s i k : Nat) : Dev.into [.flds] d (Dev.cntPrsBy d s i k) := by
  unfold Dev.cntPrsBy
  repeat'
    first
    | (with_reducible show Part.sub _ _ = true); exact Eq.refl true
    | assumption
    | with_reducible exact into_refl _ _
    | split
    | with_reducible apply into_step (into_count _ _ _ _ _ _)
    | intro _
    | dsimp only

theorem into_cntCls (d : Dev) (s i : Nat) : Dev.into [.flds] d (Dev.cntCls d s i) := by
  unfold Dev.cntCls
  repeat'
    first
    | (with_reducible show Part.sub _ _ = true); exact Eq.refl true
    | assumption
    | with_reducible exact into_refl _ _
    | split
    | with_reducible apply into_step (into_count _ _ _ _ _ _)
    | intro _
    | dsimp only

theorem into_cntClsBy (d : Dev) (s i k : Nat) : Dev.into [.flds] d (Dev.cntClsBy d s i k) := by
  unfold Dev.cntClsBy
  repeat'
    first
    | (with_reducible show Part.sub _ _ = true); exact Eq.refl true
    | assumption
    | with_reducible exact into_refl _ _
    | split
    | with_reducible apply into_step (into_count _ _ _ _ _ _)
    | intro _
    | dsimp only

theorem into_cntFwd (d : Dev) (s i : Nat) : Dev.into [.flds] d (Dev.cntFwd d s i) := by
  unfold Dev.cntFwd
  repeat'
    first
    | (with_reducible show Part.sub _ _ = true); exact Eq.refl true
    | assumption
    | with_reducible exact into_refl _ _
    | split
    | with_reducible apply into_step (into_count _ _ _ _ _ _)
    | intro _
    | dsimp only

theorem into_cntQry (d : Dev) (s i : Nat) : Dev.into [.flds] d (Dev.cntQry d s i) := by
  unfold Dev.cntQry
  repeat'
    first
    | (with_reducible show Part.sub _ _ = true); exact Eq.refl true
    | assumption
    | with_reducible exact into_refl _ _
    | split
    | with_reducible apply into_step (into_count _ _ _ _ _ _)
    | intro _
    | dsimp only

theorem into_cntSwc (d : Dev) (s i : Nat) : Dev.into [.flds] d (Dev.cntSwc d s i) := by
  unfold Dev.cntSwc
  repeat'
    first
    | (with_reducible show Part.sub _ _ = true); exact Eq.refl true
    | assumption
    | with_reducible exact into_refl _ _
    | split
    | with_reducible apply into_step (into_count _ _ _ _ _ _)
    | intro _
    | dsimp only

theorem into_cntEng (d : Dev) (c i : Nat) : Dev.into [.flds] d (Dev.cntEng d c i) := by
  unfold Dev.cntEng
  repeat'
    first
    | (with_reducible show Part.sub _ _ = true); exact Eq.refl true
    | assumption
    | with_reducible exact into_refl _ _
    | split
    | with_reducible apply into_step (into_count _ _ _ _ _ _)
    | intro _
    | dsimp only

theorem into_cntEngBy (d : Dev) (c i k : Nat) : Dev.into [.flds] d (Dev.cntEngBy d c i k) := by
  unfold Dev.cntEngBy
  repeat'
    first
    | (with_reducible show Part.sub _ _ = true); exact Eq.refl true
    | assumption
    | with_reducible exact into_refl _ _
    | split
    | with_reducible apply into_step (into_count _ _ _ _ _ _)
    | intro _
    | dsimp only

theorem into_cntQ (d : Dev) (p q j k : Nat) : Dev.into [.flds] d (Dev.cntQ d p q j k) := by
  unfold Dev.cntQ
  repeat'
    first
    | (with_reducible show Part.sub _ _ = true); exact Eq.refl true
    | assumption
    | with_reducible exact into_refl _ _
    | split
    | with_reducible apply into_step (into_count _ _ _ _ _ _)
    | intro _
    | dsimp only

theorem into_cntBpm (d : Dev) (h i : Nat) : Dev.into [.flds] d (Dev.cntBpm d h i) := by
  unfold Dev.cntBpm
  repeat'
    first
    | (with_reducible show Part.sub _ _ = true); exact Eq.refl true
    | assumption
    | with_reducible exact into_refl _ _
    | split
    | with_reducible apply into_step (into_count _ _ _ _ _ _)
    | intro _
    | dsimp only

theorem into_cntH (d : Dev) (h i : Nat) : Dev.into [.flds] d (Dev.cntH d h i) := by
  unfold Dev.cntH
  repeat'
    first
    | (with_reducible show Part.sub _ _ = true); exact Eq.refl true
    | assumption
    | with_reducible exact into_refl _ _
    | split
    | with_reducible apply into_step (into_count _ _ _ _ _ _)
    | intro _
    | dsimp only

theorem into_cntHbc (d : Dev) (k i : Nat) : Dev.into [.flds] d (Dev.cntHbc d k i) := by
  unfold Dev.cntHbc
  repeat'
    first
    | (with_reducible show Part.sub _ _ = true); exact Eq.refl true
    | assumption
    | with_reducible exact into_refl _ _
    | split
    | with_reducible apply into_step (into_count _ _ _ _ _ _)
    | intro _
    | dsimp only

theorem into_cntTmu (d : Dev) (i : Nat) : Dev.into [.flds] d (Dev.cntTmu d i) := by
  unfold Dev.cntTmu
  repeat'
    first
    | (with_reducible show Part.sub _ _ = true); exact Eq.refl true
    | assumption
    | with_reducible exact into_refl _ _
    | split
    | with_reducible apply into_step (into_count _ _ _ _ _ _)
    | intro _
    | dsimp only

theorem into_cntPwr (d : Dev) (i : Nat) : Dev.into [.flds] d (Dev.cntPwr d i) := by
  unfold Dev.cntPwr
  repeat'
    first
    | (with_reducible show Part.sub _ _ = true); exact Eq.refl true
    | assumption
    | with_reducible exact into_refl _ _
    | split
    | with_reducible apply into_step (into_count _ _ _ _ _ _)
    | intro _
    | dsimp only

theorem into_cntNvs (d : Dev) (i : Nat) : Dev.into [.flds] d (Dev.cntNvs d i) := by
  unfold Dev.cntNvs
  repeat'
    first
    | (with_reducible show Part.sub _ _ = true); exact Eq.refl true
    | assumption
    | with_reducible exact into_refl _ _
    | split
    | with_reducible apply into_step (into_count _ _ _ _ _ _)
    | intro _
    | dsimp only

theorem into_cntD2d (d : Dev) (i : Nat) : Dev.into [.flds] d (Dev.cntD2d d i) := by
  unfold Dev.cntD2d
  repeat'
    first
    | (with_reducible show Part.sub _ _ = true); exact Eq.refl true
    | assumption
    | with_reducible exact into_refl _ _
    | split
    | with_reducible apply into_step (into_count _ _ _ _ _ _)
    | intro _
    | dsimp only

theorem into_raise (d : Dev) (n : Nat) : Dev.into [.flds] d (Dev.raise d n) := by
  unfold Dev.raise
  repeat'
    first
    | (with_reducible show Part.sub _ _ = true); exact Eq.refl true
    | assumption
    | with_reducible exact into_refl _ _
    | split
    | with_reducible apply into_step (into_setBitF _ _ _)
    | intro _
    | dsimp only

theorem into_raiseMs (d : Dev) (n : Nat) : Dev.into [.flds, .evtMs] d (Dev.raiseMs d n) := by
  unfold Dev.raiseMs
  repeat'
    first
    | (with_reducible show Part.sub _ _ = true); exact Eq.refl true
    | assumption
    | with_reducible exact into_refl _ _
    | split
    | with_reducible apply into_step (into_raise _ _)
    | intro _
    | dsimp only
    | exact intoOk_intro rfl rfl ⟨rfl, rfl, rfl⟩
    | with_reducible apply into_mk_step

theorem into_partWrite {ps : List Part} (hp : Part.sub [.flds] ps = true) {d e : Dev} (n x : Nat) (f : Dev → Dev) (k : Dev.into ps d e) (hf : ∀ d, Dev.into ps d (f d)) :
    Dev.into ps d (e.partWrite n x f) := by
  refine into_trans k ?_
  unfold Dev.partWrite
  split
  · exact into_trans (into_sub (into_set _ _ _) hp) (into_sub (into_raise _ _) hp)
  · exact hf e

theorem into_wake (d : Dev) (kind i : Nat) : Dev.into [.flds, .pwr] d (Dev.wake d kind i) := by
  unfold Dev.wake
  repeat'
    first
    | (with_reducible show Part.sub _ _ = true); exact Eq.refl true
    | assumption
    | with_reducible exact into_refl _ _
    | split
    | with_reducible apply into_step (into_cntPwr _ _)
    | intro _
    | dsimp only
    | exact intoOk_intro rfl rfl ⟨rfl, rfl, rfl⟩
    | with_reducible apply into_mk_step

theorem into_mapAdd (d : Dev) (cls loc count action : Nat) : Dev.into [.flds, .flt] d (Dev.mapAdd d cls loc count action) := by
  unfold Dev.mapAdd
  repeat'
    first
    | (with_reducible show Part.sub _ _ = true); exact Eq.refl true
    | assumption
    | with_reducible exact into_refl _ _
    | split
    | with_reducible apply into_step (into_cntNvs _ _)
    | with_reducible apply into_step (into_raise _ _)
    | intro _
    | dsimp only
    | exact intoOk_intro rfl rfl ⟨rfl, rfl, rfl⟩
    | with_reducible apply into_mk_step

theorem into_markRetired (d : Dev) (cls loc action : Nat) : Dev.into [.flt] d (Dev.markRetired d cls loc action) := by
  unfold Dev.markRetired
  repeat'
    first
    | (with_reducible show Part.sub _ _ = true); exact Eq.refl true
    | assumption
    | with_reducible exact into_refl _ _
    | split
    | intro _
    | dsimp only
    | exact intoOk_intro rfl rfl ⟨rfl, rfl, rfl⟩
    | with_reducible apply into_mk_step

theorem into_lasting (d : Dev) (cls loc count action : Nat) : Dev.into [.flds, .flt] d (Dev.lasting d cls loc count action).1 := by
  unfold Dev.lasting
  repeat'
    first
    | (with_reducible show Part.sub _ _ = true); exact Eq.refl true
    | assumption
    | with_reducible exact into_refl _ _
    | split
    | with_reducible apply into_step (into_raise _ _)
    | with_reducible apply into_step (into_cntNvs _ _)
    | with_reducible apply into_step (into_mapAdd _ _ _ _ _)
    | with_reducible apply into_step (into_markRetired _ _ _ _)
    | intro _
    | dsimp only

theorem into_setTracks (d : Dev) (l : List Track) : Dev.into [.flt] d (Dev.setTracks d l) := by
  unfold Dev.setTracks
  repeat'
    first
    | (with_reducible show Part.sub _ _ = true); exact Eq.refl true
    | assumption
    | with_reducible exact into_refl _ _
    | split
    | intro _
    | dsimp only
    | exact intoOk_intro rfl rfl ⟨rfl, rfl, rfl⟩
    | with_reducible apply into_mk_step

theorem into_trackRoom (d : Dev) (live : List Track) : Dev.into [.flds, .evtMs] d (Dev.trackRoom d live).2 := by
  unfold Dev.trackRoom
  repeat'
    first
    | (with_reducible show Part.sub _ _ = true); exact Eq.refl true
    | assumption
    | with_reducible exact into_refl _ _
    | split
    | with_reducible apply into_step (into_cntNvs _ _)
    | with_reducible apply into_step (into_raiseMs _ _)
    | intro _
    | dsimp only

theorem into_errCount (d : Dev) (cls loc action : Nat) : Dev.into [.flds, .evtMs, .flt] d (Dev.errCount d cls loc action).1 := by
  unfold Dev.errCount
  repeat'
    first
    | (with_reducible show Part.sub _ _ = true); exact Eq.refl true
    | assumption
    | with_reducible exact into_refl _ _
    | split
    | with_reducible apply into_step (into_count _ _ _ _ _ _)
    | with_reducible apply into_step (into_setTracks _ _)
    | with_reducible apply into_step (into_lasting _ _ _ _ _)
    | with_reducible apply into_step (into_trackRoom _ _)
    | intro _
    | dsimp only

theorem into_err (d : Dev) (cls loc : Nat) : Dev.into [.flds, .evtMs, .flt] d (Dev.err d cls loc) := by
  unfold Dev.err
  repeat'
    first
    | (with_reducible show Part.sub _ _ = true); exact Eq.refl true
    | assumption
    | with_reducible exact into_refl _ _
    | split
    | with_reducible apply into_step (into_errCount _ _ _ _)
    | with_reducible apply into_step (into_of_1 (by assumption) (into_errCount _ _ _ _))
    | intro _
    | dsimp only

theorem into_hostNote (d : Dev) (f : Fld) (bar addr : Nat) : Dev.into [.flds] d (Dev.hostNote d f bar addr) := by
  unfold Dev.hostNote
  repeat'
    first
    | (with_reducible show Part.sub _ _ = true); exact Eq.refl true
    | assumption
    | with_reducible exact into_refl _ _
    | split
    | with_reducible apply into_step (into_set _ _ _)
    | intro _
    | dsimp only

theorem into_hostErr (d : Dev) (f : Fld) (bar addr : Nat) : Dev.into [.flds] d (Dev.hostErr d f bar addr) := by
  unfold Dev.hostErr
  repeat'
    first
    | (with_reducible show Part.sub _ _ = true); exact Eq.refl true
    | assumption
    | with_reducible exact into_refl _ _
    | split
    | with_reducible apply into_step (into_hostNote _ _ _ _)
    | with_reducible apply into_step (into_raise _ _)
    | intro _
    | dsimp only

theorem into_hostDeny (d : Dev) (f : Fld) (bar addr : Nat) : Dev.into [.flds] d (Dev.hostDeny d f bar addr) := by
  unfold Dev.hostDeny
  repeat'
    first
    | (with_reducible show Part.sub _ _ = true); exact Eq.refl true
    | assumption
    | with_reducible exact into_refl _ _
    | split
    | with_reducible apply into_step (into_hostNote _ _ _ _)
    | with_reducible apply into_step (into_hostErr _ _ _ _)
    | intro _
    | dsimp only

theorem into_hostRead (d : Dev) (v : List Nat) : Dev.into [.host] d (Dev.hostRead d v) := by
  unfold Dev.hostRead
  repeat'
    first
    | (with_reducible show Part.sub _ _ = true); exact Eq.refl true
    | assumption
    | with_reducible exact into_refl _ _
    | split
    | intro _
    | dsimp only
    | exact intoOk_intro rfl rfl ⟨rfl, rfl, rfl⟩
    | with_reducible apply into_mk_step

theorem into_hostReg {ps : List Part} (hp : Part.sub [.flds] ps = true) {d e : Dev} (a : Nat) (f : Dev → Dev) (k : Dev.into ps d e) (hf : ∀ d, Dev.into ps d (f d)) :
    Dev.into ps d (e.hostReg a f) := by
  refine into_trans k ?_
  unfold Dev.hostReg
  split
  · exact into_refl _ _
  · split
    · exact into_sub (into_hostDeny _ _ _ _) hp
    · exact hf e

theorem into_hostWord {ps : List Part} (hp : Part.sub [.flds] ps = true) {d e : Dev} (o a : Nat) (f : Dev → Dev) (k : Dev.into ps d e) (hf : ∀ d, Dev.into ps d (f d)) :
    Dev.into ps d (e.hostWord o a f) := by
  refine into_trans k ?_
  unfold Dev.hostWord
  split
  · exact into_refl _ _
  · split
    · exact into_sub (into_hostDeny _ _ _ _) hp
    · exact hf e

theorem into_pipeSet (d : Dev) (q : Pkt → Bool) (f : Pkt → Pkt) : Dev.into [.pipe] d (Dev.pipeSet d q f) := by
  unfold Dev.pipeSet
  repeat'
    first
    | (with_reducible show Part.sub _ _ = true); exact Eq.refl true
    | assumption
    | with_reducible exact into_refl _ _
    | split
    | intro _
    | dsimp only
    | exact intoOk_intro rfl rfl ⟨rfl, rfl, rfl⟩
    | with_reducible apply into_mk_step

theorem into_pipeDel (d : Dev) (q : Pkt → Bool) : Dev.into [.pipe] d (Dev.pipeDel d q) := by
  unfold Dev.pipeDel
  repeat'
    first
    | (with_reducible show Part.sub _ _ = true); exact Eq.refl true
    | assumption
    | with_reducible exact into_refl _ _
    | split
    | intro _
    | dsimp only
    | exact intoOk_intro rfl rfl ⟨rfl, rfl, rfl⟩
    | with_reducible apply into_mk_step

end Sys2Proof.Machine
end

