-- ==== Sys2Proof/Laws/IntoBpm.lean ====
section
/-! SUPPORT. Which parts of the device the operations of Machine/Bpm.lean can touch, and that they keep it sound. -/


namespace Sys2Proof.Machine

open Sys2Proof

theorem into_ringRd (d : Dev) (r : RingDef) (v : Nat) : Dev.into [.flds, .tbl] d (Dev.ringRd d r v) := by
  unfold Dev.ringRd
  repeat'
    first
    | (with_reducible show Part.sub _ _ = true); exact Eq.refl true
    | assumption
    | with_reducible exact into_refl _ _
    | split
    | with_reducible apply into_step (into_set _ _ _)
    | intro _
    | dsimp only
    | exact intoOk_intro rfl rfl ⟨rfl, rfl, rfl⟩
    | with_reducible apply into_mk_step

theorem into_ringEmpty (d : Dev) (r : RingDef) : Dev.into [.flds, .tbl, .flt] d (Dev.ringEmpty d r) := by
  unfold Dev.ringEmpty
  repeat'
    first
    | (with_reducible show Part.sub _ _ = true); exact Eq.refl true
    | assumption
    | with_reducible exact into_refl _ _
    | split
    | with_reducible apply into_step (into_set _ _ _)
    | intro _
    | dsimp only
    | exact intoOk_intro rfl rfl ⟨rfl, rfl, rfl⟩
    | with_reducible apply into_mk_step

theorem into_badHandle (d : Dev) (h : Nat) : Dev.into [.flds] d (Dev.badHandle d h) := by
  unfold Dev.badHandle
  repeat'
    first
    | (with_reducible show Part.sub _ _ = true); exact Eq.refl true
    | assumption
    | with_reducible exact into_refl _ _
    | split
    | with_reducible apply into_step (into_cntBpm _ _ _)
    | with_reducible apply into_step (into_raise _ _)
    | intro _
    | dsimp only

theorem into_setRing (d : Dev) (h k : Nat) (r : List (Nat × Nat)) : Dev.into [.buf] d (Dev.setRing d h k r) := by
  unfold Dev.setRing
  repeat'
    first
    | (with_reducible show Part.sub _ _ = true); exact Eq.refl true
    | assumption
    | with_reducible exact into_refl _ _
    | split
    | intro _
    | dsimp only
    | exact intoOk_intro rfl rfl ⟨rfl, rfl, rfl⟩
    | with_reducible apply into_mk_step

theorem into_setCache (d : Dev) (h k : Nat) (r : List (Nat × Nat)) : Dev.into [.buf] d (Dev.setCache d h k r) := by
  unfold Dev.setCache
  repeat'
    first
    | (with_reducible show Part.sub _ _ = true); exact Eq.refl true
    | assumption
    | with_reducible exact into_refl _ _
    | split
    | intro _
    | dsimp only
    | exact intoOk_intro rfl rfl ⟨rfl, rfl, rfl⟩
    | with_reducible apply into_mk_step

theorem into_bad_with (d : Dev) (b : Sparse Nat) : Dev.into [.bad] d { d with bad := b } := by
  refine into_mk_step (into_refl _ _) ?_
  exact intoOk_intro rfl rfl ⟨rfl, rfl, rfl⟩

theorem into_info_with (d : Dev) (m : Sparse Nat) : Dev.into [.buf] d { d with buf.info := m } := by
  refine into_mk_step (into_refl _ _) ?_
  exact intoOk_intro rfl rfl ⟨rfl, rfl, rfl⟩

theorem into_setInfo (d : Dev) (h x w : Nat) : Dev.into [.buf, .bad] d (Dev.setInfo d h x w) := by
  unfold Dev.setInfo
  generalize sset d.buf.info (metaKey h x) (metaParity w) 0x80000000 = m
  generalize sset d.bad (metaA h x) 0 0 = b
  exact into_step (into_bad_with _ b) rfl (into_step (into_info_with d m) rfl (into_refl _ _))

theorem into_handleErr (d : Dev) (h x : Nat) : Dev.into [.flds, .buf, .bad] d (Dev.handleErr d h x) := by
  unfold Dev.handleErr
  exact into_step (into_raise _ _) rfl (into_step (into_bad_with _ _) rfl (into_step (into_setInfo _ _ _ _) rfl (into_refl _ _)))

theorem into_ite_snd {α : Type} {ps : List Part} {d : Dev} {c : Bool} {x y : α × Dev} (h : Dev.into ps d x.2) (k : Dev.into ps d y.2) :
    Dev.into ps d (if c then x else y).2 := by
  cases c <;> assumption

theorem into_readEntry (d : Dev) (h k : Nat) (a : List (Nat × Nat) × Dev) (e : Nat × Nat) :
    Dev.into [.flds, .buf, .bad] a.2 (Dev.readEntry d h k a e).2 :=
  into_ite_snd (into_handleErr a.2 h (e.1 - entryA h 0)) (into_refl _ _)

theorem into_readEntries (d : Dev) (h k : Nat) (r : List (Nat × Nat)) : Dev.into [.flds, .buf, .bad] d (Dev.readEntries d h k r).2 := by
  unfold Dev.readEntries
  exact into_foldl_snd (into_readEntry d h k) d.bad (r, d)

theorem into_batchIn (d : Dev) (h k : Nat) : Dev.into [.flds, .buf, .bad] d (Dev.batchIn d h k) := by
  unfold Dev.batchIn
  repeat'
    first
    | (with_reducible show Part.sub _ _ = true); exact Eq.refl true
    | assumption
    | with_reducible exact into_refl _ _
    | split
    | with_reducible apply into_step (into_setRing _ _ _ _)
    | with_reducible apply into_step (into_setCache _ _ _ _)
    | with_reducible apply into_step (into_cntBpm _ _ _)
    | with_reducible exact into_of_2 (by assumption) (into_readEntries _ _ _ _)
    | intro _
    | dsimp only

theorem into_batchOut (d : Dev) (h k : Nat) : Dev.into [.flds, .buf, .bad] d (Dev.batchOut d h k) := by
  unfold Dev.batchOut
  repeat'
    first
    | (with_reducible show Part.sub _ _ = true); exact Eq.refl true
    | assumption
    | with_reducible exact into_refl _ _
    | split
    | with_reducible apply into_step (into_setCache _ _ _ _)
    | with_reducible apply into_step (into_setRing _ _ _ _)
    | with_reducible apply into_step (into_cntBpm _ _ _)
    | with_reducible exact into_of_2 (by assumption) (into_readEntries _ _ _ _)
    | intro _
    | dsimp only

theorem into_fillCells (d : Dev) (h : Nat) (y0 : List Nat) (y1 : List Byte) : Dev.into [.mem, .bad] d (Dev.fillCells d h y0 y1) := by
  fun_induction Dev.fillCells d h y0 y1
  repeat'
    first
    | (with_reducible show Part.sub _ _ = true); exact Eq.refl true
    | assumption
    | with_reducible exact into_refl _ _
    | split
    | with_reducible apply into_step (into_wrBytes _ _ _)
    | with_reducible refine into_trans ?_ (by assumption)
    | intro _
    | dsimp only

theorem into_bpmEnableEff (h v : Nat) (d : Dev) : Dev.into [.flds] d (bpmEnableEff h v d) := by
  unfold bpmEnableEff
  repeat'
    first
    | (with_reducible show Part.sub _ _ = true); exact Eq.refl true
    | assumption
    | with_reducible exact into_refl _ _
    | split
    | with_reducible apply into_step (into_set _ _ _)
    | with_reducible apply into_step (into_raise _ _)
    | intro _
    | dsimp only

theorem into_ringAppend (d : Dev) (r : RingDef) (bs : List Byte) (lost : Dev → Dev) (hl : ∀ d, Dev.into [.flds] d (lost d)) :
    Dev.into [.flds, .tbl, .mem, .bad, .flt] d (Dev.ringAppend d r bs lost) := by
  unfold Dev.ringAppend
  repeat'
    first
    | (with_reducible show Part.sub _ _ = true); exact Eq.refl true
    | assumption
    | with_reducible exact into_refl _ _
    | split
    | with_reducible apply into_step (into_set _ _ _)
    | with_reducible apply into_step (into_raise _ _)
    | with_reducible apply into_step (into_wrBytes _ _ _)
    | with_reducible apply into_step (hl _)
    | intro _
    | dsimp only
    | exact intoOk_intro rfl rfl ⟨rfl, rfl, rfl⟩
    | with_reducible apply into_mk_step

theorem into_unlist (d : Dev) (h x : Nat) : Dev.into [.buf] d (Dev.unlist d h x) := by
  unfold Dev.unlist
  exact into_step (into_setCache _ _ _ _) rfl (into_step (into_setRing _ _ _ _) rfl (into_refl _ _))

theorem into_metaParityErr (d : Dev) (h x q : Nat) : Dev.into [.flds, .tbl, .mem, .bad, .buf, .flt] d (Dev.metaParityErr d h x q) := by
  unfold Dev.metaParityErr Dev.quarLog
  exact into_step (into_raise _ _) rfl (into_step (into_cntBpm _ _ _) rfl
    (into_step (into_ringAppend _ _ _ _ (fun d => into_cntBpm d h 9)) rfl
      (into_step (into_setInfo _ _ _ _) rfl (into_step (into_unlist _ _ _) rfl (into_refl _ _)))))

theorem into_bpmFindQ (h : Nat) (d : Dev) : Dev.into [.flds, .tbl, .mem, .bad, .buf, .flt] d (bpmFindQ h d).2 := by
  unfold bpmFindQ
  repeat'
    first
    | (with_reducible show Part.sub _ _ = true); exact Eq.refl true
    | assumption
    | with_reducible exact into_refl _ _
    | split
    | with_reducible apply into_step (into_badHandle _ _)
    | with_reducible apply into_step (into_metaParityErr _ _ _ _)
    | intro _
    | dsimp only

end Sys2Proof.Machine
end

