-- ==== Sys2Proof/Laws/Sound.lean ====
section
/-! SUPPORT. Rules for showing that an operation keeps a sound device sound. -/

namespace Sys2Proof.Machine

open Sys2Proof

/-- An update of other parts than memory, registers and the time unit. -/
theorem Dev.sound_upd {e : Dev} {x0 x1 x2 x5 x6 x7 x8 x9 x10 x11 x12 x13 x14 x15 x17 x18 x19 x20 x21 x22} :
    Dev.sound ⟨x0, x1, x2, e.flds, e.mem, x5, x6, x7, x8, x9, x10, x11, x12, x13, x14, x15, e.tmu, x17, x18, x19, x20, x21, x22⟩ ↔ e.sound := Iff.rfl

/-- An update of parts of the time unit other than the time of day. -/
theorem Dev.sound_tmu {e : Dev} {x0 x1 x2 x5 x6 x7 x8 x9 x10 x11 x12 x13 x14 x15 a1 a2 a3 a4 a5 a6 a7 a8 a9 a10 a11 x17 x18 x19 x20 x21 x22} :
    Dev.sound ⟨x0, x1, x2, e.flds, e.mem, x5, x6, x7, x8, x9, x10, x11, x12, x13, x14, x15, ⟨e.tmu.sec, e.tmu.ns, e.tmu.frac, a1, a2, a3, a4, a5, a6, a7, a8, a9, a10, a11⟩, x17, x18, x19, x20, x21, x22⟩ ↔ e.sound := Iff.rfl

theorem Dev.sound_of_2 {α : Type} {e : Dev} {p : α × Dev} {a : α} (h : p = (a, e)) (k : p.2.sound) : e.sound := by
  subst h; exact k
theorem Dev.sound_of_1 {α : Type} {e : Dev} {p : Dev × α} {a : α} (h : p = (e, a)) (k : p.1.sound) : e.sound := by
  subst h; exact k
theorem Dev.sound_of_22 {α β : Type} {e : Dev} {p : α × β × Dev} {a : α} {b : β} (h : p = (a, b, e)) (k : p.2.2.sound) : e.sound := by
  subst h; exact k
theorem Dev.sound_of_21 {α β : Type} {e : Dev} {p : α × Dev × β} {a : α} {b : β} (h : p = (a, e, b)) (k : p.2.1.sound) : e.sound := by
  subst h; exact k
theorem Dev.sound_of_222 {α β γ : Type} {e : Dev} {p : α × β × γ × Dev} {a : α} {b : β} {c : γ} (h : p = (a, b, c, e)) (k : p.2.2.2.sound) : e.sound := by
  subst h; exact k

/-- Folding over a list. -/
theorem Dev.foldl_sound {α : Type} (f : Dev → α → Dev) (l : List α) (d : Dev) (h : d.sound) (k : ∀ d a, d.sound → (f d a).sound) : (l.foldl f d).sound := by
  induction l generalizing d with
  | nil => exact h
  | cons a l ih => exact ih _ (k d a h)

theorem Dev.foldl_snd_sound {α β : Type} (f : β × Dev → α → β × Dev) (l : List α) (p : β × Dev) (h : p.2.sound) (k : ∀ p a, p.2.sound → (f p a).2.sound) :
    (l.foldl f p).2.sound := by
  induction l generalizing p with
  | nil => exact h
  | cons a l ih => exact ih _ (k p a h)

/-- Folding over 0 to n − 1. -/
theorem Dev.forN_sound (f : Nat → Dev → Dev) (n : Nat) (d : Dev) (h : d.sound) (k : ∀ i d, d.sound → (f i d).sound) : (forN n d f).sound := by
  induction n with
  | zero => exact h
  | succ n ih => exact k n _ ih

theorem Dev.set_sound (d : Dev) (f : Fld) (v : Nat) (h : d.sound) : (d.set f v).sound := ⟨h.1, ssorted_sset _ _ _ h.2.1, h.2.2⟩

theorem Dev.wrBytes_sound (d : Dev) (a : Nat) (bs : List Byte) (h : d.sound) : (d.wrBytes a bs).sound := ⟨Memory.wf_memSets _ _ h.1, h.2⟩

theorem Dev.clearRange_sound (d : Dev) (a n : Nat) (h : d.sound) : (d.clearRange a n).sound := ⟨Memory.wf_filter _ h.1, h.2⟩

end Sys2Proof.Machine
end

