-- ==== Sys2Proof/WellFormed.lean ====
section
/-! DEFINITION. Which commands are well-formed: operands within the range that the spec gives the object they name (spec/00 to spec/20: 8 slices, 32 octets, 265 ports, 2 halves, 64 clusters, 512 engines, 4,096 contexts, 105 partitions). -/

namespace Sys2Proof

/-- Bit errors in words: 0 none, 1 correctable, 2 not. -/
def upsOk (l : List (Nat × Nat)) : Bool := l.all (fun e => Nat.ble e.2 2)

/-- At least one byte, at most `n`. -/
def bytesOk (n : Nat) (bs : List Byte) : Bool := Nat.ble 1 bs.length && Nat.ble bs.length n

/-- Whether a command's operands are in range. -/
def Instr.wf (i : Instr) : Bool :=
  match i with
  | .hostRegisterWrite a bs => Nat.blt a 0x4000000 && bytesOk 64 bs
  | .hostBadAccess _ a _ _ => Nat.blt a 0x4000000
  | .hostUnmappedAccess _ bar a _ => Nat.blt bar 2 && Nat.blt a (2 ^ 30)
  | .bar2Write o bs => Nat.blt o (2 ^ 30) && bytesOk 512 bs
  | .hostReadTimeout bar a _ => Nat.blt bar 2 && Nat.blt a (2 ^ 30)
  | .pcieReset => true
  | .hostFenceWrite token => Nat.blt token (2 ^ 16)
  | .hostFenceComplete => true
  | .lockWrite v => Nat.blt v (2 ^ 64)
  | .patchLockWrite v => Nat.blt v (2 ^ 64)
  | .partArm n v => Nat.blt n 105 && Nat.blt v (2 ^ 64)
  | .epochAdvGo => true
  | .epochStamp => true
  | .epochRetire n => Nat.blt n 105
  | .epochDrainWarn => true
  | .octetModeWrite sl k v => Nat.blt sl 8 && Nat.blt k 4 && Nat.blt v (2 ^ 64)
  | .laneMapWrite sl k w v => Nat.blt sl 8 && Nat.blt k 4 && Nat.blt w 3 && Nat.blt v (2 ^ 64)
  | .portCfgWrite p v => Nat.blt p 265 && Nat.blt v (2 ^ 64)
  | .mgtCfgWrite v => Nat.blt v (2 ^ 64)
  | .pllLock o => Nat.blt o 33
  | .signalDetect p => Nat.blt p 265
  | .anComplete p => Nat.blt p 265
  | .ltComplete p => Nat.blt p 265
  | .rxAdaptDone p _ => Nat.blt p 265
  | .pcsAlignDone p _ => Nat.blt p 265
  | .pcsLockLoss p => Nat.blt p 265
  | .laneSignalLoss l _ => Nat.blt l 258
  | .adaptUpdate l _ _ _ => Nat.blt l 256
  | .rxFrame p _ cut ph _ => Nat.blt p 257 && Nat.blt cut 4 && Nat.blt ph (2 ^ 32)
  | .rxPauseFrame p _ => Nat.blt p 257
  | .txFrame p ph _ => Nat.blt p 265 && Nat.blt ph (2 ^ 32)
  | .injectFrame _ => true
  | .wakeFrame _ => true
  | .mgtPlainFrame _ => true
  | .recircFrame sl => Nat.blt sl 8
  | .parseFrame p ups => Nat.blt p 265 && upsOk ups
  | .graphWalk sl _ ups => Nat.blt sl 8 && upsOk ups
  | .profileWrite sl p w v => Nat.blt sl 8 && Nat.blt p 64 && Nat.blt w 16 && Nat.blt v (2 ^ 64)
  | .payloadScan p ups => Nat.blt p 265 && upsOk ups
  | .classify p ups fl => Nat.blt p 265 && upsOk ups && upsOk fl
  | .clsScrub sl ix ups fl => Nat.blt sl 8 && Nat.blt ix 49152 && upsOk ups && upsOk fl
  | .clsEntryWrite sl kind _ w v => Nat.blt sl 8 && Nat.blt kind 3 && Nat.blt w 16 && Nat.blt v (2 ^ 64)
  | .clsProbe sl v => Nat.blt sl 8 && Nat.blt v (2 ^ 64)
  | .clsProbeDone sl ups fl => Nat.blt sl 8 && upsOk ups && upsOk fl
  | .forwardLookup p ups => Nat.blt p 265 && upsOk ups
  | .learnApply sl _ ups => Nat.blt sl 8 && upsOk ups
  | .fwdAgeVisit sl t k w => Nat.blt sl 8 && Nat.blt t 2 && Nat.blt k (2 ^ 20) && upsOk w.2
  | .fwdInsert sl v => Nat.blt sl 8 && Nat.blt v (2 ^ 64)
  | .fwdDelete sl v => Nat.blt sl 8 && Nat.blt v (2 ^ 64)
  | .fwdSetSets sl v => Nat.blt sl 8 && Nat.blt v (2 ^ 64)
  | .fwdLookup sl v => Nat.blt sl 8 && Nat.blt v (2 ^ 64)
  | .fwdCmdDone sl => Nat.blt sl 8
  | .tableWordWrite sl o v => Nat.blt sl 8 && Nat.blt o 0x1C20000 && Nat.blt v (2 ^ 64)
  | .ringRdWrite r v => Nat.blt r 12 && Nat.blt v (2 ^ 64)
  | .ringBaseSizeWrite r _ v => Nat.blt r 12 && Nat.blt v (2 ^ 64)
  | .faceLookup p ups => Nat.blt p 265 && upsOk ups
  | .faceMissResume sl => Nat.blt sl 8
  | .flowUpdate sl ups => Nat.blt sl 8 && upsOk ups
  | .benchLookup _ ups => upsOk ups
  | .lookupResponse _ => true
  | .benchWriteBack _ ups => upsOk ups
  | .benchCommit _ ups => upsOk ups
  | .commitResponse _ => true
  | .benchRelease _ ups => upsOk ups
  | .benchLate _ ups => upsOk ups
  | .pushReceive _ => true
  | .benchTimeout _ => true
  | .faceFlush sl _ => Nat.blt sl 8
  | .faceIdleRelease sl _ => Nat.blt sl 8
  | .faceFlushAll sl v => Nat.blt sl 8 && Nat.blt v (2 ^ 64)
  | .qryAgeVisit h _ j ups => Nat.blt h 2 && Nat.blt j 4 && upsOk ups
  | .benchDelete _ ups => upsOk ups
  | .deleteInvalidate _ sl => Nat.blt sl 8
  | .deleteFinish _ => true
  | .qryLookup v ups => Nat.blt v (2 ^ 64) && upsOk ups
  | .qryInsert v ups => Nat.blt v (2 ^ 64) && upsOk ups
  | .qryDelete v ups => Nat.blt v (2 ^ 64) && upsOk ups
  | .qryRead v ups => Nat.blt v (2 ^ 64) && upsOk ups
  | .qryWrite v ups => Nat.blt v (2 ^ 64) && upsOk ups
  | .qryCmdDone => true
  | .qryGcfgWrite v => Nat.blt v (2 ^ 64)
  | .benchInitDone => true
  | .dispatch c => Nat.blt c 64
  | .flowOrderRelease c _ => Nat.blt c 64
  | .forkChildReady n => Nat.blt n 4096
  | .faultDelivery n => Nat.blt n 4096
  | .keeperTimeout n => Nat.blt n 4096
  | .threadTimeout n => Nat.blt n 4096
  | .channelReclaim c ix => Nat.blt c 64 && Nat.blt ix 16
  | .fogSignal e => Nat.blt e 512
  | .clCtlWrite c v => Nat.blt c 64 && Nat.blt v (2 ^ 64)
  | .shareCfgWrite c v => Nat.blt c 64 && Nat.blt v (2 ^ 64)
  | .cregWrite c ix v => Nat.blt c 64 && Nat.blt ix 64 && Nat.blt v (2 ^ 64)
  | .microwordFetch e _ _ up => Nat.blt e 512 && Nat.blt up (2 ^ 168)
  | .operationComplete n => Nat.blt n 4096
  | .fenceLocal n => Nat.blt n 4096
  | .fenceFlow n => Nat.blt n 4096
  | .fenceAll n => Nat.blt n 4096
  | .aluNop n ups => Nat.blt n 4096 && upsOk ups
  | .add n ups => Nat.blt n 4096 && upsOk ups
  | .sub n ups => Nat.blt n 4096 && upsOk ups
  | .and n ups => Nat.blt n 4096 && upsOk ups
  | .or n ups => Nat.blt n 4096 && upsOk ups
  | .xor n ups => Nat.blt n 4096 && upsOk ups
  | .andn n ups => Nat.blt n 4096 && upsOk ups
  | .mov n ups => Nat.blt n 4096 && upsOk ups
  | .shl n ups => Nat.blt n 4096 && upsOk ups
  | .shr n ups => Nat.blt n 4096 && upsOk ups
  | .sar n ups => Nat.blt n 4096 && upsOk ups
  | .srand n ups => Nat.blt n 4096 && upsOk ups
  | .shlor n ups => Nat.blt n 4096 && upsOk ups
  | .min n ups => Nat.blt n 4096 && upsOk ups
  | .max n ups => Nat.blt n 4096 && upsOk ups
  | .mullo n ups => Nat.blt n 4096 && upsOk ups
  | .mulhi n ups => Nat.blt n 4096 && upsOk ups
  | .csadd n ups => Nat.blt n 4096 && upsOk ups
  | .crc32c n ups => Nat.blt n 4096 && upsOk ups
  | .popcnt n ups => Nat.blt n 4096 && upsOk ups
  | .ffs n ups => Nat.blt n 4096 && upsOk ups
  | .memNop n => Nat.blt n 4096
  | .ldh n => Nat.blt n 4096
  | .sth n => Nat.blt n 4096
  | .ldk n => Nat.blt n 4096
  | .lds n ups => Nat.blt n 4096 && upsOk ups
  | .sts n => Nat.blt n 4096
  | .ldc n ups => Nat.blt n 4096 && upsOk ups
  | .stc n => Nat.blt n 4096
  | .atomAdd n ups => Nat.blt n 4096 && upsOk ups
  | .atomSwap n ups => Nat.blt n 4096 && upsOk ups
  | .atomCas n ups => Nat.blt n 4096 && upsOk ups
  | .ldm n ups => Nat.blt n 4096 && upsOk ups
  | .stm n => Nat.blt n 4096
  | .addm n => Nat.blt n 4096
  | .balloc n => Nat.blt n 4096
  | .bfree n => Nat.blt n 4096
  | .bref n => Nat.blt n 4096
  | .bld n => Nat.blt n 4096
  | .bst n => Nat.blt n 4096
  | .txgen n => Nat.blt n 4096
  | .qrd n => Nat.blt n 4096
  | .qwr n => Nat.blt n 4096
  | .qadd n => Nat.blt n 4096
  | .qrel n => Nat.blt n 4096
  | .qtake n => Nat.blt n 4096
  | .qins n => Nat.blt n 4096
  | .qdel n => Nat.blt n 4096
  | .copen n => Nat.blt n 4096
  | .cput n => Nat.blt n 4096
  | .ccommit n => Nat.blt n 4096
  | .cabort n => Nat.blt n 4096
  | .crecv n ups => Nat.blt n 4096 && upsOk ups
  | .pktSend n => Nat.blt n 4096
  | .pktDrop n => Nat.blt n 4096
  | .pktPunt n => Nat.blt n 4096
  | .pktRecirc n => Nat.blt n 4096
  | .hins n => Nat.blt n 4096
  | .hdel n => Nat.blt n 4096
  | .kopTake n => Nat.blt n 4096
  | .kopResume n => Nat.blt n 4096
  | .kopDrop n => Nat.blt n 4096
  | .kopPass n => Nat.blt n 4096
  | .kick n => Nat.blt n 4096
  | .rdp n => Nat.blt n 4096
  | .wrp n => Nat.blt n 4096
  | .rdh n => Nat.blt n 4096
  | .wrh n => Nat.blt n 4096
  | .kopStat n => Nat.blt n 4096
  | .next n => Nat.blt n 4096
  | .jump n => Nat.blt n 4096
  | .branch n => Nat.blt n 4096
  | .mway n => Nat.blt n 4096
  | .call n => Nat.blt n 4096
  | .ret n => Nat.blt n 4096
  | .waitc n ups => Nat.blt n 4096 && upsOk ups
  | .fork n => Nat.blt n 4096
  | .join n => Nat.blt n 4096
  | .seqEnd n => Nat.blt n 4096
  | .kwait n => Nat.blt n 4096
  | .patchWrite c v => Nat.blt c 64 && Nat.blt v (2 ^ 64)
  | .patchCopy c v => Nat.blt c 64 && Nat.blt v (2 ^ 64)
  | .patchRepair c v => Nat.blt c 64 && Nat.blt v (2 ^ 64)
  | .patchDone c ups _ => Nat.blt c 64 && upsOk ups
  | .bpmEnable h v => Nat.blt h 2 && Nat.blt v (2 ^ 64)
  | .bpmInitDone h => Nat.blt h 2
  | .ringBatch h k => Nat.blt h 2 && Nat.blt k 8
  | .readMeta h v => Nat.blt h 2 && Nat.blt v (2 ^ 64)
  | .releaseQ h v => Nat.blt h 2 && Nat.blt v (2 ^ 64)
  | .findQ h v => Nat.blt h 2 && Nat.blt v (2 ^ 64)
  | .bpmCmdDone h => Nat.blt h 2
  | .admitFrame _ _ ups => upsOk ups
  | .creditReturn _ => true
  | .d2dCross _ _ => true
  | .scheduleDequeue p _ => Nat.blt p 265
  | .overflowReadDone p q => Nat.blt p 265 && Nat.blt q 16
  | .residueRetry h _ => Nat.blt h 2
  | .downHoldExpire p => Nat.blt p 265
  | .residencyScan p q => Nat.blt p 265 && Nat.blt q 16
  | .pauseRefresh p k => Nat.blt p 265 && Nat.blt k 9
  | .pauseExpire p k => Nat.blt p 265 && Nat.blt k 9
  | .d2dFlitCrcError g _ => Nat.blt g 16
  | .d2dGroupFail g _ => Nat.blt g 16
  | .hbmCmdRetry k a => Nat.blt k 4 && Nat.blt a.1 0x2000000000
  | .hbmRetryFail k kind _ _ _ => Nat.blt k 4 && Nat.blt kind 4
  | .rowRepairDone l => Nat.blt l (2 ^ 31)
  | .trackerWindowEnd cls loc => Nat.blt cls 9 && Nat.blt loc (2 ^ 40)
  | .mapWrite mv => Nat.blt mv (2 ^ 16)
  | .psDeferRetry _ mv => Nat.blt mv (2 ^ 16)
  | .psRead v ups => Nat.blt v (2 ^ 64) && upsOk ups
  | .psWrite v mv => Nat.blt v (2 ^ 64) && Nat.blt mv (2 ^ 16)
  | .unretire v mv => Nat.blt v (2 ^ 64) && Nat.blt mv (2 ^ 16)
  | .psCmdDone => true
  | .pwrFailAssert _ _ => true
  | .pwrFailDeassert => true
  | .timeStepGo v => Nat.blt v (2 ^ 64)
  | .timeStep => true
  | .adjWrite v => Nat.blt v (2 ^ 64)
  | .slewComplete => true
  | .incrWrite v => Nat.blt v (2 ^ 64)
  | .todRead => true
  | .refLoss => true
  | .refLock => true
  | .captureEdge k ph => Nat.blt k 3 && Nat.blt ph (2 ^ 32)
  | .ppsOutRise => true
  | .ppsOutFall => true
  | .txtsPop p => Nat.blt p 257
  | .buoyRelease p q => Nat.blt p 265 && Nat.blt q 16
  | .buoyLaunch p ph => Nat.blt p 265 && Nat.blt ph (2 ^ 32)
  | .coldReset _ _ => true
  | .softReset key _ _ => Nat.blt key (2 ^ 16)
  | .resetRelease straps => Nat.blt straps 64
  | .hbmInitDone _ flash _ sec page => Nat.blt flash 3 && Nat.blt sec 8 && Nat.blt page 4
  | .retirementMapApply ups => upsOk ups
  | .headerReadDone => true
  | .imageReadDone => true
  | .sigVerifyDone => true
  | .ownCheckDone => true
  | .imageApplyDone => true
  | .bootLoad v => Nat.blt v (2 ^ 64)
  | .bootOpen v => Nat.blt v (2 ^ 64)
  | .flReload ix => Nat.blt ix 1024
  | .reloadDone => true
  | .flWrite slot mv => Nat.blt slot 2 && Nat.blt mv (2 ^ 16)
  | .flashOpDone mv _ => Nat.blt mv (2 ^ 16)
  | .flashDeferRetry mv => Nat.blt mv (2 ^ 16)
  | .gpioFnWrite ix v => Nat.blt ix 16 && Nat.blt v (2 ^ 64)
  | .ident _ => true
  | .beacon _ => true
  | .boot _ => true
  | .tempMax _ _ _ => true
  | .tempH0 _ _ => true
  | .tempH1 _ _ => true
  | .vcoreReq _ => true
  | .vcoreMeas _ => true
  | .power _ => true
  | .paceMin _ => true
  | .health _ => true
  | .smbusNak => true
  | .smbusSclTimeout => true
  | .extest _ => true
  | .samplePreload _ => true
  | .idcode => true
  | .highz => true
  | .clamp => true
  | .extestPulse _ => true
  | .extestTrain _ => true
  | .bypass code => Nat.blt code 256
  | .dbgAccess _ o v => Nat.blt o (2 ^ 32) && Nat.blt v (2 ^ 64)
  | .progHash hash => Nat.blt hash (2 ^ 384)
  | .progSig => true
  | .fuseRead => true
  | .fuseCmdDone => true
  | .dbgCtlWrite c v => Nat.blt c 64 && Nat.blt v (2 ^ 64)
  | .halt c t => Nat.blt c 64 && Nat.blt t 64
  | .haltRelease c t => Nat.blt c 64 && Nat.blt t 64
  | .dbgResume c t => Nat.blt c 64 && Nat.blt t 64
  | .step c t => Nat.blt c 64 && Nat.blt t 64
  | .haltAll c => Nat.blt c 64
  | .resumeAll c => Nat.blt c 64
  | .powerOn v => Nat.blt v (2 ^ 64)
  | .park v => Nat.blt v (2 ^ 64)
  | .powerOff v => Nat.blt v (2 ^ 64)
  | .parkDelayRetry => true
  | .domainEntryDone => true
  | .domainExitDone kind ix => Nat.blt kind 5 && Nat.blt ix 64
  | .engineDoze e => Nat.blt e 512
  | .lineEnergyWake o => Nat.blt o 32
  | .governorPeriod _ => true
  | .avsResponse mv => Nat.blt mv (2 ^ 16)
  | .avsRetry => true
  | .thermalWarn h _ => Nat.blt h 2
  | .thermalLimit h _ => Nat.blt h 2
  | .thermalTrip h _ => Nat.blt h 2
  | .thermalTripClear _ _ => true
  | .vcoreDip mv _ _ => Nat.blt mv (2 ^ 16)
  | .vcoreRecover mv straps => Nat.blt mv (2 ^ 16) && Nat.blt straps 64
  | .ctrSweep _ ups => upsOk ups
  | .ctrEnable v => Nat.blt v (2 ^ 64)
  | .ctrSync token => Nat.blt token (2 ^ 16)
  | .bwWindowEnd sl j => Nat.blt sl 8 && Nat.blt j 34
  | .bwCfgWrite sl j v => Nat.blt sl 8 && Nat.blt j 34 && Nat.blt v (2 ^ 64)
  | .bwPeakRead sl j => Nat.blt sl 8 && Nat.blt j 34
  | .tapReset => true
  | .flashBusyTimeout => true
  | .flashReadTimeout => true
  | .thermalLimitClear h _ => Nat.blt h 2

end Sys2Proof
end

