-- ==== Sys2Proof/Tests/Slice0.lean ====
section
/-! SUPPORT. Tests of the model: ill-formed commands that the check refuses, single steps with results worked out from the spec, and for every clause of a statement that has hypotheses a concrete state and operands that meet them all (`test_wit_<part of the statement>`). -/

set_option linter.unusedVariables false
set_option maxRecDepth 20000
set_option Elab.async false

namespace Sys2Proof.Tests
open Sys2Proof Sys2Proof.Machine

-- Ill-formed commands, one for each check, and well-formed ones.

theorem test_wf_refuses_1 : ([.hostRegisterWrite 0x4000000 [0], .hostRegisterWrite 0 [], .hostRegisterWrite 0 (List.replicate 65 0), .hostBadAccess false 0x4000000 0 false,
    .hostUnmappedAccess false 2 0 0, .hostUnmappedAccess false 0 (2 ^ 30) 0, .bar2Write (2 ^ 30) [0], .bar2Write 0 [],
    .bar2Write 0 (List.replicate 513 0), .hostReadTimeout 2 0 (0, 0), .hostReadTimeout 0 (2 ^ 30) (0, 0), .hostFenceWrite (2 ^ 16),
    .lockWrite (2 ^ 64), .patchLockWrite (2 ^ 64), .partArm 105 0, .partArm 0 (2 ^ 64),
    .epochRetire 105, .octetModeWrite 8 0 0, .octetModeWrite 0 4 0, .octetModeWrite 0 0 (2 ^ 64),
    .laneMapWrite 8 0 0 0, .laneMapWrite 0 4 0 0, .laneMapWrite 0 0 3 0, .laneMapWrite 0 0 0 (2 ^ 64),
    .portCfgWrite 265 0, .portCfgWrite 0 (2 ^ 64), .mgtCfgWrite (2 ^ 64), .pllLock 33,
    .signalDetect 265, .anComplete 265, .ltComplete 265, .rxAdaptDone 265 [],
    .pcsAlignDone 265 0, .pcsLockLoss 265, .laneSignalLoss 258 0, .adaptUpdate 256 [] [] 0,
    .rxFrame 257 [] 0 0 (0, 0, 0), .rxFrame 0 [] 4 0 (0, 0, 0), .rxFrame 0 [] 0 (2 ^ 32) (0, 0, 0), .rxPauseFrame 257 ([], 0, 0, 0),
    .txFrame 265 0 0, .txFrame 0 (2 ^ 32) 0, .recircFrame 8, .parseFrame 265 [],
    .parseFrame 0 [(0, 3)], .graphWalk 8 0 [], .graphWalk 0 0 [(0, 3)], .profileWrite 8 0 0 0,
    .profileWrite 0 64 0 0, .profileWrite 0 0 16 0, .profileWrite 0 0 0 (2 ^ 64), .payloadScan 265 [],
    .payloadScan 0 [(0, 3)], .classify 265 [] [], .classify 0 [(0, 3)] [], .classify 0 [] [(0, 3)],
    .clsScrub 8 0 [] [], .clsScrub 0 49152 [] [], .clsScrub 0 0 [(0, 3)] [], .clsScrub 0 0 [] [(0, 3)]] : List Instr).all (fun i => !i.wf) = true := by decide +kernel
theorem test_wf_refuses_2 : ([.clsEntryWrite 8 0 0 0 0, .clsEntryWrite 0 3 0 0 0, .clsEntryWrite 0 0 0 16 0, .clsEntryWrite 0 0 0 0 (2 ^ 64),
    .clsProbe 8 0, .clsProbe 0 (2 ^ 64), .clsProbeDone 8 [] [], .clsProbeDone 0 [(0, 3)] [],
    .clsProbeDone 0 [] [(0, 3)], .forwardLookup 265 [], .forwardLookup 0 [(0, 3)], .learnApply 8 0 [],
    .learnApply 0 0 [(0, 3)], .fwdAgeVisit 8 0 0 (false, []), .fwdAgeVisit 0 2 0 (false, []), .fwdAgeVisit 0 0 (2 ^ 20) (false, []),
    .fwdAgeVisit 0 0 0 (false, [(0, 3)]), .fwdInsert 8 0, .fwdInsert 0 (2 ^ 64), .fwdDelete 8 0,
    .fwdDelete 0 (2 ^ 64), .fwdSetSets 8 0, .fwdSetSets 0 (2 ^ 64), .fwdLookup 8 0,
    .fwdLookup 0 (2 ^ 64), .fwdCmdDone 8, .tableWordWrite 8 0 0, .tableWordWrite 0 0x1C20000 0,
    .tableWordWrite 0 0 (2 ^ 64), .ringRdWrite 12 0, .ringRdWrite 0 (2 ^ 64), .ringBaseSizeWrite 12 false 0,
    .ringBaseSizeWrite 0 false (2 ^ 64), .faceLookup 265 [], .faceLookup 0 [(0, 3)], .faceMissResume 8,
    .flowUpdate 8 [], .flowUpdate 0 [(0, 3)], .benchLookup 0 [(0, 3)], .benchWriteBack 0 [(0, 3)],
    .benchCommit 0 [(0, 3)], .benchRelease 0 [(0, 3)], .benchLate 0 [(0, 3)], .faceFlush 8 0,
    .faceIdleRelease 8 0, .faceFlushAll 8 0, .faceFlushAll 0 (2 ^ 64), .qryAgeVisit 2 0 0 [],
    .qryAgeVisit 0 0 4 [], .qryAgeVisit 0 0 0 [(0, 3)], .benchDelete 0 [(0, 3)], .deleteInvalidate 0 8,
    .qryLookup (2 ^ 64) [], .qryLookup 0 [(0, 3)], .qryInsert (2 ^ 64) [], .qryInsert 0 [(0, 3)],
    .qryDelete (2 ^ 64) [], .qryDelete 0 [(0, 3)], .qryRead (2 ^ 64) [], .qryRead 0 [(0, 3)]] : List Instr).all (fun i => !i.wf) = true := by decide +kernel
theorem test_wf_refuses_3 : ([.qryWrite (2 ^ 64) [], .qryWrite 0 [(0, 3)], .qryGcfgWrite (2 ^ 64), .dispatch 64,
    .flowOrderRelease 64 0, .forkChildReady 4096, .faultDelivery 4096, .keeperTimeout 4096,
    .threadTimeout 4096, .channelReclaim 64 0, .channelReclaim 0 16, .fogSignal 512,
    .clCtlWrite 64 0, .clCtlWrite 0 (2 ^ 64), .shareCfgWrite 64 0, .shareCfgWrite 0 (2 ^ 64),
    .cregWrite 64 0 0, .cregWrite 0 64 0, .cregWrite 0 0 (2 ^ 64), .microwordFetch 512 0 0 0,
    .microwordFetch 0 0 0 (2 ^ 168), .operationComplete 4096, .fenceLocal 4096, .fenceFlow 4096,
    .fenceAll 4096, .aluNop 4096 [], .aluNop 0 [(0, 3)], .add 4096 [],
    .add 0 [(0, 3)], .sub 4096 [], .sub 0 [(0, 3)], .and 4096 [],
    .and 0 [(0, 3)], .or 4096 [], .or 0 [(0, 3)], .xor 4096 [],
    .xor 0 [(0, 3)], .andn 4096 [], .andn 0 [(0, 3)], .mov 4096 [],
    .mov 0 [(0, 3)], .shl 4096 [], .shl 0 [(0, 3)], .shr 4096 [],
    .shr 0 [(0, 3)], .sar 4096 [], .sar 0 [(0, 3)], .srand 4096 [],
    .srand 0 [(0, 3)], .shlor 4096 [], .shlor 0 [(0, 3)], .min 4096 [],
    .min 0 [(0, 3)], .max 4096 [], .max 0 [(0, 3)], .mullo 4096 [],
    .mullo 0 [(0, 3)], .mulhi 4096 [], .mulhi 0 [(0, 3)], .csadd 4096 []] : List Instr).all (fun i => !i.wf) = true := by decide +kernel
theorem test_wf_refuses_4 : ([.csadd 0 [(0, 3)], .crc32c 4096 [], .crc32c 0 [(0, 3)], .popcnt 4096 [],
    .popcnt 0 [(0, 3)], .ffs 4096 [], .ffs 0 [(0, 3)], .memNop 4096,
    .ldh 4096, .sth 4096, .ldk 4096, .lds 4096 [],
    .lds 0 [(0, 3)], .sts 4096, .ldc 4096 [], .ldc 0 [(0, 3)],
    .stc 4096, .atomAdd 4096 [], .atomAdd 0 [(0, 3)], .atomSwap 4096 [],
    .atomSwap 0 [(0, 3)], .atomCas 4096 [], .atomCas 0 [(0, 3)], .ldm 4096 [],
    .ldm 0 [(0, 3)], .stm 4096, .addm 4096, .balloc 4096,
    .bfree 4096, .bref 4096, .bld 4096, .bst 4096,
    .txgen 4096, .qrd 4096, .qwr 4096, .qadd 4096,
    .qrel 4096, .qtake 4096, .qins 4096, .qdel 4096,
    .copen 4096, .cput 4096, .ccommit 4096, .cabort 4096,
    .crecv 4096 [], .crecv 0 [(0, 3)], .pktSend 4096, .pktDrop 4096,
    .pktPunt 4096, .pktRecirc 4096, .hins 4096, .hdel 4096,
    .kopTake 4096, .kopResume 4096, .kopDrop 4096, .kopPass 4096,
    .kick 4096, .rdp 4096, .wrp 4096, .rdh 4096] : List Instr).all (fun i => !i.wf) = true := by decide +kernel
theorem test_wf_refuses_5 : ([.wrh 4096, .kopStat 4096, .next 4096, .jump 4096,
    .branch 4096, .mway 4096, .call 4096, .ret 4096,
    .waitc 4096 [], .waitc 0 [(0, 3)], .fork 4096, .join 4096,
    .seqEnd 4096, .kwait 4096, .patchWrite 64 0, .patchWrite 0 (2 ^ 64),
    .patchCopy 64 0, .patchCopy 0 (2 ^ 64), .patchRepair 64 0, .patchRepair 0 (2 ^ 64),
    .patchDone 64 [] [], .patchDone 0 [(0, 3)] [], .bpmEnable 2 0, .bpmEnable 0 (2 ^ 64),
    .bpmInitDone 2, .ringBatch 2 0, .ringBatch 0 8, .readMeta 2 0,
    .readMeta 0 (2 ^ 64), .releaseQ 2 0, .releaseQ 0 (2 ^ 64), .findQ 2 0,
    .findQ 0 (2 ^ 64), .bpmCmdDone 2, .admitFrame 0 false [(0, 3)], .scheduleDequeue 265 0,
    .overflowReadDone 265 0, .overflowReadDone 0 16, .residueRetry 2 false, .downHoldExpire 265,
    .residencyScan 265 0, .residencyScan 0 16, .pauseRefresh 265 0, .pauseRefresh 0 9,
    .pauseExpire 265 0, .pauseExpire 0 9, .d2dFlitCrcError 16 (0, 0), .d2dGroupFail 16 0,
    .hbmCmdRetry 4 (0, 0), .hbmCmdRetry 0 (0x2000000000, 0), .hbmRetryFail 4 0 0 0 [], .hbmRetryFail 0 4 0 0 [],
    .rowRepairDone (2 ^ 31), .trackerWindowEnd 9 0, .trackerWindowEnd 0 (2 ^ 40), .mapWrite (2 ^ 16),
    .psDeferRetry false (2 ^ 16), .psRead (2 ^ 64) [], .psRead 0 [(0, 3)], .psWrite (2 ^ 64) 0] : List Instr).all (fun i => !i.wf) = true := by decide +kernel
theorem test_wf_refuses_6 : ([.psWrite 0 (2 ^ 16), .unretire (2 ^ 64) 0, .unretire 0 (2 ^ 16), .timeStepGo (2 ^ 64),
    .adjWrite (2 ^ 64), .incrWrite (2 ^ 64), .captureEdge 3 0, .captureEdge 0 (2 ^ 32),
    .txtsPop 257, .buoyRelease 265 0, .buoyRelease 0 16, .buoyLaunch 265 0,
    .buoyLaunch 0 (2 ^ 32), .softReset (2 ^ 16) false 0, .resetRelease 64, .hbmInitDone false 3 0 0 0,
    .hbmInitDone false 0 0 8 0, .hbmInitDone false 0 0 0 4, .retirementMapApply [(0, 3)], .bootLoad (2 ^ 64),
    .bootOpen (2 ^ 64), .flReload 1024, .flWrite 2 0, .flWrite 0 (2 ^ 16),
    .flashOpDone (2 ^ 16) [], .flashDeferRetry (2 ^ 16), .gpioFnWrite 16 0, .gpioFnWrite 0 (2 ^ 64),
    .bypass 256, .dbgAccess false (2 ^ 32) 0, .dbgAccess false 0 (2 ^ 64), .progHash (2 ^ 384),
    .dbgCtlWrite 64 0, .dbgCtlWrite 0 (2 ^ 64), .halt 64 0, .halt 0 64,
    .haltRelease 64 0, .haltRelease 0 64, .dbgResume 64 0, .dbgResume 0 64,
    .step 64 0, .step 0 64, .haltAll 64, .resumeAll 64,
    .powerOn (2 ^ 64), .park (2 ^ 64), .powerOff (2 ^ 64), .domainExitDone 5 0,
    .domainExitDone 0 64, .engineDoze 512, .lineEnergyWake 32, .avsResponse (2 ^ 16),
    .thermalWarn 2 0, .thermalLimit 2 0, .thermalTrip 2 0, .vcoreDip (2 ^ 16) false 0,
    .vcoreRecover (2 ^ 16) 0, .vcoreRecover 0 64, .ctrSweep 0 [(0, 3)], .ctrEnable (2 ^ 64)] : List Instr).all (fun i => !i.wf) = true := by decide +kernel
theorem test_wf_refuses_7 : ([.ctrSync (2 ^ 16), .bwWindowEnd 8 0, .bwWindowEnd 0 34, .bwCfgWrite 8 0 0,
    .bwCfgWrite 0 34 0, .bwCfgWrite 0 0 (2 ^ 64), .bwPeakRead 8 0, .bwPeakRead 0 34,
    .thermalLimitClear 2 0] : List Instr).all (fun i => !i.wf) = true := by decide +kernel
theorem test_wf_accepts_1 : ([.hostRegisterWrite 0 [0], .hostBadAccess false 0 0 false, .hostUnmappedAccess false 0 0 0, .bar2Write 0 [0], .hostReadTimeout 0 0 (0, 0),
    .pcieReset, .hostFenceWrite 0, .hostFenceComplete, .lockWrite 0, .patchLockWrite 0,
    .partArm 0 0, .epochAdvGo, .epochStamp, .epochRetire 0, .epochDrainWarn,
    .octetModeWrite 0 0 0, .laneMapWrite 0 0 0 0, .portCfgWrite 0 0, .mgtCfgWrite 0, .pllLock 0,
    .signalDetect 0, .anComplete 0, .ltComplete 0, .rxAdaptDone 0 [], .pcsAlignDone 0 0,
    .pcsLockLoss 0, .laneSignalLoss 0 0, .adaptUpdate 0 [] [] 0, .rxFrame 0 [] 0 0 (0, 0, 0), .rxPauseFrame 0 ([], 0, 0, 0),
    .txFrame 0 0 0, .injectFrame ([], 0, 0, 0), .wakeFrame ([], 0, 0, 0), .mgtPlainFrame ([], 0, 0, 0), .recircFrame 0,
    .parseFrame 0 [], .graphWalk 0 0 [], .profileWrite 0 0 0 0, .payloadScan 0 [], .classify 0 [] [],
    .clsScrub 0 0 [] [], .clsEntryWrite 0 0 0 0 0, .clsProbe 0 0, .clsProbeDone 0 [] [], .forwardLookup 0 [],
    .learnApply 0 0 [], .fwdAgeVisit 0 0 0 (false, []), .fwdInsert 0 0, .fwdDelete 0 0, .fwdSetSets 0 0,
    .fwdLookup 0 0, .fwdCmdDone 0, .tableWordWrite 0 0 0, .ringRdWrite 0 0, .ringBaseSizeWrite 0 false 0,
    .faceLookup 0 [], .faceMissResume 0, .flowUpdate 0 [], .benchLookup 0 [], .lookupResponse 0,
    .benchWriteBack 0 [], .benchCommit 0 [], .commitResponse 0, .benchRelease 0 [], .benchLate 0 [],
    .pushReceive 0, .benchTimeout 0, .faceFlush 0 0, .faceIdleRelease 0 0, .faceFlushAll 0 0,
    .qryAgeVisit 0 0 0 [], .benchDelete 0 [], .deleteInvalidate 0 0, .deleteFinish 0, .qryLookup 0 [],
    .qryInsert 0 [], .qryDelete 0 [], .qryRead 0 [], .qryWrite 0 [], .qryCmdDone] : List Instr).all Instr.wf = true := by decide +kernel
theorem test_wf_accepts_2 : ([.qryGcfgWrite 0, .benchInitDone, .dispatch 0, .flowOrderRelease 0 0, .forkChildReady 0,
    .faultDelivery 0, .keeperTimeout 0, .threadTimeout 0, .channelReclaim 0 0, .fogSignal 0,
    .clCtlWrite 0 0, .shareCfgWrite 0 0, .cregWrite 0 0 0, .microwordFetch 0 0 0 0, .operationComplete 0,
    .fenceLocal 0, .fenceFlow 0, .fenceAll 0, .aluNop 0 [], .add 0 [],
    .sub 0 [], .and 0 [], .or 0 [], .xor 0 [], .andn 0 [],
    .mov 0 [], .shl 0 [], .shr 0 [], .sar 0 [], .srand 0 [],
    .shlor 0 [], .min 0 [], .max 0 [], .mullo 0 [], .mulhi 0 [],
    .csadd 0 [], .crc32c 0 [], .popcnt 0 [], .ffs 0 [], .memNop 0,
    .ldh 0, .sth 0, .ldk 0, .lds 0 [], .sts 0,
    .ldc 0 [], .stc 0, .atomAdd 0 [], .atomSwap 0 [], .atomCas 0 [],
    .ldm 0 [], .stm 0, .addm 0, .balloc 0, .bfree 0,
    .bref 0, .bld 0, .bst 0, .txgen 0, .qrd 0,
    .qwr 0, .qadd 0, .qrel 0, .qtake 0, .qins 0,
    .qdel 0, .copen 0, .cput 0, .ccommit 0, .cabort 0,
    .crecv 0 [], .pktSend 0, .pktDrop 0, .pktPunt 0, .pktRecirc 0,
    .hins 0, .hdel 0, .kopTake 0, .kopResume 0, .kopDrop 0] : List Instr).all Instr.wf = true := by decide +kernel
theorem test_wf_accepts_3 : ([.kopPass 0, .kick 0, .rdp 0, .wrp 0, .rdh 0,
    .wrh 0, .kopStat 0, .next 0, .jump 0, .branch 0,
    .mway 0, .call 0, .ret 0, .waitc 0 [], .fork 0,
    .join 0, .seqEnd 0, .kwait 0, .patchWrite 0 0, .patchCopy 0 0,
    .patchRepair 0 0, .patchDone 0 [] [], .bpmEnable 0 0, .bpmInitDone 0, .ringBatch 0 0,
    .readMeta 0 0, .releaseQ 0 0, .findQ 0 0, .bpmCmdDone 0, .admitFrame 0 false [],
    .creditReturn 0, .d2dCross 0 false, .scheduleDequeue 0 0, .overflowReadDone 0 0, .residueRetry 0 false,
    .downHoldExpire 0, .residencyScan 0 0, .pauseRefresh 0 0, .pauseExpire 0 0, .d2dFlitCrcError 0 (0, 0),
    .d2dGroupFail 0 0, .hbmCmdRetry 0 (0, 0), .hbmRetryFail 0 0 0 0 [], .rowRepairDone 0, .trackerWindowEnd 0 0,
    .mapWrite 0, .psDeferRetry false 0, .psRead 0 [], .psWrite 0 0, .unretire 0 0,
    .psCmdDone, .pwrFailAssert false 0, .pwrFailDeassert, .timeStepGo 0, .timeStep,
    .adjWrite 0, .slewComplete, .incrWrite 0, .todRead, .refLoss,
    .refLock, .captureEdge 0 0, .ppsOutRise, .ppsOutFall, .txtsPop 0,
    .buoyRelease 0 0, .buoyLaunch 0 0, .coldReset false 0, .softReset 0 false 0, .resetRelease 0,
    .hbmInitDone false 0 0 0 0, .retirementMapApply [], .headerReadDone, .imageReadDone, .sigVerifyDone,
    .ownCheckDone, .imageApplyDone, .bootLoad 0, .bootOpen 0, .flReload 0] : List Instr).all Instr.wf = true := by decide +kernel
theorem test_wf_accepts_4 : ([.reloadDone, .flWrite 0 0, .flashOpDone 0 [], .flashDeferRetry 0, .gpioFnWrite 0 0,
    .ident false, .beacon false, .boot false, .tempMax false 0 0, .tempH0 false 0,
    .tempH1 false 0, .vcoreReq false, .vcoreMeas false, .power false, .paceMin false,
    .health false, .smbusNak, .smbusSclTimeout, .extest 0, .samplePreload 0,
    .idcode, .highz, .clamp, .extestPulse 0, .extestTrain 0,
    .bypass 0, .dbgAccess false 0 0, .progHash 0, .progSig, .fuseRead,
    .fuseCmdDone, .dbgCtlWrite 0 0, .halt 0 0, .haltRelease 0 0, .dbgResume 0 0,
    .step 0 0, .haltAll 0, .resumeAll 0, .powerOn 0, .park 0,
    .powerOff 0, .parkDelayRetry, .domainEntryDone, .domainExitDone 0 0, .engineDoze 0,
    .lineEnergyWake 0, .governorPeriod [], .avsResponse 0, .avsRetry, .thermalWarn 0 0,
    .thermalLimit 0 0, .thermalTrip 0 0, .thermalTripClear 0 0, .vcoreDip 0 false 0, .vcoreRecover 0 0,
    .ctrSweep 0 [], .ctrEnable 0, .ctrSync 0, .bwWindowEnd 0 0, .bwCfgWrite 0 0 0,
    .bwPeakRead 0 0, .tapReset, .flashBusyTimeout, .flashReadTimeout, .thermalLimitClear 0 0] : List Instr).all Instr.wf = true := by decide +kernel

-- Devices and states for the tests.

/-- A device that works: boot is over, the gate is open and the host has set up the endpoint. -/
def wDev : Dev := { Dev.reset with
  boot := { BootSt.reset with phase := .none }, host := { HostSt.reset with pcie := { PcieCfg.reset with memEn := true, bar0 := some 0, bar2 := some 0 } } }.set GLB.BOOT_STAT.STATE 6
/-- The same with these register fields. -/
def wSet (d : Dev) (l : List (Fld × Nat)) : Dev := l.foldl (fun d x => d.set x.1 x.2) d
/-- A number from values at bit places. -/
def wBits (l : List (Nat × Nat)) : Nat := l.foldl (fun w x => w + x.2 * 2 ^ x.1) 0
/-- A working device with these contexts. -/
def wEng (d : Dev) (l : List (Nat × Ctx)) : Dev := { d with eng := { d.eng with ctxs := l } }
/-- A state with nothing waiting. -/
def wS (d : Dev) : State := ⟨d, []⟩
/-- A thread in the middle of the word of `u`, in context 65. -/
def wThr (x : Ctx) (u : Cur) : Dev := wEng wDev [(65, { x with st := .ready, cur := some u })]
/-- A word of the ALU with flags: operation, registers 3, 1 and 2. -/
def wAlu (op : Nat) : Cur := { word := wBits [(0, op), (6, 3), (12, 1), (18, 2), (24, 9), (30, 1)], fenceDone := true }
def wAluX : Ctx := { regs := [(1, 0x8000000000000001), (2, 0xFFFFFFFFFFFFFFFF)] }
/-- A word at its sequencer part. -/
def wSeq (q : Nat) (l : List (Nat × Nat)) : Cur := { word := wBits ((102, q) :: l), fenceDone := true, aluDone := true, memDone := true }
/-- A word at its memory part: operation, data register, size field, address. -/
def wMemU (m reg size a : Nat) : Cur := { word := wBits [(64, m), (69, reg), (96, size)], fenceDone := true, aluDone := true, addr := a }
/-- A thread at its memory part in a device. -/
def wMemD (d : Dev) (x : Ctx) (u : Cur) : State := wS (wEng d [(65, { x with st := .ready, cur := some u })])
def wRegs : Ctx := { regs := [(1, 5), (2, 7)] }
/-- A thread with a packet of 300 bytes. -/
def wPktX : Ctx := { wRegs with pkt := some { body := List.replicate 300 7, len := 304 } }
/-- HBM windows of 64 MiB, Bench disabled. -/
def wHbm : Dev := wSet wDev [(ENG.HBM_WIN.SIZE 1, 1024), (HBC.REGION.FLOW_GIB 0, 8), (HBC.REGION.FLOW_GIB 1, 8), (QRY.BENCH_BASE.GIB 0, 2), (QRY.BENCH_BASE.GIB 1, 2)]
/-- Pool 0 of half 0 with four buffers. -/
def wPool : Dev := { wSet wDev [(BPM.CTL.READY 0, 1), (BPM.POOL_CFG.EN 0 0, 1), (BPM.POOL_CFG.COUNT 0 0, 4)] with
  buf := { BufSt.reset with info := [(metaKey 0 0, metaParity 1)] } }
/-- A transaction of context 65 with Bench, of record 5. -/
def wTxn (k : TxnKind) : Txn := { id := 9, kind := k, slice := 0, half := 0, handle := 5, h1 := 1, h2 := 2, fkey := List.replicate 40 0, missId := 0, ins := false, full := false, w0 := 0, dPkts := 0, dBad := 0, dOct := 0, dLast := none, words := List.replicate 8 0, ver := 3, ctx := 66, t0 := 0, done := false, rStatus := 0, rHandle := 0, rWords := [] }
/-- Another context than the only one in use has never run. -/
theorem wOther (d : Dev) (n m : Nat) (x : Ctx) (h : m ≠ n) : (wEng d [(n, x)]).ctx m = {} := by
  simp [Dev.ctx, wEng, sget, Ne.symm h]
theorem wNoWaitc (d : Dev) (n k : Nat) (x : Ctx) (h : x.wait ≠ .creg) : noWaitc (wEng d [(n, x)]) k := by
  intro m _
  by_cases e : m = n
  · subst e; simpa [Dev.ctx, wEng, sget] using h
  · rw [wOther d n m x e]; decide
/-- A Face line of slice 0 with handle 5. -/
def wLine : Line := { slice := 0, set := 0, ways := [0], st := .clean, handle := 5, h1 := 1, h2 := 2, words := List.replicate 8 0, ver := 3, dPkts := 0, dBad := 0, dOct := 0, dLast := none, dirtyAt := 0, hitAt := 0, missId := 0 }
def wFace : Dev := { wDev with qry := { QrySt.reset with lines := [wLine] } }
def wHeld : Held := ⟨5, List.replicate 8 1, 3, true⟩
def wHeldX : Ctx := { wRegs with held := some wHeld }
/-- A channel 3 of cluster 1. -/
def wChan (c : Chan) : Dev := { wDev with eng := { wDev.eng with chans := [(19, c)] } }
def wPkt : Pkt := { body := List.replicate 100 7, len := 104, id := 4, h1 := 1, h2 := 2, epoch := some 0, status := 0, handle := 5 }
def wPktY : Ctx := { wRegs with pkt := some wPkt, epoch := some 0 }
/-- Keeper 64 with its engine's context 67. -/
def wKop (d : Dev) (u : Cur) (y : Ctx) : State := wS (wEng d [(64, { wRegs with st := .ready, cur := some u }), (67, y)])
def wFault : Ctx := { wRegs with st := .faulted, pkt := some wPkt }
def wKq : Dev := { wDev with eng := { wDev.eng with kq := [(8, [77, 78])] } }
/-- Fences. -/
def wFence (k : Nat) : Cur := { word := wBits [(100, k)] }
/-- Context 65 between two words, in slot 0 of its engine; word `w` at address 0. -/
def wFetchD (w : Nat) : Dev := (wEng (wSet wDev [(ENG.CL_CTL.EN 1, 1), (ENG.SLOT.W 1 0 0 0, 9)]) [(65, { st := .ready })]).ucodeWrite 1 0 0 w
/-- Cluster 1 enabled, its engine 8 with a slot. -/
def wCl : Dev := wSet wDev [(ENG.CL_CTL.EN 1, 1), (ENG.SLOT.W 1 0 0 0, 9)]
/-- Its queue holds a packet. -/
def wDq (k : Pkt) (d : Dev) : Dev := { d with eng := { d.eng with dq := [(1, [k])] } }
def wFree : Dev := wEng wCl [(65, { st := .free, txe := 2 })]
def wReleased : Pkt := { wPkt with stage := .released, id := 4 }
def wOrd : Dev := { wDev with eng := { wDev.eng with ord := [(1, [⟨1, 2, 4, some wReleased⟩, ⟨7, 7, 6, none⟩])] } }
/-- A FAULTED thread with its record. -/
def wFx : Ctx := { wRegs with st := .faulted, fault := wBits [(0, 3), (8, 1), (11, 77), (32, 9)], txe := 1 }
def wKp (d : Dev) (k x : Ctx) : State := wS (wEng d [(64, k), (65, x)])
def wKeeper : Dev := wSet wCl [(ENG.CL_CTL.KEEPER_EN 1, 1)]
def wFog : Dev := let d := wSet wKeeper [(ENG.CL_CTL.FOG_EN 1, 1)]
  { d with eng := { d.eng with ctxs := (64, { st := .keeperIdle, wait := .keeper, pc := 5 }) :: (List.range 7).map (fun i => (65 + i, { st := .waitEvent })), fogQuiet := [(8, d.get (ENG.TMO_CFG.FOG_WINDOW 1) * 100)] } }
/-- WAITC for cluster register 7 equal to 9. -/
def wWaitc : Cur := { word := wBits [(102, 6), (80, 7), (32, 9)], fenceDone := true, aluDone := true, memDone := true }
def wFam : RegFam := ⟨0x1301008, [(8, 0x400000), (34, 0x20)], 8, [⟨16, 16, .rw, 0x40, .nz⟩, ⟨0, 16, .rw, 0x0, .any⟩]⟩
/-- The same with the BAR2 window on half 0's flow region. -/
def wBar2 : Dev := wSet wDev [(HBC.REGION.FLOW_GIB 0, 8), (QRY.BENCH_BASE.GIB 0, 2)]
def wEvReg : RegFam := ⟨0x400, [(32, 4)], 4, [⟨0, 16, .w1c, 0, .any⟩]⟩
/-- An octet in mode 1 with this mode staged, at the stamp of an advance. -/
def wModes (m : Nat) : Dev :=
  let d := wSet wDev [(GLB.EPOCH_STAT.ADV_BUSY, 1), (GLB.PART_CTL.ARM 72, 1), (octetModeF 0 0, 1), (octetModeF 0 1, m), (MAC.PORT_STAT.LINK 0, 1), (MAC.PORT_CFG.RX_EN 0, 1)]
  { d with ep := { d.ep with advPart := some 72 } }
/-- A working device with cells, one port in octet 0 (mode 1) that is up and receives and sends. -/
def wMac : Dev := { wSet wDev [(BPM.CTL.READY 0, 1), (BPM.POOL_CFG.EN 0 0, 1), (BPM.POOL_CFG.COUNT 0 0, 8), (MAC.OCTET_MODE.MODE_0 0 0, 1), (MAC.PORT_STAT.LINK 0, 1),
  (MAC.PORT_CFG.RX_EN 0, 1), (MAC.PORT_CFG.TX_EN 0, 1), (MAC.PORT_STAT.LINK 256, 1), (MAC.PORT_CFG.RX_EN 256, 1), (MAC.PORT_CFG.RX_EN 257, 1), (GLB.MGT_CFG.WAKE_EN, 1),
  (MAC.PORT_CFG.MAX_FRAME 0, 1518), (MAC.PORT_CFG.MAX_FRAME 256, 1518)] with buf := { BufSt.reset with ring := [(0, [(0, 8)])] } }
/-- Port 0 at a step of its bring-up. -/
def wBring (k : Nat) (l : List (Fld × Nat)) : State := wS { wSet wDev l with mac.bring := [(0, k)] }
/-- A frame with its FCS. -/
def wFrame (b : List Byte) : List Byte := b ++ natLE 4 (fcsOf b)
/-- A body of 60 bytes that begins with these. -/
def wBody (b : List Byte) : List Byte := b ++ List.replicate (60 - b.length) 0
def wShim (ty fl : Byte) (w : List Byte) : List Byte := wBody (List.replicate 12 0 ++ [0x88, 0xB5, ty, fl] ++ w)
/-- A buoy at the launch stage that is due at once. -/
def wSoon : QEnt := { pkt := { body := wBody [1], len := 64 }, q := 2, cells := 1 }
/-- A frame of 100 bytes at slice 0, port 3. -/
def wK (st : Stage) : Pkt := { body := List.replicate 100 7, rx := List.replicate 100 7, len := 104, port := 3, ing := 3, id := 4, stage := st, key := List.replicate 128 0 }
def wPipe (l : List (Fld × Nat)) (ks : List Pkt) : Dev :=
  { wSet wDev ([(BPM.CTL.READY 0, 1), (BPM.POOL_CFG.EN 0 0, 1), (BPM.POOL_CFG.COUNT 0 0, 8)] ++ l) with
    pipe := ks, buf := { BufSt.reset with ring := [(0, [(0, 8)])] } }
/-- Entry words in memory. -/
def wEnt (d : Dev) (l : List (Nat × Nat × Nat)) : Dev := l.foldl (fun d x => d.wr64 (entA 0 x.1 x.2.1) x.2.2) d
def wCls : List (Fld × Nat) := [(CLS.CTL.EN 0, 1), (CLS.KPROF_HDR.VALID 0 0 0, 1)]
/-- Two entries fit; the second has the smaller PRIORITY. -/
def wCl3 : Dev := wEnt (wPipe (wCls ++ [(CLS.DEFAULT.W 0 0, 0x205)]) [wK .keyed]) [(7, 10, 0x505), (7, 11, 0x10000000703), (9, 10, 0x405)]
theorem wCl3_live : (wCl3.cntCls 0 0).arrLive 0 = [7, 9] := by
  unfold Dev.arrLive; exact List.mergeSort_of_pairwise (l := [7, 9]) (by decide)
theorem wFound {f : Found} {a : Option Nat} {b : Nat} {c : Bool} (h : f.win = a ∧ f.count = b ∧ f.tie = c) : f = ⟨a, b, c⟩ := by
  obtain ⟨rfl, rfl, rfl⟩ := h; rfl
theorem wCl3_once : (wCl3.cntCls 0 0).searchOnce 0 (wCl3.setOf 0 none) (wCl3.kprofOf (wCl3.setOf 0 none) (wK .keyed)) (wCl3.is (CLS.KPROF_HDR.WIDE 0 (wCl3.setOf 0 none) (wCl3.kprofOf (wCl3.setOf 0 none) (wK .keyed))))
    ((wCl3.cntCls 0 0).searchKey (wCl3.setOf 0 none) (wCl3.kprofOf (wCl3.setOf 0 none) (wK .keyed)) (wK .keyed)) [] = ⟨some 7, 2, false⟩ := by
  refine wFound ?_; simp only [Dev.searchOnce, wCl3_live]; decide +kernel
theorem wCl3_found : (wCl3.cntCls 0 0).searchVerified 0 (wCl3.setOf 0 none) (wCl3.kprofOf (wCl3.setOf 0 none) (wK .keyed)) (wCl3.is (CLS.KPROF_HDR.WIDE 0 (wCl3.setOf 0 none) (wCl3.kprofOf (wCl3.setOf 0 none) (wK .keyed))))
    ((wCl3.cntCls 0 0).searchKey (wCl3.setOf 0 none) (wCl3.kprofOf (wCl3.setOf 0 none) (wK .keyed)) (wK .keyed)) true (2 + 1) [] false = ({ win := some 7, count := 2 }, wCl3.cntCls 0 0) := by
  rw [Dev.searchVerified]
  simp only [wCl3_once]
  rw [if_neg (by decide +kernel), if_neg (by decide +kernel), if_neg (by decide +kernel)]
theorem wSome {o : Option (List Nat)} (h : o.isSome = true) : o = some (o.getD []) := by
  cases o with
  | none => cases h
  | some a => rfl
/-- The cells that a frame gets; which of them is the device's choice. -/
def wTk (e : Dev) : List Nat := (e.takeCells 0 (wK .keyed).cells []).1.getD []
theorem wTaken {e : Dev} (h : (e.takeCells 0 (wK .keyed).cells []).1.isSome = true) : (e.takeCells 0 (wK .keyed).cells []).1 = some (wTk e) := wSome h
def wCl0 : Dev := wPipe [(CLS.DEFAULT.W 0 0, 0x120000205)] [wK .keyed]
def wClN : Dev := wPipe (wCls ++ [(CLS.DEFAULT.W 0 0, 0x205)]) [wK .keyed]
/-- After the search. -/
def wFd (d : Dev) : Verdict × Dev := ((d.cntCls 0 0).searchVerified 0 (d.setOf 0 none) (d.kprofOf (d.setOf 0 none) (wK .keyed)) (d.is (CLS.KPROF_HDR.WIDE 0 (d.setOf 0 none) (d.kprofOf (d.setOf 0 none) (wK .keyed))))
    ((d.cntCls 0 0).searchKey (d.setOf 0 none) (d.kprofOf (d.setOf 0 none) (wK .keyed)) (wK .keyed)) true 3 [] false)
/-- Two patterns: 5 is three bytes 7, 6 is two bytes 7 at the window's start only. -/
def wPat2 (d : Dev) : Dev :=
  [(5, 0, 0x070707), (5, 4, wBits [(0, 3), (3, 2), (10, 9)]), (6, 0, 0x0707), (6, 4, wBits [(0, 3), (3, 1), (9, 1), (10, 33)])].foldl (fun (d : Dev) x => d.wr64 (patA 0 x.1 x.2.1) x.2.2) d
/-- Table words of slice 0's forwarding tables. -/
def wFw (d : Dev) (l : List (Nat × Nat × Nat × Nat)) : Dev := l.foldl (fun d x => d.wr64 (fwdA 0 x.1 x.2.1 x.2.2.1) x.2.2.2) d
def wL2 : List (Fld × Nat) := [(FWD.CTL.EN 0, 1), (FWD.CTL.LEARN_EN 0, 0), (FWD.PORT_CFG.PVID 0 0 3, 7), (FWD.VLAN.VALID 0 0 7, 1), (FWD.VLAN.FLOOD_GROUP 0 0 7, 21)]
/-- A frame with this destination address. -/
def wDa (b : Byte) : Pkt := { wK .classified with body := List.replicate 6 b ++ List.replicate 94 7, rx := List.replicate 6 b ++ List.replicate 94 7 }
def wMacW (vid mac : Nat) : Nat := macKey vid mac + 7 * 2 ^ 60
/-- The first slot of the bucket of a MAC key. -/
def wSlot (key : Nat) : Nat := (bucketSlots (wDev.macBucket 0 key)).head?.getD 0
def wLearn (port : Nat) (bad : Bool) : Learn := { slice := 0, vid := 7, sa := 0x123456, port := port, set := 0, bad := bad }
def wCmd (l : List (Fld × Nat)) : Dev := wSet wDev ((FWD.CMD_CTL.DONE 0, 1) :: l)
def wLk : Nat := macKey 7 0x123456
/-- Other MAC entries in a bucket's slots, from this one on; the same for a host bucket. -/
def wFill (n : Nat) : List (Nat × Nat × Nat × Nat) := ((bucketSlots (wDev.macBucket 0 wLk)).drop n).map (fun k => (0, k, 0, wMacW 9 5))
def wHost (n : Nat) : List (Nat × Nat × Nat × Nat) := ((bucketSlots (wDev.hostBucket 0 0 false 0x0A000001)).drop n).map (fun k => (1, k, 0, 0x0B000001 + 7 * 2 ^ 60))
/-- A device with a learn log at this time stamp. -/
def wLog (t : Nat) : Dev := { wSet wDev [(FWD.LOG_SIZE.SIZE 0, 64), (FWD.LOG_BASE.OFFSET 0, 0x10000)] with tick := t * 62500000 }
/-- A prefix table whose first `n` slots are retired, and a command for a prefix. -/
def wFull (n : Nat) : Dev := { wCmd [(FWD.CMD_KEY.W 0 0, 5 + 32 * 2 ^ 32)] with mem := (List.range n).map (fun k => (fwdA 0 2 k 0 + 7, 0x80)) }
theorem wGetIn {f : Nat → Nat} {v x : Byte} {k : Nat} : ∀ {l : List Nat}, k ∈ l → sget (l.map (fun j => (f j, v))) (f k) x = v
  | [], h => nomatch h
  | j :: l, h => by
    simp only [List.map_cons, sget]; split
    · rfl
    · next hn => exact wGetIn ((List.mem_cons.1 h).resolve_left fun he => hn (he ▸ rfl))
theorem wGetOut {f : Nat → Nat} {v x : Byte} {a : Nat} : ∀ {l : List Nat}, (∀ j, f j ≠ a) → sget (l.map (fun j => (f j, v))) a x = x
  | [], _ => rfl
  | j :: l, h => by simp only [List.map_cons, sget, if_neg (h j)]; exact wGetOut h
theorem wFullW (n k : Nat) (hn : n ≤ 1048576) (h : k < n) : (wFull n).fwdW 0 2 k 0 = 2 ^ 63 := by
  have h7 : (wFull n).rdB (fwdA 0 2 k 0 + 7) = 0x80 := wGetIn (f := fun k => fwdA 0 2 k 0 + 7) (List.mem_range.2 h)
  have ho : ∀ i, i < 7 → (wFull n).rdB (fwdA 0 2 k 0 + i) = 0 := by
    intro i hi
    refine Eq.trans (wGetOut (f := fun k => fwdA 0 2 k 0 + 7) ?_) ?_
    · intro j; simp only [fwdA, tblA, fwdBase]; simp; omega
    · have hc : inCtlStore (fwdA 0 2 k 0 + i) = false := by simp [inCtlStore, fwdA, tblA, fwdBase]; omega
      simp only [memDefault, hc]; rfl
  have h0 := ho 0 (by omega)
  simp only [Nat.add_zero] at h0
  simp only [Dev.fwdW, Dev.rd64, Dev.rd, Dev.rdBytes, Nat.add_assoc, Nat.reduceAdd, h0, h7, ho 1 (by omega), ho 2 (by omega), ho 3 (by omega), ho 4 (by omega), ho 5 (by omega), ho 6 (by omega)]
  rfl
theorem wFullLive (n : Nat) (hn : n = 1048576) : (wFull n).prefixLive 0 = [] := by
  refine List.filter_eq_nil_iff.2 fun k hk => ?_
  obtain ⟨e, -, he⟩ := List.mem_filterMap.1 hk
  have hb : k < n := by
    split at he
    · next hc =>
      simp only [Bool.and_eq_true, Nat.ble_eq, Nat.blt_eq] at hc
      cases he; omega
    · cases he
  rw [wFullW n k (by omega) hb, show fwVALID (2 ^ 63) = false from by decide]; simp
theorem wFullFit (n k : Nat) (hn : n = 1048576) (h : k < n) : (wFull n).slotFree 0 2 k = false := by
  have hh := wFullW n (k / 4 * 4) (by omega) (by omega)
  have h2 : fwV6 (2 ^ 63) = false := by decide
  have h3 : fwRETIRED (2 ^ 63) = true := by decide
  simp only [Dev.slotFree, wFullW n k (by omega) h, if_neg (show ¬ (2 : Nat) = 1 by decide), hh, h2, h3]
  simp
/-- A frame of a flow of key type 1. -/
def wF (st : Stage) : Pkt := { wK st with key := [0, 0, 2, 0] ++ List.replicate 124 3 }
def wFk : List Byte := (flowKey false (wF .forwarded)).1
def wH1 : Nat := wDev.hash1 wFk
def wH2 : Nat := wDev.hash2 wFk
/-- A compact record of that flow with these fields in word 0, and its line. -/
def wRec (w0 : Nat) : List Nat := newRec false w0 5 6 wFk
def wLn (w0 : Nat) : Line := { wLine with handle := 7, set := wH1 % 16384, h1 := wH1, h2 := wH2, words := wRec w0 }
def wQry : List (Fld × Nat) := [(QRY.CTL.EN 0, 1), (QRY.GCFG.EN, 1), (QRY.GCFG.READY, 1), (QRY.GCFG.UNITS_LOG2, 16), (QRY.FACE_CFG.WB_EN 0, 1), (HBC.REGION.FLOW_GIB 0, 8), (HBC.REGION.FLOW_GIB 1, 8), (QRY.BENCH_BASE.GIB 0, 2), (QRY.BENCH_BASE.GIB 1, 2), (QRY.INS_CFG.SYM 0 1, 0), (QRY.INS_CFG.NOFLOW_PROG 0 0, 0)]
def wQd (q : QrySt) (ks : List Pkt) : Dev := { wPipe wQry ks with qry := q }
def wQl (ls : List Line) : QrySt := { QrySt.reset with lines := ls }
def wMiss : Miss := { id := 4, slice := 0, h1 := wH1, h2 := wH2, fkey := wFk, byHandle := none, ctx := 0, pktId := 4, ins := true, full := false, w0 := 0, sent := false }
/-- A device whose Bench holds the record of that flow in unit 7 of the half of its hash. -/
def wHf : Nat := wH1 / 2 ^ 31
def wX : Nat := mkFlow wHf 0 7
def wPut (d : Dev) (a : Nat) (ws : List Nat) : Dev := ((List.range ws.length).zip ws).foldl (fun d x => d.wr64 (a + 8 * x.1) x.2) d
def wTagA : Nat := (wQd (wQl []) []).tagA wHf ((wQd (wQl []) []).bucketOf wH1) 0
def wBn (w0 : Nat) (q : QrySt) : Dev :=
  let d := wQd q []
  wPut (d.wr64 wTagA (Nat.xor wH1 wH2 + 7 * 2 ^ 32 + 2 ^ 59)) (d.unitA wHf 7) (wRec w0)
def wT (k : TxnKind) : Txn := { wTxn k with half := wHf, slice := 4 * wHf, h1 := wH1, h2 := wH2, fkey := wFk, handle := wX, ctx := 0 }
def wQt (t : Txn) : QrySt := { QrySt.reset with txns := [t], insTok := [] }
def wDone (t : Txn) (st x : Nat) (ws : List Nat) : Txn := { t with done := true, rStatus := st, rHandle := x, rWords := ws }
def wFilling : Line := { wLn 0 with st := .filling, missId := 4, handle := 0, ways := [2, 3] }
def wDq9 (q : QrySt) : Dev := let d := wQd q []; { d with eng := { d.eng with dq := [(3, [{ wF .queued with miss := some 4, fkey := wFk }, wF .queued])] } }
def wDel : Del := { id := 3, handle := wX, reason := 0 }
def wQc (l : List (Fld × Nat)) (w0 : Nat) (q : QrySt) : Dev := wSet (wBn w0 q) ((QRY.CMD_CTL.DONE, 1) :: (QRY.CMD_HANDLE.HANDLE, wX) :: l)
/-- The words of the key registers that give the flow's key under KTYPE 1. -/
def wQk : List (Fld × Nat) := (List.range 6).map (fun i => (QRY.CMD_KEY.W i, leNat ((wFk.drop (8 * i)).take 8)))
/-- A key that no record has. -/
def wQn : List (Fld × Nat) := [(QRY.CMD_KEY.W 1, 0x55)]
/-- A LOOKUP that may insert, with these free units. -/
def wInsT : Txn := { wT .lookup with handle := noFlow, ins := true }
def wInsD (k : TxnKind) (r : List (Nat × Nat)) : Dev := wQd { wQt { wInsT with kind := k } with insTok := [(wHf, 1000)], freeRings := [(2 * wHf, r)] } []
def wIns (r : List (Nat × Nat)) : Dev := wInsD .lookup r
def wIns0 : Dev := wIns [(40, 1)]
def wInsA : Nat := (wIns0.freeTag wHf (wIns0.buckets wH1 wH2)).getD 0
/-- Every tag slot of these buckets holds the tag of the record in unit 7, whose key is 0. -/
def wTags (d : Dev) (bs : List Nat) : Dev := bs.foldl (fun d b => wPut d (d.tagA wHf b 0) (List.replicate 8 (7 * 2 ^ 32 + 2 ^ 59 + 1))) d
def wPat (l : List (Fld × Nat)) : Dev := wSet wDev l
def wGo : Nat := 7 * 2 ^ 21 + 9 * 2 ^ 8
def wGiven (k : HostCmd) : Dev := { wPut wDev (segA 3 0x3000 0) [5, 6, 7, 8, 9, 10] with eng := { wDev.eng with patch := [(3, some k)] } }
def wSeg (n : Nat) (l : List Nat) : List Byte := (l.map (natLE 8)).flatten.take (24 * n)
def wSegD (l : List Nat) (k : HostCmd) : Dev := { wPut wDev (segA 3 0x3000 0) l with eng := { wDev.eng with patch := [(3, some k)] } }
def wPool1 (l : List (Fld × Nat)) : Dev := { wSet wDev ([(BPM.POOL_CFG.EN 1 1, 1), (BPM.POOL_CFG.COUNT 1 1, 1500)] ++ l) with buf := BufSt.reset }
def wRdy (l : List (Fld × Nat)) (w : Nat) : Dev := { wPool1 ([(BPM.CTL.READY 1, 1), (BPM.CMD_CTL.DONE 1, 1), (BPM.CMD_HANDLE.HANDLE 1, 2 ^ 29 + 8)] ++ l) with
  buf := { BufSt.reset with info := [(metaKey 1 (2 ^ 29 + 8), metaParity w)] } }
def wAdm (a : Adm) (l : List (Fld × Nat)) : Dev := { wSet wMac ([(SWC.CTL.EN 0, 1), (SWC.PORT_CFG.EN 0, 1), (SWC.QUEUE_CFG.QLIMIT 0 5, 100), (SWC.QUEUE_SPILL.SPILL_THR 0 5, 0x7FFFF), (SWC.PORT_CFG.PORT_LIMIT 0, 1000), (SWC.CLASS_LIMIT.CELLS 0 2, 1000), (SWC.CLASS_LIMIT.CELLS 1 2, 1000), (SWC.PG.PG_LIMIT 3 2, 50)] ++ l) with swc := { SwcSt.reset with adms := [a] } }
def wA (t : Dest) : Adm := { pkt := { wK .released with port := 3 }, dest := t, queue := 5, srcHalf := 0, slice := 0, cls := 2, mirrored := true }
def wGrp (n : Nat) (d : Dev) : Dev := (d.wr64 (d.groupA 0 4 4) n).wr64 (d.groupA 0 4 0) 1
def wQE (i : Nat) : QEnt := { pkt := { wK .released with id := i }, q := 2, cells := 1 }
def wSch (l : List (Fld × Nat)) : Dev := { wSet wMac ([(SWC.PORT_CFG.EN 0, 1)] ++ l) with swc := { SwcSt.reset with queues := [(2, { ents := [wQE 1, wQE 2] }), (3, { ents := [wQE 3] })] } }
def wNext (d : Dev) : Dev := match d.schedule 0 with | some x => x.2 | none => d
def wLv : List (Fld × Nat) := [(SWC.QUEUE_CFG.LEVEL 0 2, 3), (SWC.QUEUE_CFG.LEVEL 0 3, 1), (SWC.QUEUE_CFG.QUANTUM 0 2, 3), (SWC.QUEUE_CFG.QUANTUM 0 3, 3)]
def wSwc (q : SwcSt) (l : List (Fld × Nat)) : Dev := { wSet wMac l with swc := q }
def wCr : Cross := { pkt := { wK .released with bufs := [] }, toHalf := 0, laneGroup := 0, ents := [], resid := [], lost := true }
def wCd : Credit := { srcHalf := 1, port := 0, q := 2, cells := 3, cls := 2, gPort := 511, inGroup := true }
def wRes (t : Nat) : Residue := { half := 1, port := 0, adm := wA (.port 0), due := t }
def wC1 : Cross := { wCr with lost := false, ents := [(0, wQE 1)] }
def wS1 : Dev := wSwc { SwcSt.reset with crosses := [wC1] } [(SWC.QUEUE_SPILL.SPILL_THR 0 2, 0x7FFFF)]
/-- Pool 4 of half 0, out of service, and a withdrawn row. -/
def wOut (l : Nat) : Dev := { wSet wDev [(HBC.REGION.FLOW_GIB 0, 8), (BPM.POOL_CFG.EN 0 4, 1), (BPM.POOL_CFG.COUNT 0 4, 5), (BPM.CTL.EN 0, 1)] with flt := { FltSt.reset with retired := [(7, l)] } }
/-- The frame path of the first slice of each half holds a cell, with one reference. -/
def wBuf (d : Dev) : Dev := { d with buf := { d.buf with info := [(metaKey 0 0, metaParity 0x80001), (metaKey 1 0, metaParity 0x80001)] } }
def wAb (t : Dest) : Adm := { wA t with pkt := { (wA t).pkt with bufs := [0] } }
def wAb1 : Adm := { wA (.group 4) with srcHalf := 1, slice := 4, pkt := { (wA (.group 4)).pkt with bufs := [0], bufSlice := 4 } }
def wAdmB (a : Adm) (l : List (Fld × Nat)) : Dev := wBuf (wAdm a l)
def wGb : List (Fld × Nat) := [(HBC.REGION.FLOW_GIB 0, 8), (SWC.MGRP_BASE.OFFSET 0, 0x100000), (HBC.REGION.FLOW_GIB 1, 8), (SWC.MGRP_BASE.OFFSET 1, 0x100000), (BPM.CTL.READY 1, 1), (BPM.POOL_CFG.EN 1 0, 1), (BPM.POOL_CFG.COUNT 1 0, 8)]
def wGrp1 (d : Dev) : Dev := (d.wr64 (d.groupA 1 4 4) 1).wr64 (d.groupA 1 4 0) 1
def wCr1 : Cross := { wCr with pkt := { wCr.pkt with bufs := [0], bufSlice := 4 }, ents := [(0, { wQE 2 with srcHalf := 1 })] }
def wResB (t : Nat) : Residue := { wRes t with adm := wAb (.port 0) }
def wCg : Cross := { wCr with lost := false, laneGroup := 2 }
def wFlt (f : FltSt) (l : List (Fld × Nat)) : Dev := { wSet wDev l with flt := f }
def wM : MapW := { slot := none, w0 := 0x55, w1 := 0x8000000000000066 }
def wHu : List (Fld × Nat) := [(GLB.HU_CFG.MODE, 2), (NVS.PS_CTL.DONE, 1)]
def wTm (t : TmuSt) (l : List (Fld × Nat)) : Dev := { wSet wDev l with tmu := t }
def wTod : TmuSt := { TmuSt.reset with sec := 7, ns := 999999990, frac := 3 }
def wQb : QEnt := { pkt := { wK .released with launch := some (8000 * 2 ^ 32) }, q := 2, cells := 1 }
/-- A port with a head that has a launch time, at this time. -/
def wBuoy (ns : Nat) (l : List (Fld × Nat)) : Dev :=
  { wSet wMac ([(SWC.PORT_CFG.EN 0, 1), (TMU.CTL.RUN, 1)] ++ l) with swc := { SwcSt.reset with queues := [(2, { ents := [wQb, wQE 2] })] }, tmu := { TmuSt.reset with ns := ns } }
def wLaun (ns : Nat) (l : List (Fld × Nat)) : Dev :=
  { wSet wMac ([(SWC.PORT_CFG.EN 0, 1), (TMU.CTL.RUN, 1)] ++ l) with tmu := { TmuSt.reset with ns := ns, buoys := [(0, [wQb])] } }
/-- A section table entry for a section at 320. -/
def wEntry (kind fl : Nat) (sec : List Byte) : List Byte :=
  natLE 2 kind ++ natLE 2 fl ++ natLE 4 0 ++ natLE 4 320 ++ natLE 4 sec.length ++ natLE 8 0 ++ natLE 4 (fcsOf sec) ++ natLE 4 0
/-- An image of one section, with a signature or none. -/
def wImg (kind fl : Nat) (sec sig : List Byte) : List Byte :=
  let size := 320 + sec.length + sig.length
  let h := natLE 4 0x4D495744 ++ natLE 2 1 ++ natLE 2 0x100 ++ natLE 4 7 ++ natLE 4 size ++ natLE 2 1 ++ natLE 2 (if sig = [] then 0 else 1) ++ natLE 4 256 ++
    natLE 4 (if sig = [] then 0 else size - 192) ++ natLE 4 0x5120
  let h := h ++ List.replicate (0xF8 - h.length) 0 ++ natLE 4 (fcsOf (wEntry kind fl sec))
  h ++ natLE 4 (fcsOf h) ++ wEntry kind fl sec ++ List.replicate 32 0 ++ sec ++ sig
def wWr (a op sp v : Nat) : List Byte := natLE 8 (a + op * 2 ^ 56 + sp * 2 ^ 60) ++ natLE 8 v
def wGood : List Byte := wImg 1 0 (wWr 0 0 0 0) []
def wSig : List Byte := [0xf77b9d83ff47a69702f433d337ff2005dd24661cbafec8f9c939d11bde5e16cbb601b72692df7ef75eca6324d25f3acc, 0xcb067ec057f5650610fb3ffcff6a6b1a1ada01c428ee7e8b0cafb4670192d8a7349ec93c71c4b703386e998de5519cc1, 0x24bdd87e653ecc21fd7e9a74f85d9652b14f66c7db7eaf04f2c378d5a5e55ce6aa569c734907c482cbf44e450a33f472, 0x24bdd87e653ecc21fd7e9a74f85d9652b14f66c7db7eaf04f2c378d5a5e55ce6aa569c734907c482cbf44e450a33f472].flatMap (natBE 48)
def wKeyHash : Nat := 0xce95ce9ce69aae1a4b70bc732c0c9b21a1934253da8c5553b9e9ee4617f1b0cbccd09b11e3d8faa3c677f1ac24e19a11
/-- A device at a step of its boot, with an image staged. -/
def wBt (p : BootPhase) (cs : List Nat) (img : List Byte) (l : List (Fld × Nat)) : Dev :=
  { wSet { Dev.reset with mem := (((List.range img.length).zip img).filter (fun x => x.2 != 0)).map (fun x => (tabA 0 x.1, x.2)) } ((NVS.FL_INFO.DENSITY_LOG2, 23) :: l) with
    boot := { BootSt.reset with phase := p, cands := cs, hbmOk := true }, host := wDev.host }
/-- The same with this in flash slot A. -/
def wFl (p : BootPhase) (cs : List Nat) (img : List Byte) (l : List (Fld × Nat)) : Dev :=
  let d := wBt p cs [] l
  { d with boot := { d.boot with flash := (List.range img.length).zip img } }
def wBk (b : BootSt → BootSt) (d : Dev) : Dev := { d with boot := b d.boot }
def wAp (d : Dev) : Dev × Nat × ApplyEnd := d.applyEnts (d.candImage 3) d.boot.applyAt.1 d.boot.applyAt.2 (((imgTable (d.candImage 3)).map entOf).drop d.boot.applyAt.1)
def wMacIns : List Byte := natLE 8 (wMacW 7 0x123456) ++ natLE 24 0
/-- A flash command in a running device. -/
def wFop (f : FlashOp) (tab : List (List Byte)) (l : List (Fld × Nat)) : Dev :=
  let d := wSet wDev ([(NVS.FL_CTL.DONE, 1), (NVS.FL_INFO.DENSITY_LOG2, 23), (GLB.HU_CFG.MODE, 2), (GLB.BOOT_STAT.LOADED, 1)] ++ l)
  { d with boot := { d.boot with flop := f, table := tab, flash := [(0x400105, 3), (0x400309, 0x50), (0x401000, 9)] } }
/-- A reload of the section `sec`, which slot A holds. -/
def wRel (sec : List Byte) : Dev :=
  let d := wFop { op := 1 } [wEntry 4 1 sec] []
  { d with boot := { d.boot with flash := (List.range sec.length).zip sec |>.map (fun x => (d.slotBase 0 + 320 + x.1, x.2)) } }
theorem wTriple {a : Dev × Nat × ApplyEnd} {e : ApplyEnd} (h : a.2.2 = e) : a = (a.1, a.2.1, e) := by
  subst h; rfl
/-- Images in both flash slots, before the headers are read. -/
def wTwo (a b : List Byte) (l : List (Fld × Nat)) : Dev :=
  let d := wBt .headers [] [] l
  { d with boot := { d.boot with flash := (List.range a.length).zip a ++ (List.range b.length).map (fun i => (2 ^ 22 + i, nthD b i 0)) } }
/-- `wGood` with the next SEQ. -/
def wLater : List Byte :=
  let h := (wGood.take 252).set 8 8
  h ++ natLE 4 (fcsOf h) ++ wGood.drop 256
/-- A persistent store with this word 0 in entry 1 of its retirement map. -/
def wMap (w : Nat) : Dev := wPut (wPut (wBt .retire [] [] []) (psA 0) [psMagic]) (mapA 1 0) [w, 2 ^ 63]
def wBus (l : List (Fld × Nat)) : Dev := { wSet wDev l with pin := { PinSt.reset with sysResetN := true } }
def wFuse (b : BootSt → BootSt) (l : List (Fld × Nat)) : Dev := wBk b (wSet wDev ((GLB.BOOT_STAT.STATE, 7) :: l))
/-- A cluster whose debug port is free, with contexts. -/
def wDbg (l : List (Nat × Ctx)) (fs : List (Fld × Nat)) : Dev := wEng (wSet wDev ((DBG.CMD.DONE 3, 1) :: fs)) l
def wP (f : PwrSt → PwrSt) (l : List (Fld × Nat)) (t : Nat) : State := wS (let d := wSet wDev l; { d with pwr := f PwrSt.reset, tick := t })
def wPD : List (Fld × Nat) := [(PWR.REQ_STAT.DONE, 1)]
def wDqd (c : Nat) (s : State) : State := { s with dev := { s.dev with eng := { s.dev.eng with dq := [(c, [wK .queued])] } } }
def wReq (k i : Nat) : Nat := k + i * 16
def wAsk : PwrReq := { phase := .asking, kind := 0, index := 9, target := 1, delayed := true, since := 3, askedAt := 5 }
def wAcc (l : List (Fld × Nat)) : Dev := wSet wDev ([(CTR.ACC_BASE.OFFSET 0, 0xC000000), (CTR.ACC_BASE.OFFSET 1, 0xC000000), (PWR.CNT.V 3, 77)] ++ l)
def wBw (c : CtrSt) (l : List (Fld × Nat)) : Dev := { wSet wDev ([(SCT.BW_CFG.EN 2 5, 1), (SCT.BW_CFG.WIN_US 2 5, 4), (SCT.BW_CFG.THR 2 5, 3)] ++ l) with tick := 8000, ctr := c }

/-- The device after a command; the reset device if there is none. -/
def wAfter (i : Instr) (s : State) : Dev :=
  match exec i s with
  | .next t => t.dev
  | _ => Dev.reset

-- Steps. The expected values are worked out by hand from the rules named.

/-- The check value of the Ethernet CRC-32 (R67). -/
theorem test_fcs_check_value : fcsOf [0x31, 0x32, 0x33, 0x34, 0x35, 0x36, 0x37, 0x38, 0x39] = 0xCBF43926 := by decide +kernel
/-- Table 15.1: Vendor and Device ID, and the class code; Bus Master Enable takes no write; D3hot reads back; payloads of 512 bytes (R361). -/
theorem test_endpoint_ids :
    PcieCfg.reset.read 0 = 0x51201F3B ∧ PcieCfg.reset.read 8 / 256 = 0x028000 ∧ (PcieCfg.reset.write 4 7).read 4 % 8 = 2 ∧
    (PcieCfg.reset.write 0x44 3).read 0x44 % 4 = 3 ∧ PcieCfg.reset.read 0x54 % 8 = 2 := by decide

/-- The published SHA-384 of "abc" (R353). -/
theorem test_sha384_abc : sha384 [0x61, 0x62, 0x63] =
    0xcb00753f45a35e8bb5a03d699ac65007272c32ab0eded1631a8b605a43ff5bed8086072ba1e7cc2358baeca134c825a7 := by decide +kernel
/-- ADD wraps at 64 bits (R217). -/
theorem test_add_wraps : ((wAfter (.add 65 []) (wS (wThr wAluX (wAlu 1)))).ctx 65).cur.bind (·.alu) = some 0x8000000000000000 := by decide +kernel
/-- SUB takes B from A (R217). -/
theorem test_sub_order : ((wAfter (.sub 65 []) (wS (wThr wAluX (wAlu 2)))).ctx 65).cur.bind (·.alu) = some 0x8000000000000002 := by decide +kernel
/-- MULHI multiplies the lower 32 bits (Table 9.3). -/
theorem test_mulhi : ((wAfter (.mulhi 65 []) (wS (wThr { regs := [(1, 0x7FFFFFFFF), (2, 0x500000003)] } (wAlu 16)))).ctx 65).cur.bind (·.alu) = some 2 := by decide +kernel
/-- NEXT at the last word of the control store goes to word 0 (R219). -/
theorem test_next_wraps : ((wAfter (.next 65) (wS (wThr { pc := 8191 } (wSeq 0 [])))).ctx 65).pc = 0 := by decide +kernel
/-- RET goes to the word on top of the stack (R219). -/
theorem test_ret : ((wAfter (.ret 65) (wS (wThr { stack := [1, 2] } (wSeq 5 [])))).ctx 65).pc = 1 := by decide +kernel
/-- A fifth CALL faults, and the thread stops (R220). -/
theorem test_call_overflow : ((wAfter (.call 65) (wS (wThr { stack := [1, 2, 3, 4] } (wSeq 4 [])))).ctx 65).st = .faulted := by decide +kernel
/-- While the device is held in reset, a step counts the tick only. -/
theorem test_idle_reset : step State.reset = .next ⟨{ Dev.reset with tick := 1 }, []⟩ := by rfl
/-- The ns counter advances by INCR per tick (R316), here by 1.0. -/
theorem test_tick_incr : (match step (wS (wTm wTod [(TMU.CTL.RUN, 1), (TMU.INCR.INCR, 2 ^ 32)])) with
    | .next t => (t.dev.tmu.sec, t.dev.tmu.ns, t.dev.tmu.frac) | _ => (0, 0, 0)) = (7, 999999991, 3) := by decide +kernel
/-- Once GLB.LOCK is 1, no host write clears it (R8). -/
theorem test_lock : (wAfter (.lockWrite 0) (wS (wAfter (.lockWrite 1) (wS wDev)))).get GLB.LOCK.LOCK = 1 := by decide +kernel
/-- A step takes one command off the queue. -/
theorem test_step_queue : (match step ⟨wDev, [.lockWrite 1, .epochStamp]⟩ with | .next t => t.pending | _ => []) = [.epochStamp] := by decide +kernel
/-- The table gives no row any bits. -/
theorem test_no_words : decodeTableWord 64 0 = none := by decide
/-- The IDCODE of stepping 0 (R376). -/
theorem test_idcode : (wAfter .idcode (wS wDev)).host.tapData % 2 ^ 28 = 0x512074B := by decide +kernel

-- Witnesses for the hypotheses of the statements, by clause. A part `xRuns` of WordsComplete, FramesComplete, StoresComplete and DeviceComplete has in each of its clauses
-- the hypotheses of a clause of the part `x`, so `test_wit_X` shows states and operands that meet them.

theorem test_wit_AluAddSub :
    (let s : State := (wS (wThr wAluX (wAlu 1)))
    let n : Nat := 65
    let ups : List (Nat × Nat) := []
    let u : Cur := (wAlu 1)
    (aluNext s.dev n 1 ups u)) ∧
    (let s : State := (wS (wThr wAluX (wAlu 2)))
    let n : Nat := 65
    let ups : List (Nat × Nat) := []
    let u : Cur := (wAlu 2)
    (aluNext s.dev n 2 ups u)) := by
  refine ⟨?_, ?_⟩
  · dsimp only [aluNext, Dev.inWord]; decide +kernel
  · dsimp only [aluNext, Dev.inWord]; decide +kernel

theorem test_wit_AluOthers :
    (let s : State := (wS (wThr wAluX (wAlu 3)))
    let n : Nat := 65
    let ups : List (Nat × Nat) := []
    let u : Cur := (wAlu 3)
    let p : (Nat → List (Nat × Nat) → Instr) × Nat × (Word64 → Word64 → Nat → Word64) := aluTable[0]
    (aluNext s.dev n p.2.1 ups u)) ∧
    (let s : State := (wS (wThr wAluX (wAlu 0)))
    let n : Nat := 65
    let ups : List (Nat × Nat) := []
    let u : Cur := (wAlu 0)
    (aluNext s.dev n 0 ups u)) := by
  refine ⟨?_, ?_⟩
  · dsimp only [aluNext, Dev.inWord]; decide +kernel
  · dsimp only [aluNext, Dev.inWord]; decide +kernel

theorem test_wit_SeqNextPc :
    (let s : State := (wS (wThr { pc := 8191 } (wSeq 0 [])))
    let n : Nat := 65
    let u : Cur := (wSeq 0 [])
    (seqNext s.dev n 0 u)) ∧
    (let s : State := (wS (wThr { pc := 8191 } (wSeq 1 [(106, 77)])))
    let n : Nat := 65
    let u : Cur := (wSeq 1 [(106, 77)])
    (seqNext s.dev n 1 u)) ∧
    (let s : State := (wS (wThr { pc := 8191 } (wSeq 2 [(106, 77)])))
    let n : Nat := 65
    let u : Cur := (wSeq 2 [(106, 77)])
    (seqNext s.dev n 2 u)) ∧
    (let s : State := (wS (wThr { conds := 4 } (wSeq 3 [(106, 64), (125, 2)])))
    let n : Nat := 65
    let u : Cur := (wSeq 3 [(106, 64), (125, 2)])
    (seqNext s.dev n 3 u) ∧ (uTARGET u.word % 16 = 0)) := by
  refine ⟨?_, ?_, ?_, ?_⟩
  · dsimp only [seqNext, Dev.inWord]; decide +kernel
  · dsimp only [seqNext, Dev.inWord]; decide +kernel
  · dsimp only [seqNext, Dev.inWord]; decide +kernel
  · dsimp only [seqNext, Dev.inWord]; decide +kernel

theorem test_wit_SeqCallRet :
    (let s : State := (wS (wThr { pc := 8191, stack := [1, 2, 3] } (wSeq 4 [(106, 64)])))
    let n : Nat := 65
    let u : Cur := (wSeq 4 [(106, 64)])
    let x := s.dev.ctx n
    (seqNext s.dev n 4 u) ∧ (x.stack.length < 4)) ∧
    (let s : State := (wS (wThr { stack := [1, 2] } (wSeq 5 [])))
    let n : Nat := 65
    let u : Cur := (wSeq 5 [])
    let p : Nat := 1
    let ps : List Nat := [2]
    let x := s.dev.ctx n
    (seqNext s.dev n 5 u) ∧ (x.stack = p :: ps)) ∧
    (let s : State := (wS (wThr { stack := [1, 2, 3, 4] } (wSeq 4 [])))
    let n : Nat := 65
    let u : Cur := (wSeq 4 [])
    let x := s.dev.ctx n
    (seqNext s.dev n 4 u) ∧ (4 ≤ x.stack.length)) ∧
    (let s : State := (wS (wThr {} (wSeq 5 [])))
    let n : Nat := 65
    let u : Cur := (wSeq 5 [])
    let x := s.dev.ctx n
    (seqNext s.dev n 5 u) ∧ (x.stack = [])) := by
  refine ⟨?_, ?_, ?_, ?_⟩
  · dsimp only [seqNext, Dev.inWord]; decide +kernel
  · dsimp only [seqNext, Dev.inWord]; decide +kernel
  · dsimp only [seqNext, Dev.inWord]; decide +kernel
  · dsimp only [seqNext, Dev.inWord]; decide +kernel

theorem test_wit_WordResults :
    (let s : State := (wS (wThr {} { wSeq 0 [(6, 3)] with alu := some 7 }))
    let n : Nat := 65
    let i : Nat := 31
    let u : Cur := { wSeq 0 [(6, 3)] with alu := some 7 }
    let r : Word64 := 7
    (seqNext s.dev n 0 u) ∧ (i < 0x20) ∧ (uDST u.word < 0x20) ∧ (u.alu = some r) ∧ (u.loads = [])) ∧
    (let s : State := (wS (wThr {} { wSeq 0 [(6, 3)] with alu := some 7, loads := [(3, 9)] }))
    let n : Nat := 65
    let i : Nat := 3
    let u : Cur := { wSeq 0 [(6, 3)] with alu := some 7, loads := [(3, 9)] }
    let r : Word64 := 7
    let v : Word64 := 9
    (seqNext s.dev n 0 u) ∧ (i < 0x20) ∧ (uDST u.word < 0x20) ∧ (u.alu = some r) ∧ (u.loads = [(i, v)])) ∧
    (let s : State := (wS (wThr { pkt := some { body := [], len := 0 } } { wSeq 0 [(6, 0x23)] with alu := some 0x40000201 }))
    let n : Nat := 65
    let i : Nat := 0
    let u : Cur := { wSeq 0 [(6, 0x23)] with alu := some 0x40000201 }
    let r : Word64 := 0x40000201
    let k : Pkt := { body := [], len := 0 }
    (seqNext s.dev n 0 u) ∧ (i < 0x20) ∧ (uDST u.word = 0x23) ∧ (u.alu = some r) ∧ (u.loads = []) ∧ ((s.dev.ctx n).pkt = some k)) := by
  refine ⟨?_, ?_, ?_⟩
  · dsimp only [seqNext, Dev.inWord]; decide +kernel
  · dsimp only [seqNext, Dev.inWord]; decide +kernel
  · dsimp only [seqNext, Dev.inWord]; decide +kernel

theorem test_wit_HeaderWindow :
    (let s : State := (wMemD wDev wRegs (wMemU 0 1 0 0))
    let n : Nat := 65
    let u : Cur := (wMemU 0 1 0 0)
    let d := s.dev
    (memNext d n 0 u)) ∧
    (let s : State := (wMemD wDev wPktX (wMemU 1 1 3 250))
    let n : Nat := 65
    let u : Cur := (wMemU 1 1 3 250)
    let k : Pkt := { body := List.replicate 300 7, len := 304 }
    let d := s.dev
    let x := d.ctx n
    (memNext d n 1 u) ∧ (x.pkt = some k)) ∧
    (let s : State := (wMemD wDev wPktX (wMemU 2 1 3 248))
    let n : Nat := 65
    let u : Cur := (wMemU 2 1 3 248)
    let k : Pkt := { body := List.replicate 300 7, len := 304 }
    let d := s.dev
    let x := d.ctx n
    let m := sizeBytes u.word
    (memNext d n 2 u) ∧ (x.pkt = some k) ∧ (u.addr + m ≤ k.winLen)) ∧
    (let s : State := (wMemD wDev wPktX (wMemU 2 1 3 249))
    let n : Nat := 65
    let u : Cur := (wMemU 2 1 3 249)
    let k : Pkt := { body := List.replicate 300 7, len := 304 }
    let d := s.dev
    let x := d.ctx n
    let m := sizeBytes u.word
    (memNext d n 2 u) ∧ (x.pkt = some k) ∧ (k.winLen < u.addr + m)) ∧
    (let s : State := (wMemD wDev wRegs (wMemU 1 1 3 0))
    let n : Nat := 65
    let u : Cur := (wMemU 1 1 3 0)
    let d := s.dev
    let x := d.ctx n
    (memNext d n 1 u) ∧ (x.pkt = none)) ∧
    (let s : State := (wMemD wDev wRegs (wMemU 2 1 3 0))
    let n : Nat := 65
    let u : Cur := (wMemU 2 1 3 0)
    let d := s.dev
    let x := d.ctx n
    (memNext d n 2 u) ∧ (x.pkt = none)) := by
  refine ⟨?_, ?_, ?_, ?_, ?_, ?_⟩
  · dsimp only [memNext, Dev.inWord]; decide +kernel
  · dsimp only [memNext, Dev.inWord]; decide +kernel
  · dsimp only [memNext, Dev.inWord]; decide +kernel
  · dsimp only [memNext, Dev.inWord]; decide +kernel
  · dsimp only [memNext, Dev.inWord]; decide +kernel
  · dsimp only [memNext, Dev.inWord]; decide +kernel

theorem test_wit_KeyWindow :
    (let s : State := (wMemD wDev { wRegs with key := List.replicate 128 7 } (wMemU 3 1 3 120))
    let n : Nat := 65
    let u : Cur := (wMemU 3 1 3 120)
    let d := s.dev
    let x := d.ctx n
    let m := sizeBytes u.word
    (memNext d n 3 u) ∧ (u.addr + m ≤ 128) ∧ (x.key ≠ [])) ∧
    (let s : State := (wMemD wDev wRegs (wMemU 3 1 3 120))
    let n : Nat := 65
    let u : Cur := (wMemU 3 1 3 120)
    let d := s.dev
    let x := d.ctx n
    let m := sizeBytes u.word
    (memNext d n 3 u) ∧ (u.addr + m ≤ 128) ∧ (x.key = [])) ∧
    (let s : State := (wMemD wDev { wRegs with key := List.replicate 128 7 } (wMemU 3 1 3 121))
    let n : Nat := 65
    let u : Cur := (wMemU 3 1 3 121)
    let d := s.dev
    let m := sizeBytes u.word
    (memNext d n 3 u) ∧ (128 < u.addr + m)) := by
  refine ⟨?_, ?_, ?_⟩
  · dsimp only [memNext, Dev.inWord]; decide +kernel
  · dsimp only [memNext, Dev.inWord]; decide +kernel
  · dsimp only [memNext, Dev.inWord]; decide +kernel

theorem test_wit_ScratchAndCregs :
    (let s : State := (wMemD wDev wRegs (wMemU 4 1 0 0x7FFF8))
    let n : Nat := 65
    let ups : List (Nat × Nat) := []
    let u : Cur := (wMemU 4 1 0 0x7FFF8)
    let d := s.dev
    let a := scratchA n u.addr
    (memNext d n 4 u) ∧ (u.addr % 8 = 0) ∧ (u.addr < 0x80000) ∧ ((d.upset ups).badAt a = 0)) ∧
    (let s : State := (wMemD wDev wRegs (wMemU 5 1 0 0x7FFF8))
    let n : Nat := 65
    let u : Cur := (wMemU 5 1 0 0x7FFF8)
    let d := s.dev
    (memNext d n 5 u) ∧ (u.addr % 8 = 0) ∧ (u.addr < 0x80000)) ∧
    (let s : State := (wMemD wDev wRegs (wMemU 4 1 0 0x80000))
    let n : Nat := 65
    let u : Cur := (wMemU 4 1 0 0x80000)
    let d := s.dev
    (memNext d n 4 u) ∧ (¬ (u.addr % 8 = 0 ∧ u.addr < 0x80000))) ∧
    (let s : State := (wMemD wDev wRegs (wMemU 5 1 0 4))
    let n : Nat := 65
    let u : Cur := (wMemU 5 1 0 4)
    let d := s.dev
    (memNext d n 5 u) ∧ (¬ (u.addr % 8 = 0 ∧ u.addr < 0x80000))) ∧
    (let s : State := (wMemD wDev wRegs (wMemU 6 1 0 63))
    let n : Nat := 65
    let ups : List (Nat × Nat) := []
    let u : Cur := (wMemU 6 1 0 63)
    let d := s.dev
    let c := n / 64
    (memNext d n 6 u) ∧ ((d.upset ups).badAt (cregKey c (u.addr % 64)) = 0)) ∧
    (let s : State := (wMemD wDev wRegs (wMemU 7 1 0 63))
    let n : Nat := 65
    let u : Cur := (wMemU 7 1 0 63)
    let d := s.dev
    (memNext d n 7 u) ∧ (noWaitc d n)) := by
  refine ⟨?_, ?_, ?_, ?_, ?_, ?_⟩
  · dsimp only [memNext, Dev.inWord]; decide +kernel
  · dsimp only [memNext, Dev.inWord]; decide +kernel
  · dsimp only [memNext, Dev.inWord]; decide +kernel
  · dsimp only [memNext, Dev.inWord]; decide +kernel
  · dsimp only [memNext, Dev.inWord]; decide +kernel
  · refine ⟨?_, wNoWaitc _ _ _ _ (by decide)⟩; dsimp only [noWaitc, memNext, Dev.inWord]; decide +kernel

theorem test_wit_ScratchAtomics :
    (let s : State := (wMemD wDev wRegs (wMemU 8 1 0 8))
    let n : Nat := 65
    let ups : List (Nat × Nat) := []
    let u : Cur := (wMemU 8 1 0 8)
    let d := s.dev
    let a := scratchA n u.addr
    (memNext d n 8 u) ∧ (bit (uSIZE u.word) 2 = false) ∧ (u.addr % 8 = 0) ∧ (u.addr < 0x80000) ∧ ((d.upset ups).badAt a = 0) ∧ (uSIZE u.word % 4 = 0)) ∧
    (let s : State := (wMemD wDev wRegs (wMemU 8 1 1 8))
    let n : Nat := 65
    let ups : List (Nat × Nat) := []
    let u : Cur := (wMemU 8 1 1 8)
    let d := s.dev
    let a := scratchA n u.addr
    (memNext d n 8 u) ∧ (bit (uSIZE u.word) 2 = false) ∧ (u.addr % 8 = 0) ∧ (u.addr < 0x80000) ∧ ((d.upset ups).badAt a = 0) ∧ (uSIZE u.word % 4 = 1)) := by
  refine ⟨?_, ?_⟩
  · dsimp only [memNext, Dev.inWord]; decide +kernel
  · dsimp only [memNext, Dev.inWord]; decide +kernel

theorem test_wit_CregAtomics :
    (let s : State := (wMemD wDev wRegs (wMemU 8 1 4 8))
    let n : Nat := 65
    let ups : List (Nat × Nat) := []
    let u : Cur := (wMemU 8 1 4 8)
    let d := s.dev
    let c := n / 64
    let i := u.addr % 64
    (memNext d n 8 u) ∧ (bit (uSIZE u.word) 2 = true) ∧ ((d.upset ups).badAt (cregKey c i) = 0) ∧ (noWaitc d n) ∧ (uSIZE u.word % 4 = 0)) ∧
    (let s : State := (wMemD wDev wRegs (wMemU 8 1 5 8))
    let n : Nat := 65
    let ups : List (Nat × Nat) := []
    let u : Cur := (wMemU 8 1 5 8)
    let d := s.dev
    let c := n / 64
    let i := u.addr % 64
    (memNext d n 8 u) ∧ (bit (uSIZE u.word) 2 = true) ∧ ((d.upset ups).badAt (cregKey c i) = 0) ∧ (noWaitc d n) ∧ (uSIZE u.word % 4 = 1)) := by
  refine ⟨?_, ?_⟩
  · refine ⟨?_, by decide, by decide, wNoWaitc _ _ _ _ (by decide), by decide⟩; dsimp only [noWaitc, memNext, Dev.inWord]; decide +kernel
  · refine ⟨?_, by decide, by decide, wNoWaitc _ _ _ _ (by decide), by decide⟩; dsimp only [noWaitc, memNext, Dev.inWord]; decide +kernel

theorem test_wit_ScratchCas :
    (let s : State := (wMemD wDev { regs := [(2, 9)] } (wMemU 8 1 2 8))
    let n : Nat := 65
    let ups : List (Nat × Nat) := []
    let u : Cur := (wMemU 8 1 2 8)
    let d := s.dev
    let x := d.ctx n
    let a := scratchA n u.addr
    let old := d.rd64 a
    let scratch := uSIZE u.word % 8 = 2 ∧ u.addr % 8 = 0 ∧ u.addr < 0x80000 ∧ (d.upset ups).badAt a = 0
    (memNext d n 8 u) ∧ (scratch) ∧ (old = (x.p (uREG u.word)).toNat)) ∧
    (let s : State := (wMemD wDev wRegs (wMemU 8 1 2 8))
    let n : Nat := 65
    let ups : List (Nat × Nat) := []
    let u : Cur := (wMemU 8 1 2 8)
    let d := s.dev
    let x := d.ctx n
    let a := scratchA n u.addr
    let old := d.rd64 a
    let scratch := uSIZE u.word % 8 = 2 ∧ u.addr % 8 = 0 ∧ u.addr < 0x80000 ∧ (d.upset ups).badAt a = 0
    (memNext d n 8 u) ∧ (scratch) ∧ (old ≠ (x.p (uREG u.word)).toNat)) ∧
    (let s : State := (wMemD wDev { regs := [(2, 9)] } (wMemU 8 1 6 8))
    let n : Nat := 65
    let ups : List (Nat × Nat) := []
    let u : Cur := (wMemU 8 1 6 8)
    let d := s.dev
    let x := d.ctx n
    let c := n / 64
    let r := ENG.CREG.W c (u.addr % 64)
    let was := d.get r
    let creg := uSIZE u.word % 8 = 6 ∧ (d.upset ups).badAt (cregKey c (u.addr % 64)) = 0 ∧ noWaitc d n
    (memNext d n 8 u) ∧ (creg) ∧ (was = (x.p (uREG u.word)).toNat)) ∧
    (let s : State := (wMemD wDev wRegs (wMemU 8 1 6 8))
    let n : Nat := 65
    let ups : List (Nat × Nat) := []
    let u : Cur := (wMemU 8 1 6 8)
    let d := s.dev
    let x := d.ctx n
    let c := n / 64
    let r := ENG.CREG.W c (u.addr % 64)
    let was := d.get r
    let creg := uSIZE u.word % 8 = 6 ∧ (d.upset ups).badAt (cregKey c (u.addr % 64)) = 0 ∧ noWaitc d n
    (memNext d n 8 u) ∧ (creg) ∧ (was ≠ (x.p (uREG u.word)).toNat)) := by
  refine ⟨?_, ?_, ?_, ?_⟩
  · dsimp only [memNext, Dev.inWord]; decide +kernel
  · dsimp only [memNext, Dev.inWord]; decide +kernel
  · intro s n u d x c r was creg; exact ⟨by dsimp only [memNext, Dev.inWord]; decide +kernel, ⟨by decide +kernel, by decide +kernel, wNoWaitc _ _ _ _ (by decide)⟩, by decide +kernel⟩
  · intro s n u d x c r was creg; exact ⟨by dsimp only [memNext, Dev.inWord]; decide +kernel, ⟨by decide +kernel, by decide +kernel, wNoWaitc _ _ _ _ (by decide)⟩, by decide +kernel⟩

theorem test_wit_HbmAccess :
    (let s : State := (wMemD wHbm wRegs (wMemU 9 1 0 0x1003FFFFF8))
    let n : Nat := 65
    let ups : List (Nat × Nat) := []
    let u : Cur := (wMemU 9 1 0 0x1003FFFFF8)
    let d := s.dev
    let h := u.addr / 2 ^ 36
    let o := winOff d n u.addr
    let a := hbmA h o
    (memNext d n 9 u) ∧ (inWindow d n u.addr) ∧ (d.inAcc h o 8 = false) ∧ ((d.upset ups).badAt a = 0) ∧ (d.areaWaits a 8 = false)) ∧
    (let s : State := (wMemD wHbm wRegs (wMemU 0xA 1 0 0x1003FFFFF8))
    let n : Nat := 65
    let u : Cur := (wMemU 0xA 1 0 0x1003FFFFF8)
    let d := s.dev
    let h := u.addr / 2 ^ 36
    let o := winOff d n u.addr
    let a := hbmA h o
    (memNext d n 0xA u) ∧ (inWindow d n u.addr) ∧ (d.protectedHbm h o 8 = false) ∧ (d.areaWaits a 8 = false)) ∧
    (let s : State := (wMemD wHbm wRegs (wMemU 0xB 1 0 8))
    let n : Nat := 65
    let u : Cur := (wMemU 0xB 1 0 8)
    let d := s.dev
    let h := u.addr / 2 ^ 36
    let o := winOff d n u.addr
    let a := hbmA h o
    (memNext d n 0xB u) ∧ (inWindow d n u.addr) ∧ (d.protectedHbm h o 8 = false) ∧ (d.rowWaits a = false)) ∧
    (let s : State := (wMemD wHbm wRegs (wMemU 9 1 0 0x1004000000))
    let n : Nat := 65
    let u : Cur := (wMemU 9 1 0 0x1004000000)
    let d := s.dev
    (memNext d n 9 u) ∧ (¬ inWindow d n u.addr)) ∧
    (let s : State := (wMemD wHbm wRegs (wMemU 0xA 1 0 0x1004000000))
    let n : Nat := 65
    let u : Cur := (wMemU 0xA 1 0 0x1004000000)
    let d := s.dev
    let h := u.addr / 2 ^ 36
    let o := winOff d n u.addr
    (memNext d n 0xA u) ∧ ((¬ inWindow d n u.addr ∨ d.protectedHbm h o 8 = true))) ∧
    (let s : State := (wMemD wHbm wRegs (wMemU 0xB 1 0 4))
    let n : Nat := 65
    let u : Cur := (wMemU 0xB 1 0 4)
    let d := s.dev
    let h := u.addr / 2 ^ 36
    let o := winOff d n u.addr
    (memNext d n 0xB u) ∧ ((¬ inWindow d n u.addr ∨ d.protectedHbm h o 8 = true))) ∧
    (let s : State := (wMemD { wHbm with flt := { FltSt.reset with repairs := [hbmLoc 0x1000000040] } } wRegs (wMemU 0xA 1 0 0x1000000040))
    let n : Nat := 65
    let u : Cur := (wMemU 0xA 1 0 0x1000000040)
    let d := s.dev
    let h := u.addr / 2 ^ 36
    let o := winOff d n u.addr
    let a := hbmA h o
    (memNext d n 0xA u) ∧ (inWindow d n u.addr) ∧ (d.protectedHbm h o 8 = false) ∧ (d.areaWaits a 8 = true)) ∧
    (let s : State := (wMemD { wHbm with flt := { FltSt.reset with repairs := [hbmLoc 64] } } wRegs (wMemU 0xB 1 0 64))
    let n : Nat := 65
    let u : Cur := (wMemU 0xB 1 0 64)
    let d := s.dev
    let h := u.addr / 2 ^ 36
    let o := winOff d n u.addr
    let a := hbmA h o
    (memNext d n 0xB u) ∧ (inWindow d n u.addr) ∧ (d.protectedHbm h o 8 = false) ∧ (d.rowWaits a = true)) := by
  refine ⟨?_, ?_, ?_, ?_, ?_, ?_, ?_, ?_⟩
  · dsimp only [memNext, winOff, inWindow, Dev.inWord]; decide +kernel
  · dsimp only [memNext, winOff, inWindow, Dev.inWord]; decide +kernel
  · dsimp only [memNext, winOff, inWindow, Dev.inWord]; decide +kernel
  · dsimp only [memNext, winOff, inWindow, Dev.inWord]; decide +kernel
  · dsimp only [memNext, winOff, inWindow, Dev.inWord]; decide +kernel
  · dsimp only [memNext, winOff, inWindow, Dev.inWord]; decide +kernel
  · intro s n u d h o a; refine ⟨by dsimp only [memNext, Dev.inWord]; decide +kernel, by dsimp only [inWindow, winOff]; decide +kernel, by decide +kernel, ?_⟩
    have ha : a = 0x1000000040 := by decide +kernel
    have hr : d.flt.repairs = [hbmLoc 0x1000000040] := rfl
    simp [Dev.areaWaits, touchesRow, ha, hr]
  · intro s n u d h o a; refine ⟨by dsimp only [memNext, Dev.inWord]; decide +kernel, by dsimp only [inWindow, winOff]; decide +kernel, by decide +kernel, ?_⟩
    have ha : a = 64 := by decide +kernel
    have hr : d.flt.repairs = [hbmLoc 64] := rfl
    simp [Dev.rowWaits, ha, hr]

theorem test_wit_BufferAllocFree :
    (let s : State := (wMemD wPool wRegs (wMemU 0xC 1 0 256))
    let n : Nat := 65
    let u : Cur := (wMemU 0xC 1 0 256)
    let d := s.dev
    (memNext d n 0xC u) ∧ (1 ≤ u.addr) ∧ (u.addr ≤ 262144) ∧ (d.handleShare n = true)) ∧
    (let s : State := (wMemD wPool wRegs (wMemU 0xC 1 0 262145))
    let n : Nat := 65
    let u : Cur := (wMemU 0xC 1 0 262145)
    let d := s.dev
    (memNext d n 0xC u) ∧ ((u.addr = 0 ∨ 262144 < u.addr))) ∧
    (let s : State := (wMemD wPool { handles := List.range 16 } (wMemU 0xC 1 8 1))
    let n : Nat := 65
    let u : Cur := (wMemU 0xC 1 8 1)
    let d := s.dev
    (memNext d n 0xC u) ∧ (1 ≤ u.addr) ∧ (u.addr ≤ 262144) ∧ (d.handleShare n = false) ∧ (bit (uSIZE u.word) 3 = true)) ∧
    (let s : State := (wMemD wPool { handles := List.range 16 } (wMemU 0xC 1 0 1))
    let n : Nat := 65
    let u : Cur := (wMemU 0xC 1 0 1)
    let d := s.dev
    (memNext d n 0xC u) ∧ (1 ≤ u.addr) ∧ (u.addr ≤ 262144) ∧ (d.handleShare n = false) ∧ (bit (uSIZE u.word) 3 = false)) ∧
    (let s : State := (wMemD wPool { handles := [0] } (wMemU 0xD 1 0 0))
    let n : Nat := 65
    let u : Cur := (wMemU 0xD 1 0 0)
    let d := s.dev
    (memNext d n 0xD u) ∧ (d.handleOk (ctxHalf n) (u.addr % 2 ^ 32) = true)) ∧
    (let s : State := (wMemD wPool { handles := [0] } (wMemU 0xD 1 0 4))
    let n : Nat := 65
    let u : Cur := (wMemU 0xD 1 0 4)
    let d := s.dev
    (memNext d n 0xD u) ∧ (d.handleOk (ctxHalf n) (u.addr % 2 ^ 32) = false)) := by
  refine ⟨?_, ?_, ?_, ?_, ?_, ?_⟩
  · dsimp only [memNext, Dev.inWord]; decide +kernel
  · dsimp only [memNext, Dev.inWord]; decide +kernel
  · dsimp only [memNext, Dev.inWord]; decide +kernel
  · dsimp only [memNext, Dev.inWord]; decide +kernel
  · dsimp only [memNext, Dev.inWord]; decide +kernel
  · dsimp only [memNext, Dev.inWord]; decide +kernel

theorem test_wit_BufferRefAccess :
    (let s : State := (wMemD wPool { handles := [0] } (wMemU 0xE 1 0 0))
    let n : Nat := 65
    let u : Cur := (wMemU 0xE 1 0 0)
    let d := s.dev
    let h := ctxHalf n
    let y := u.addr % 2 ^ 32
    let w := d.binfo h y
    (memNext d n 0xE u) ∧ (d.handleShare n = true) ∧ (d.handleOk h y = true) ∧ (d.metaErr h y = false) ∧ (1 ≤ mREF w) ∧ (mREF w < 255) ∧ (mQUAR w = false) ∧ (mPARKED w = false)) ∧
    (let s : State := (wMemD { wPool with buf := { BufSt.reset with info := [(metaKey 0 0, metaParity 255)] } } { handles := [0] } (wMemU 0xE 1 0 0))
    let n : Nat := 65
    let u : Cur := (wMemU 0xE 1 0 0)
    let d := s.dev
    let h := ctxHalf n
    let y := u.addr % 2 ^ 32
    let w := d.binfo h y
    (memNext d n 0xE u) ∧ (d.handleShare n = true) ∧ (d.handleOk h y = true) ∧ (d.metaErr h y = false) ∧ (mREF w = 255) ∧ (mQUAR w = false) ∧ (mPARKED w = false)) ∧
    (let s : State := (wMemD wPool { handles := [0] } (wMemU 0xF 1 0 248))
    let n : Nat := 65
    let u : Cur := (wMemU 0xF 1 0 248)
    let d := s.dev
    let x := d.ctx n
    let h := ctxHalf n
    let z := (x.p (uREG u.word + 1)).toNat % 2 ^ 32
    (memNext d n 0xF u) ∧ (d.handleOk h z = true) ∧ (z ∈ x.handles) ∧ (u.addr + 8 ≤ poolSize (handlePool z)) ∧ (handlePool z < 4)) ∧
    (let s : State := (wMemD wPool { handles := [0], regs := [(1, 99)] } (wMemU 0x10 1 0 248))
    let n : Nat := 65
    let u : Cur := (wMemU 0x10 1 0 248)
    let d := s.dev
    let x := d.ctx n
    let h := ctxHalf n
    let z := (x.p (uREG u.word + 1)).toNat % 2 ^ 32
    (memNext d n 0x10 u) ∧ (d.handleOk h z = true) ∧ (z ∈ x.handles) ∧ (x.pkt = none) ∧ (u.addr + 8 ≤ poolSize (handlePool z)) ∧ (handlePool z < 4)) ∧
    (let s : State := (wMemD wPool { regs := [(1, 99)] } (wMemU 0x10 1 0 248))
    let n : Nat := 65
    let u : Cur := (wMemU 0x10 1 0 248)
    let d := s.dev
    let x := d.ctx n
    let h := ctxHalf n
    let z := (x.p (uREG u.word + 1)).toNat % 2 ^ 32
    (memNext d n 0x10 u) ∧ (d.handleOk h z = true) ∧ (z ∉ x.handles) ∧ (x.pkt = none)) := by
  refine ⟨?_, ?_, ?_, ?_, ?_⟩
  · dsimp only [memNext, Dev.inWord]; decide +kernel
  · dsimp only [memNext, Dev.inWord]; decide +kernel
  · dsimp only [memNext, Dev.inWord]; decide +kernel
  · dsimp only [memNext, Dev.inWord]; decide +kernel
  · dsimp only [memNext, Dev.inWord]; decide +kernel

theorem test_wit_TxGen :
    (let s : State := (wMemD { wPool with bad := [(metaA 0 0, 1)] } { handles := [0], regs := [(2, BitVec.ofNat 64 (wBits [(0, 60), (14, 3), (23, 5)]))] } (wMemU 0x11 1 0 0))
    let n : Nat := 65
    let u : Cur := (wMemU 0x11 1 0 0)
    let d := s.dev
    let x := d.ctx n
    let y := (x.p (uREG u.word)).toNat % 2 ^ 32
    let v := (x.p (uREG u.word + 1)).toNat
    (memNext d n 0x11 u) ∧ (d.handleOk (ctxHalf n) y = true) ∧ (d.txgenOk n y v = true) ∧ (d.txShare n = true) ∧ (d.metaErr (ctxHalf n) y = true)) ∧
    (let s : State := (wMemD wPool { handles := [0], regs := [(2, BitVec.ofNat 64 (wBits [(0, 60), (14, 3), (23, 5)]))] } (wMemU 0x11 1 0 0))
    let n : Nat := 65
    let u : Cur := (wMemU 0x11 1 0 0)
    let d := s.dev
    let x := d.ctx n
    let y := (x.p (uREG u.word)).toNat % 2 ^ 32
    let v := (x.p (uREG u.word + 1)).toNat
    (memNext d n 0x11 u) ∧ (d.handleOk (ctxHalf n) y = true) ∧ (d.txgenOk n y v = true) ∧ (d.txShare n = true) ∧ (d.metaErr (ctxHalf n) y = false)) := by
  refine ⟨?_, ?_⟩
  · dsimp only [memNext, Dev.inWord]; decide +kernel
  · dsimp only [memNext, Dev.inWord]; decide +kernel

theorem test_wit_HeldRecord :
    (let s : State := (wMemD wFace wHeldX (wMemU 0x12 1 0 0))
    let n : Nat := 65
    let u : Cur := (wMemU 0x12 1 0 0)
    let h : Held := wHeld
    let d := s.dev
    let x := d.ctx n
    let i := uOFF u.word % 16
    (memNext d n 0x12 u) ∧ (x.held = some h) ∧ (i < (d.heldWords n h).length)) ∧
    (let s : State := (wMemD wFace wHeldX (wMemU 0x13 1 0 0))
    let n : Nat := 65
    let u : Cur := (wMemU 0x13 1 0 0)
    let h : Held := wHeld
    let d := s.dev
    let x := d.ctx n
    (memNext d n 0x13 u) ∧ (x.held = some h)) ∧
    (let s : State := (wMemD wFace wHeldX (wMemU 0x14 1 0 0))
    let n : Nat := 65
    let u : Cur := (wMemU 0x14 1 0 0)
    let h : Held := wHeld
    let l : Line := wLine
    let d := s.dev
    let x := d.ctx n
    (memNext d n 0x14 u) ∧ (x.held = some h) ∧ (d.lineOf (n / 512) h.handle = some l) ∧ (l.st ≠ .filling)) ∧
    (let s : State := (wMemD wFace wRegs (wMemU 0x12 1 0 0))
    let n : Nat := 65
    let d := s.dev
    let x := d.ctx n
    (x.held = none)) ∧
    (let s : State := (wMemD wDev wHeldX (wMemU 0x14 1 0 0))
    let n : Nat := 65
    let u : Cur := (wMemU 0x14 1 0 0)
    let h : Held := wHeld
    let d := s.dev
    let x := d.ctx n
    (memNext d n 0x14 u) ∧ (x.held = some h) ∧ (d.lineOf (n / 512) h.handle = none)) := by
  refine ⟨?_, ?_, ?_, ?_, ?_⟩
  · dsimp only [memNext, Dev.inWord]; decide +kernel
  · dsimp only [memNext, Dev.inWord]; decide +kernel
  · dsimp only [memNext, Dev.inWord]; decide +kernel
  · dsimp only; decide +kernel
  · dsimp only [memNext, Dev.inWord]; decide +kernel

theorem test_wit_TakeAndRelease :
    (let s : State := (wMemD wFace wHeldX (wMemU 0x15 1 0 0))
    let n : Nat := 65
    let u : Cur := (wMemU 0x15 1 0 0)
    let h : Held := wHeld
    let d := s.dev
    let x := d.ctx n
    (memNext d n 0x15 u) ∧ (x.held = some h) ∧ (noWaiter d n h.handle)) ∧
    (let s : State := (wMemD wFace wHeldX (wMemU 0x18 1 0 0))
    let n : Nat := 65
    let u : Cur := (wMemU 0x18 1 0 0)
    let h : Held := wHeld
    let d := s.dev
    let x := d.ctx n
    (memNext d n 0x18 u) ∧ (x.held = some h) ∧ (noWaiter d n h.handle)) ∧
    (let s : State := (wMemD wFace wRegs (wMemU 0x16 1 0 5))
    let n : Nat := 65
    let u : Cur := (wMemU 0x16 1 0 5)
    let l : Line := wLine
    let d := s.dev
    let x := d.ctx n
    let sl := n / 512
    (memNext d n 0x16 u) ∧ (x.held = none) ∧ (u.addr % 2 ^ 32 ≠ noFlow) ∧ (d.goneStatus sl (u.addr % 2 ^ 32) = none) ∧ (readable d sl (u.addr % 2 ^ 32) l) ∧ (d.holder sl (u.addr % 2 ^ 32) = none) ∧ (noWaiter d n (u.addr % 2 ^ 32))) ∧
    (let s : State := (wMemD wFace wRegs (wMemU 0x16 1 0 noFlow))
    let n : Nat := 65
    let u : Cur := (wMemU 0x16 1 0 noFlow)
    let d := s.dev
    let x := d.ctx n
    (memNext d n 0x16 u) ∧ (x.held = none) ∧ (u.addr % 2 ^ 32 = noFlow)) := by
  refine ⟨?_, ?_, ?_, ?_⟩
  · dsimp only [memNext, noWaiter, Dev.inWord]; decide +kernel
  · dsimp only [memNext, noWaiter, Dev.inWord]; decide +kernel
  · dsimp only [wordsGood, readable, memNext, noWaiter, Dev.inWord]; decide +kernel
  · dsimp only [memNext, Dev.inWord]; decide +kernel

theorem test_wit_QinsIssue :
    (let s : State := (wMemD (wSet wDev [(QRY.GCFG.EN, 1), (QRY.GCFG.READY, 1), (QRY.CTL.EN 0, 1)]) wRegs (wMemU 0x17 1 0 0))
    let n : Nat := 65
    let u : Cur := (wMemU 0x17 1 0 0)
    let d := s.dev
    let on := d.is QRY.GCFG.EN = true ∧ d.is QRY.GCFG.READY = true ∧ d.is (QRY.CTL.EN (n / 512)) = true
    (memNext d n 0x17 u) ∧ (on)) ∧
    (let s : State := (wMemD wDev wRegs (wMemU 0x17 1 0 0))
    let n : Nat := 65
    let u : Cur := (wMemU 0x17 1 0 0)
    let d := s.dev
    let on := d.is QRY.GCFG.EN = true ∧ d.is QRY.GCFG.READY = true ∧ d.is (QRY.CTL.EN (n / 512)) = true
    (memNext d n 0x17 u) ∧ (¬ on)) := by
  refine ⟨?_, ?_⟩
  · dsimp only [memNext, Dev.inWord]; decide +kernel
  · dsimp only [memNext, Dev.inWord]; decide +kernel

theorem test_wit_Channels :
    (let s : State := (wMemD wDev wRegs (wMemU 0x19 1 0 3))
    let n : Nat := 65
    let u : Cur := (wMemU 0x19 1 0 3)
    let d := s.dev
    let x := d.ctx n
    let c := n / 64
    let i := u.addr % 16
    (x.chanLost = false) ∧ (memNext d n 0x19 u) ∧ (x.chan = none) ∧ ((d.chan c i).st = 0)) ∧
    (let s : State := (wMemD (wChan { st := 1, holder := 66 }) wRegs (wMemU 0x19 1 8 3))
    let n : Nat := 65
    let u : Cur := (wMemU 0x19 1 8 3)
    let d := s.dev
    let x := d.ctx n
    let c := n / 64
    let i := u.addr % 16
    (x.chanLost = false) ∧ (memNext d n 0x19 u) ∧ (x.chan = none) ∧ ((d.chan c i).st ≠ 0) ∧ (bit (uSIZE u.word) 3 = true)) ∧
    (let s : State := (wMemD (wChan { st := 1, holder := 66 }) wRegs (wMemU 0x19 1 0 3))
    let n : Nat := 65
    let u : Cur := (wMemU 0x19 1 0 3)
    let d := s.dev
    let x := d.ctx n
    let c := n / 64
    let i := u.addr % 16
    (x.chanLost = false) ∧ (memNext d n 0x19 u) ∧ (x.chan = none) ∧ ((d.chan c i).st ≠ 0) ∧ (bit (uSIZE u.word) 3 = false)) ∧
    (let s : State := (wMemD (wChan { st := 1, holder := 65 }) { wRegs with chan := some 3 } (wMemU 0x1A 1 7 3))
    let n : Nat := 65
    let u : Cur := (wMemU 0x1A 1 7 3)
    let j : Nat := 3
    let d := s.dev
    let x := d.ctx n
    (x.chanLost = false) ∧ (memNext d n 0x1A u) ∧ (x.chan = some j)) ∧
    (let s : State := (wMemD (wChan { st := 1, holder := 65, staged := [(0, 9)] }) { wRegs with chan := some 3 } (wMemU 0x1B 1 0 3))
    let n : Nat := 65
    let u : Cur := (wMemU 0x1B 1 0 3)
    let j : Nat := 3
    let d := s.dev
    let x := d.ctx n
    let c := n / 64
    (x.chanLost = false) ∧ (memNext d n 0x1B u) ∧ (x.chan = some j) ∧ ((d.chan c j).recvs = [])) ∧
    (let s : State := (wMemD (wChan { st := 1, holder := 65, staged := [(0, 9)] }) { wRegs with chan := some 3 } (wMemU 0x1C 1 0 3))
    let n : Nat := 65
    let u : Cur := (wMemU 0x1C 1 0 3)
    let j : Nat := 3
    let d := s.dev
    let x := d.ctx n
    let c := n / 64
    (x.chanLost = false) ∧ (memNext d n 0x1C u) ∧ (x.chan = some j) ∧ ((d.chan c j).opens = [])) ∧
    (let s : State := (wMemD (wChan { st := 2, staged := [(0, 9)] }) wRegs (wMemU 0x1D 1 0 3))
    let n : Nat := 65
    let ups : List (Nat × Nat) := []
    let u : Cur := (wMemU 0x1D 1 0 3)
    let d := s.dev
    let x := d.ctx n
    let c := n / 64
    let i := u.addr % 16
    (x.chanLost = false) ∧ (memNext d n 0x1D u) ∧ ((d.chan c i).st = 2) ∧ ((d.chan c i).opens = []) ∧ (x.kickReq = false) ∧ ((∀ w, w < 8 → (d.upset ups).badAt (chanKey c i w) = 0))) ∧
    (let s : State := (wMemD wDev wRegs (wMemU 0x1D 1 0 3))
    let n : Nat := 65
    let u : Cur := (wMemU 0x1D 1 0 3)
    let d := s.dev
    let x := d.ctx n
    let c := n / 64
    let i := u.addr % 16
    (x.chanLost = false) ∧ (memNext d n 0x1D u) ∧ ((d.chan c i).st ≠ 2)) := by
  refine ⟨?_, ?_, ?_, ?_, ?_, ?_, ?_, ?_⟩
  · dsimp only [memNext, Dev.inWord]; decide +kernel
  · dsimp only [memNext, Dev.inWord]; decide +kernel
  · dsimp only [memNext, Dev.inWord]; decide +kernel
  · dsimp only [memNext, Dev.inWord]; decide +kernel
  · dsimp only [memNext, Dev.inWord]; decide +kernel
  · dsimp only [memNext, Dev.inWord]; decide +kernel
  · dsimp only [memNext, Dev.inWord]; decide +kernel
  · dsimp only [memNext, Dev.inWord]; decide +kernel

theorem test_wit_ChannelRefusals :
    (let s : State := (wMemD (wChan { st := 1, holder := 65 }) { wRegs with chan := some 3 } (wMemU 0x19 1 0 4))
    let n : Nat := 65
    let u : Cur := (wMemU 0x19 1 0 4)
    let j : Nat := 3
    let d := s.dev
    let x := d.ctx n
    (memNext d n 0x19 u) ∧ (x.chanLost = false) ∧ (x.chan = some j)) ∧
    (let s : State := (wMemD wDev wRegs (wMemU 0x1A 1 7 3))
    let n : Nat := 65
    let d := s.dev
    let x := d.ctx n
    (x.chanLost = false) ∧ (x.chan = none)) ∧
    (let s : State := (wMemD wDev { wRegs with chanLost := true } (wMemU 0x1D 1 0 3))
    let n : Nat := 65
    let d := s.dev
    let x := d.ctx n
    (x.chanLost = true)) := by
  refine ⟨?_, ?_, ?_⟩
  · dsimp only [memNext, Dev.inWord]; decide +kernel
  · dsimp only; decide +kernel
  · dsimp only; decide +kernel

theorem test_wit_PacketRelease :
    (let s : State := (wMemD wDev wPktY (wMemU 0x1E 1 0 0))
    let n : Nat := 65
    let u : Cur := (wMemU 0x1E 1 0 0)
    let k : Pkt := wPkt
    let d := s.dev
    let x := d.ctx n
    let first := fun (k : Pkt) => heldBack k.h1 k.h2 k.id (d.ordOf (flowCluster k.slice k.h1)) = false
    (pktNext d n 0 u) ∧ (x.pkt = some k) ∧ (first k)) ∧
    (let s : State := (wMemD wDev wPktY (wMemU 0x1E 1 2 0))
    let n : Nat := 65
    let u : Cur := (wMemU 0x1E 1 2 0)
    let k : Pkt := wPkt
    let d := s.dev
    let x := d.ctx n
    let first := fun (k : Pkt) => heldBack k.h1 k.h2 k.id (d.ordOf (flowCluster k.slice k.h1)) = false
    (pktNext d n 2 u) ∧ (x.pkt = some k) ∧ (first k)) ∧
    (let s : State := (wMemD wDev wPktY (wMemU 0x1E 1 3 0))
    let n : Nat := 65
    let u : Cur := (wMemU 0x1E 1 3 0)
    let k : Pkt := wPkt
    let d := s.dev
    let x := d.ctx n
    let first := fun (k : Pkt) => heldBack k.h1 k.h2 k.id (d.ordOf (flowCluster k.slice k.h1)) = false
    (pktNext d n 3 u) ∧ (x.pkt = some k) ∧ (first k)) ∧
    (let s : State := (wMemD wDev wPktY (wMemU 0x1E 1 1 0))
    let n : Nat := 65
    let u : Cur := (wMemU 0x1E 1 1 0)
    let k : Pkt := wPkt
    let d := s.dev
    let x := d.ctx n
    (pktNext d n 1 u) ∧ (x.pkt = some k)) ∧
    (let s : State := (wMemD wDev { released := true } (wMemU 0x1E 1 0 0))
    let n : Nat := 65
    let d := s.dev
    let x := d.ctx n
    (x.pkt = none) ∧ (x.released = true)) ∧
    (let s : State := (wMemD wDev {} (wMemU 0x1E 1 0 0))
    let n : Nat := 65
    let u : Cur := (wMemU 0x1E 1 0 0)
    let d := s.dev
    let x := d.ctx n
    (x.pkt = none) ∧ (x.released = false) ∧ (pktNext d n 0 u)) := by
  refine ⟨?_, ?_, ?_, ?_, ?_, ?_⟩
  · dsimp only [memNext, pktNext, Dev.inWord]; decide +kernel
  · dsimp only [memNext, pktNext, Dev.inWord]; decide +kernel
  · dsimp only [memNext, pktNext, Dev.inWord]; decide +kernel
  · dsimp only [memNext, pktNext, Dev.inWord]; decide +kernel
  · dsimp only; decide +kernel
  · dsimp only [memNext, pktNext, Dev.inWord]; decide +kernel

theorem test_wit_HeaderReshape :
    (let s : State := (wMemD wDev { wPktY with regs := [(1, 64)] } (wMemU 0x1E 1 4 100))
    let n : Nat := 65
    let u : Cur := (wMemU 0x1E 1 4 100)
    let k : Pkt := wPkt
    let d := s.dev
    let x := d.ctx n
    let len := (x.p (uREG u.word)).toNat % 128
    (x.pkt = some k) ∧ (pktNext d n 4 u) ∧ (u.addr ≤ k.winLen) ∧ (k.hnet + len ≤ 128)) ∧
    (let s : State := (wMemD wDev { wPktY with regs := [(1, 64)] } (wMemU 0x1E 1 5 36))
    let n : Nat := 65
    let u : Cur := (wMemU 0x1E 1 5 36)
    let k : Pkt := wPkt
    let d := s.dev
    let x := d.ctx n
    let len := (x.p (uREG u.word)).toNat % 128
    (x.pkt = some k) ∧ (pktNext d n 5 u) ∧ (len ≤ k.hnet) ∧ (u.addr + len ≤ k.winLen)) ∧
    (let s : State := (wMemD wDev { wPktY with regs := [(1, 65)] } (wMemU 0x1E 1 4 100))
    let n : Nat := 65
    let u : Cur := (wMemU 0x1E 1 4 100)
    let k : Pkt := wPkt
    let d := s.dev
    let x := d.ctx n
    let len := (x.p (uREG u.word)).toNat % 128
    (x.pkt = some k) ∧ (pktNext d n 4 u) ∧ ((k.winLen < u.addr ∨ 128 < k.hnet + len))) ∧
    (let s : State := (wMemD wDev { wPktY with regs := [(1, 65)] } (wMemU 0x1E 1 5 0))
    let n : Nat := 65
    let u : Cur := (wMemU 0x1E 1 5 0)
    let k : Pkt := wPkt
    let d := s.dev
    let x := d.ctx n
    let len := (x.p (uREG u.word)).toNat % 128
    (x.pkt = some k) ∧ (pktNext d n 5 u) ∧ ((k.winLen < u.addr + len ∨ k.hnet < len))) := by
  refine ⟨?_, ?_, ?_, ?_⟩
  · dsimp only [memNext, pktNext, Dev.inWord]; decide +kernel
  · dsimp only [memNext, pktNext, Dev.inWord]; decide +kernel
  · dsimp only [memNext, pktNext, Dev.inWord]; decide +kernel
  · dsimp only [memNext, pktNext, Dev.inWord]; decide +kernel

theorem test_wit_KeeperReads :
    (let s : State := (wKop wKq (wMemU 0x1F 1 0 0) wFault)
    let n : Nat := 64
    let u : Cur := (wMemU 0x1F 1 0 0)
    let r : Nat := 77
    let rs : List Nat := [78]
    let d := s.dev
    (kopNext d n 0 u) ∧ (d.kqOf (n / 8) = r :: rs)) ∧
    (let s : State := (wKop wDev (wMemU 0x1F 1 0 0) wFault)
    let n : Nat := 64
    let u : Cur := (wMemU 0x1F 1 0 0)
    let d := s.dev
    (kopNext d n 0 u) ∧ (d.kqOf (n / 8) = [])) ∧
    (let s : State := (wKop wDev (wMemU 0x1F 1 5 11) wFault)
    let n : Nat := 64
    let u : Cur := (wMemU 0x1F 1 5 11)
    let d := s.dev
    let m := n / 8 * 8 + u.addr % 8
    let y := d.ctx m
    let i := u.addr / 8 % 32
    (kopNext d n 5 u) ∧ ((y.st = .faulted → d.badAt (regKey m i) = 0))) ∧
    (let s : State := (wKop { wDev with bad := [(regKey 67 1, 2)] } (wMemU 0x1F 1 5 11) wFault)
    let n : Nat := 64
    let u : Cur := (wMemU 0x1F 1 5 11)
    let d := s.dev
    let m := n / 8 * 8 + u.addr % 8
    let y := d.ctx m
    let i := u.addr / 8 % 32
    (kopNext d n 5 u) ∧ (y.st = .faulted) ∧ (d.badAt (regKey m i) ≠ 0)) ∧
    (let s : State := (wKop wDev (wMemU 0x1F 1 6 11) wFault)
    let n : Nat := 64
    let u : Cur := (wMemU 0x1F 1 6 11)
    let d := s.dev
    let m := n / 8 * 8 + u.addr % 8
    let y := d.ctx m
    (kopNext d n 6 u) ∧ (y.st = .faulted)) ∧
    (let s : State := (wKop wDev (wMemU 0x1F 1 6 11) wRegs)
    let n : Nat := 64
    let u : Cur := (wMemU 0x1F 1 6 11)
    let d := s.dev
    let m := n / 8 * 8 + u.addr % 8
    let y := d.ctx m
    (kopNext d n 6 u) ∧ (y.st ≠ .faulted)) ∧
    (let s : State := (wKop wDev (wMemU 0x1F 1 7 (3 + 256 * 248)) wFault)
    let n : Nat := 64
    let u : Cur := (wMemU 0x1F 1 7 (3 + 256 * 248))
    let k : Pkt := wPkt
    let d := s.dev
    let m := n / 8 * 8 + u.addr % 8
    let y := d.ctx m
    let o := u.addr / 256 % 256
    (kopNext d n 7 u) ∧ (y.st = .faulted) ∧ (y.pkt = some k) ∧ (o ≤ 248)) ∧
    (let s : State := (wKop wDev (wMemU 0x1F 1 8 (3 + 256 * 92)) wFault)
    let n : Nat := 64
    let u : Cur := (wMemU 0x1F 1 8 (3 + 256 * 92))
    let k : Pkt := wPkt
    let d := s.dev
    let m := n / 8 * 8 + u.addr % 8
    let y := d.ctx m
    let o := u.addr / 256 % 256
    (kopNext d n 8 u) ∧ (y.st = .faulted) ∧ (y.pkt = some k) ∧ (o ≤ 248) ∧ (o + 8 ≤ k.winLen)) ∧
    (let s : State := (wKop wDev (wMemU 0x1F 1 9 3) wFault)
    let n : Nat := 64
    let u : Cur := (wMemU 0x1F 1 9 3)
    let d := s.dev
    (kopNext d n 9 u)) := by
  refine ⟨?_, ?_, ?_, ?_, ?_, ?_, ?_, ?_, ?_⟩
  · dsimp only [memNext, kopNext, Dev.inWord]; decide +kernel
  · dsimp only [memNext, kopNext, Dev.inWord]; decide +kernel
  · dsimp only [memNext, kopNext, Dev.inWord]; decide +kernel
  · dsimp only [memNext, kopNext, Dev.inWord]; decide +kernel
  · dsimp only [memNext, kopNext, Dev.inWord]; decide +kernel
  · dsimp only [memNext, kopNext, Dev.inWord]; decide +kernel
  · dsimp only [memNext, kopNext, Dev.inWord]; decide +kernel
  · dsimp only [memNext, kopNext, Dev.inWord]; decide +kernel
  · dsimp only [memNext, kopNext, Dev.inWord]; decide +kernel

theorem test_wit_KeeperActs :
    (let s : State := (wKop wKq (wMemU 0x1F 1 1 3) wFault)
    let n : Nat := 64
    let u : Cur := (wMemU 0x1F 1 1 3)
    let d := s.dev
    let m := n / 8 * 8 + u.addr % 8
    let y := d.ctx m
    (kopNext d n 1 u) ∧ (y.st = .faulted) ∧ (d.isKeeper m = false)) ∧
    (let s : State := (wKop wDev (wMemU 0x1F 1 2 3) wFault)
    let n : Nat := 64
    let u : Cur := (wMemU 0x1F 1 2 3)
    let d := s.dev
    let m := n / 8 * 8 + u.addr % 8
    let y := d.ctx m
    (kopNext d n 2 u) ∧ (y.st = .faulted) ∧ (d.isKeeper m = false) ∧ (y.held = none) ∧ (y.chan = none) ∧ (y.parent = 0)) ∧
    (let s : State := (wKop wDev (wMemU 0x1F 1 3 3) wFault)
    let n : Nat := 64
    let u : Cur := (wMemU 0x1F 1 3 3)
    let k : Pkt := wPkt
    let d := s.dev
    let m := n / 8 * 8 + u.addr % 8
    let y := d.ctx m
    (kopNext d n 3 u) ∧ (y.st = .faulted) ∧ (d.isKeeper m = false) ∧ (y.held = none) ∧ (y.chan = none) ∧ (y.parent = 0) ∧ (y.pkt = some k) ∧ (heldBack k.h1 k.h2 k.id (d.ordOf (flowCluster k.slice k.h1)) = false)) ∧
    (let s : State := (wKop wDev (wMemU 0x1F 1 4 3) { wRegs with st := .ready })
    let n : Nat := 64
    let u : Cur := (wMemU 0x1F 1 4 3)
    let d := s.dev
    let m := n / 8 * 8 + u.addr % 8
    let y := d.ctx m
    (kopNext d n 4 u) ∧ (y.st = .ready) ∧ (y.cur = none) ∧ (d.isKeeper m = false)) ∧
    (let s : State := (wKop wDev (wMemU 0x1F 1 1 3) wRegs)
    let n : Nat := 64
    let u : Cur := (wMemU 0x1F 1 1 3)
    let d := s.dev
    let m := n / 8 * 8 + u.addr % 8
    let y := d.ctx m
    (y.st ≠ .faulted)) := by
  refine ⟨?_, ?_, ?_, ?_, ?_⟩
  · dsimp only [memNext, kopNext, Dev.inWord]; decide +kernel
  · dsimp only [memNext, kopNext, Dev.inWord]; decide +kernel
  · dsimp only [memNext, kopNext, Dev.inWord]; decide +kernel
  · dsimp only [memNext, kopNext, Dev.inWord]; decide +kernel
  · dsimp only; decide +kernel

theorem test_wit_OperationsAndFences :
    (let s : State := (wS (wEng wDev [(65, { wRegs with st := .waitMem, wait := .op, cur := some (wMemU 4 1 0 0) })]))
    let n : Nat := 65
    let u : Cur := (wMemU 4 1 0 0)
    let d := s.dev
    let x := d.ctx n
    (x.kickReq = false) ∧ (d.clusterOn (n / 64) = true) ∧ (x.wait = .op) ∧ (x.cur = some u)) ∧
    (let s : State := (wS (wThr { wRegs with conflict := true } (wFence 1)))
    let n : Nat := 65
    let u : Cur := (wFence 1)
    let d := s.dev
    let x := d.ctx n
    let fence := fun (k : Nat) => d.inWord n u ∧ u.fenceDone = false ∧ uFENCE u.word = k
    (x.kickReq = false) ∧ (fence 1)) ∧
    (let s : State := (wS (wThr { wRegs with conflict := true } (wFence 2)))
    let n : Nat := 65
    let u : Cur := (wFence 2)
    let d := s.dev
    let x := d.ctx n
    let busy := d.recPending n = true ∨ ∃ p ∈ d.qry.pushes, p.ctx = n + 1
    let fence := fun (k : Nat) => d.inWord n u ∧ u.fenceDone = false ∧ uFENCE u.word = k
    (x.kickReq = false) ∧ (fence 2) ∧ (x.held = none) ∧ (¬ busy)) ∧
    (let s : State := (wS (wThr { wRegs with conflict := true } (wFence 3)))
    let n : Nat := 65
    let u : Cur := (wFence 3)
    let d := s.dev
    let x := d.ctx n
    let sl := n / 512
    let busy := d.recPending n = true ∨ ∃ p ∈ d.qry.pushes, p.ctx = n + 1
    let fence := fun (k : Nat) => d.inWord n u ∧ u.fenceDone = false ∧ uFENCE u.word = k
    (x.kickReq = false) ∧ (fence 3) ∧ (x.held = none) ∧ (¬ busy) ∧ (d.storesWait n = false) ∧ ((∀ r ∈ x.wrote, (∀ l, d.lineOf sl r = some l → l.st ≠ .dirty) ∧ ∀ t ∈ d.qry.txns, t.slice = sl → t.brings r = false))) ∧
    (let s : State := (wS { wThr wRegs (wFence 2) with qry := { QrySt.reset with txns := [wTxn .commit] } })
    let n : Nat := 65
    let u : Cur := (wFence 2)
    let d := s.dev
    let x := d.ctx n
    let busy := d.recPending n = true ∨ ∃ p ∈ d.qry.pushes, p.ctx = n + 1
    let fence := fun (k : Nat) => d.inWord n u ∧ u.fenceDone = false ∧ uFENCE u.word = k
    (x.kickReq = false) ∧ (fence 2) ∧ (x.held = none) ∧ (busy)) ∧
    (let s : State := (wS { wThr wRegs (wFence 3) with qry := { QrySt.reset with txns := [wTxn .commit] } })
    let n : Nat := 65
    let u : Cur := (wFence 3)
    let d := s.dev
    let x := d.ctx n
    let busy := d.recPending n = true ∨ ∃ p ∈ d.qry.pushes, p.ctx = n + 1
    let fence := fun (k : Nat) => d.inWord n u ∧ u.fenceDone = false ∧ uFENCE u.word = k
    (x.kickReq = false) ∧ (fence 3) ∧ (x.held = none) ∧ (x.wrote = []) ∧ ((busy ∨ d.storesWait n = true))) ∧
    (let s : State := (wS { wThr { wRegs with wrote := [5] } (wFence 3) with qry := { QrySt.reset with lines := [{ wLine with st := .dirty, dPkts := 3 }] } })
    let n : Nat := 65
    let u : Cur := (wFence 3)
    let r : Nat := 5
    let l : Line := { wLine with st := .dirty, dPkts := 3 }
    let d := s.dev
    let x := d.ctx n
    let sl := n / 512
    let fence := fun (k : Nat) => d.inWord n u ∧ u.fenceDone = false ∧ uFENCE u.word = k
    (x.kickReq = false) ∧ (fence 3) ∧ (x.held = none) ∧ (x.wrote = [r]) ∧ (d.lineOf sl r = some l) ∧ (l.st = .dirty) ∧ (wordsGood d sl l)) ∧
    (let s : State := (wS (wThr { wRegs with held := some wHeld } (wFence 2)))
    let n : Nat := 65
    let h : Held := wHeld
    let d := s.dev
    let x := d.ctx n
    (x.kickReq = false) ∧ (x.held = some h) ∧ (h.changed = true)) ∧
    (let s : State := (wS { wThr { wRegs with held := some { wHeld with changed := false } } (wFence 2) with qry := { QrySt.reset with lines := [{ wLine with st := .dirty, dPkts := 3 }] } })
    let n : Nat := 65
    let h : Held := { wHeld with changed := false }
    let l : Line := { wLine with st := .dirty, dPkts := 3 }
    let d := s.dev
    let x := d.ctx n
    let sl := n / 512
    (x.kickReq = false) ∧ (x.held = some h) ∧ (h.changed = false) ∧ (d.lineOf sl h.handle = some l) ∧ (l.st = .dirty) ∧ (wordsGood d sl l)) := by
  refine ⟨?_, ?_, ?_, ?_, ?_, ?_, ?_, ?_, ?_⟩
  · dsimp only; decide +kernel
  · dsimp only [Dev.inWord]; decide +kernel
  · dsimp only [Dev.inWord]; decide +kernel
  · dsimp only [Dev.inWord]; decide +kernel
  · dsimp only [Dev.inWord]; decide +kernel
  · dsimp only [Dev.inWord]; decide +kernel
  · dsimp only [wordsGood, Dev.inWord]; decide +kernel
  · dsimp only; decide +kernel
  · dsimp only [wordsGood]; decide +kernel

theorem test_wit_Fetch :
    (let s : State := (wS (wFetchD 0))
    let g : Nat := 8
    let n : Nat := 65
    let d := s.dev
    let p := sget d.eng.slotPtr g 0
    let w := d.ucodeWord (n / 64) (d.bankOf n) (d.ctx n).pc
    let mark := d.ucodeMark (n / 64) (d.bankOf n) (d.ctx n).pc
    (g < 512) ∧ (d.canIssue g = true) ∧ (d.issueFrom g (d.clSet (g / 8)) p = some n) ∧ (ucodeFails w = 0) ∧ (mark = 0) ∧ (d.breaks n (d.bankOf n) (w % 2 ^ 160) = false) ∧ (uIllegal (w % 2 ^ 160) (d.isKeeper n) = false)) ∧
    (let s : State := (wS (wFetchD 0x3F))
    let g : Nat := 8
    let n : Nat := 65
    let d := s.dev
    let p := sget d.eng.slotPtr g 0
    let w := d.ucodeWord (n / 64) (d.bankOf n) (d.ctx n).pc
    let mark := d.ucodeMark (n / 64) (d.bankOf n) (d.ctx n).pc
    (g < 512) ∧ (d.canIssue g = true) ∧ (d.issueFrom g (d.clSet (g / 8)) p = some n) ∧ (ucodeFails w = 0) ∧ (mark = 0) ∧ (d.breaks n (d.bankOf n) (w % 2 ^ 160) = false) ∧ (uIllegal (w % 2 ^ 160) (d.isKeeper n) = true)) ∧
    (let s : State := (wS { wFetchD 0 with mem := [(ucodeA 1 0 0, 1)] })
    let g : Nat := 8
    let n : Nat := 65
    let d := s.dev
    let p := sget d.eng.slotPtr g 0
    let w := d.ucodeWord (n / 64) (d.bankOf n) (d.ctx n).pc
    let mark := d.ucodeMark (n / 64) (d.bankOf n) (d.ctx n).pc
    (g < 512) ∧ (d.canIssue g = true) ∧ (d.issueFrom g (d.clSet (g / 8)) p = some n) ∧ (ucodeFails w ≠ 0) ∧ (mark = 0)) ∧
    (let s : State := (wS { wFetchD 0 with bad := [(ucodeA 1 0 0, 4)] })
    let g : Nat := 8
    let n : Nat := 65
    let d := s.dev
    let p := sget d.eng.slotPtr g 0
    let mark := d.ucodeMark (n / 64) (d.bankOf n) (d.ctx n).pc
    (g < 512) ∧ (d.canIssue g = true) ∧ (d.issueFrom g (d.clSet (g / 8)) p = some n) ∧ (mark ≠ 0)) := by
  refine ⟨?_, ?_, ?_, ?_⟩
  · dsimp only; decide +kernel
  · dsimp only; decide +kernel
  · dsimp only; decide +kernel
  · dsimp only; decide +kernel

theorem test_wit_SeqWaitsAndEnd :
    (let s : State := (wS (wSet (wThr wRegs wWaitc) [(ENG.CREG.W 1 7, 9)]))
    let n : Nat := 65
    let ups : List (Nat × Nat) := []
    let u : Cur := wWaitc
    let d := s.dev
    let i := uOFF u.word % 64
    let met := waitcTest (uSIZE u.word) (d.get (ENG.CREG.W (n / 64) i)) (uIMM u.word)
    (seqNext d n 6 u) ∧ ((d.upset ups).badAt (cregKey (n / 64) i) = 0) ∧ (met = true)) ∧
    (let s : State := (wS (wThr wRegs wWaitc))
    let n : Nat := 65
    let ups : List (Nat × Nat) := []
    let u : Cur := wWaitc
    let d := s.dev
    let i := uOFF u.word % 64
    let met := waitcTest (uSIZE u.word) (d.get (ENG.CREG.W (n / 64) i)) (uIMM u.word)
    (seqNext d n 6 u) ∧ ((d.upset ups).badAt (cregKey (n / 64) i) = 0) ∧ (met = false)) ∧
    (let s : State := (wS (wThr wRegs (wSeq 8 [])))
    let n : Nat := 65
    let u : Cur := (wSeq 8 [])
    let d := s.dev
    let x := d.ctx n
    (seqNext d n 8 u) ∧ (x.children = 0)) ∧
    (let s : State := (wS (wThr { children := 1 } (wSeq 8 [])))
    let n : Nat := 65
    let u : Cur := (wSeq 8 [])
    let d := s.dev
    let x := d.ctx n
    (seqNext d n 8 u) ∧ (x.children ≠ 0)) ∧
    (let s : State := (wS { wEng wDev [(64, { st := .ready, cur := some (wSeq 0xA []) })] with eng.kq := [(8, [7])] })
    let n : Nat := 64
    let u : Cur := (wSeq 0xA [])
    let d := s.dev
    (seqNext d n 0xA u) ∧ (d.kqOf (n / 8) ≠ [])) ∧
    (let s : State := (wS (wEng wDev [(64, { st := .ready, cur := some (wSeq 0xA []) })]))
    let n : Nat := 64
    let u : Cur := (wSeq 0xA [])
    let d := s.dev
    (seqNext d n 0xA u) ∧ (d.kqOf (n / 8) = [])) ∧
    (let s : State := (wS (wThr { wRegs with txe := 3 } (wSeq 9 [])))
    let n : Nat := 65
    let u : Cur := (wSeq 9 [])
    let d := s.dev
    let x := d.ctx n
    (seqNext d n 9 u) ∧ (x.pkt = none) ∧ (x.held = none) ∧ (x.chan = none) ∧ (x.handles = []) ∧ (x.parent = 0)) ∧
    (let s : State := (wS (wThr wPktY (wSeq 9 [])))
    let n : Nat := 65
    let u : Cur := (wSeq 9 [])
    let d := s.dev
    let x := d.ctx n
    (seqNext d n 9 u) ∧ (x.pkt ≠ none)) := by
  refine ⟨?_, ?_, ?_, ?_, ?_, ?_, ?_, ?_⟩
  · dsimp only [seqNext, Dev.inWord]; decide +kernel
  · dsimp only [seqNext, Dev.inWord]; decide +kernel
  · dsimp only [seqNext, Dev.inWord]; decide +kernel
  · dsimp only [seqNext, Dev.inWord]; decide +kernel
  · dsimp only [seqNext, Dev.inWord]; decide +kernel
  · dsimp only [seqNext, Dev.inWord]; decide +kernel
  · dsimp only [seqNext, Dev.inWord]; decide +kernel
  · dsimp only [seqNext, Dev.inWord]; decide +kernel

theorem test_wit_ForkAndChild :
    (let s : State := (wS (wEng wCl [(65, { wRegs with st := .ready, pc := 8191, epoch := some 2, cur := some (wSeq 7 [(106, 33), (144, 1)]) })]))
    let n : Nat := 65
    let u : Cur := (wSeq 7 [(106, 33), (144, 1)])
    let d := s.dev
    let x := d.ctx n
    (seqNext d n 7 u) ∧ (x.children < 15) ∧ (d.freeIn (n / 8) ≠ [])) ∧
    (let s : State := (wS (wEng wCl [(65, { wRegs with st := .ready, children := 15, cur := some (wSeq 7 []) })]))
    let n : Nat := 65
    let u : Cur := (wSeq 7 [])
    let d := s.dev
    let x := d.ctx n
    (seqNext d n 7 u) ∧ ((15 ≤ x.children ∨ d.forkCtx n = none))) ∧
    (let s : State := (wS (wEng wCl [(66, { wRegs with st := .waitMem, forking := true, parent := 66 })]))
    let n : Nat := 66
    let d := s.dev
    let x := d.ctx n
    (x.forking = true) ∧ (quiet x)) := by
  refine ⟨?_, ?_, ?_⟩
  · dsimp only [seqNext, Dev.inWord]; decide +kernel
  · dsimp only [seqNext, Dev.inWord]; decide +kernel
  · dsimp only [quiet]; decide +kernel

theorem test_wit_Dispatch :
    (let s : State := (wS (wDq { wPkt with status := 7 } wFree))
    let c : Nat := 1
    let g : Nat := 8
    let k : Pkt := { wPkt with status := 7 }
    let ks : List Pkt := []
    let d := s.dev
    (c < 64) ∧ (sget d.eng.dq c [] = k :: ks) ∧ (d.canDispatch c = true) ∧ (d.chooseEngine c = some g) ∧ (k.miss = none) ∧ (2 ≤ k.status) ∧ (k.recheck = false)) ∧
    (let s : State := (wS (wDq { wPkt with status := 1 } { wFree with qry := wFace.qry }))
    let c : Nat := 1
    let g : Nat := 8
    let k : Pkt := { wPkt with status := 1 }
    let ks : List Pkt := []
    let l : Line := wLine
    let d := s.dev
    let m := d.lowestFree g
    let sl := m / 512
    (c < 64) ∧ (sget d.eng.dq c [] = k :: ks) ∧ (d.canDispatch c = true) ∧ (d.chooseEngine c = some g) ∧ (k.miss = none) ∧ (k.status ≤ 1) ∧ (k.recheck = false) ∧ (d.goneStatus sl k.handle = none) ∧ (readable d sl k.handle l) ∧ (d.holder sl k.handle = none) ∧ (d.recWaiter sl k.handle = none) ∧ ((d.ctx m).held = none)) := by
  refine ⟨?_, ?_⟩
  · dsimp only; decide +kernel
  · dsimp only [wordsGood, readable]; decide +kernel

theorem test_wit_FlowOrder :
    (let s : State := (wS wOrd)
    let c : Nat := 1
    let id : Nat := 4
    let k : Pkt := wReleased
    (c < 64) ∧ (s.dev.clusterOn c = true) ∧ (s.dev.ordReady c id = some k)) := by
  · dsimp only; decide +kernel

theorem test_wit_FaultHandling :
    (let s : State := (wKp wKeeper { st := .ready } wFx)
    let n : Nat := 65
    let d := s.dev
    let x := d.ctx n
    let k := d.ctx (n / 8 * 8)
    (n < 4096) ∧ (x.st = .faulted) ∧ (x.delivered = false) ∧ (d.isKeeper n = false) ∧ (d.keeperEn (n / 8) = true) ∧ (k.st = .ready) ∧ ((d.kqOf (n / 8)).length < 16)) ∧
    (let s : State := (wKp wCl {} wFx)
    let n : Nat := 65
    let d := s.dev
    let x := d.ctx n
    (n < 4096) ∧ (x.st = .faulted) ∧ (x.delivered = false) ∧ (d.isKeeper n = false) ∧ (d.keeperEn (n / 8) = false) ∧ (alone x)) ∧
    (let s : State := (wKp wKeeper wFx {})
    let n : Nat := 64
    let d := s.dev
    let x := d.ctx n
    (n < 4096) ∧ (x.st = .faulted) ∧ (x.delivered = false) ∧ (d.isKeeper n = true)) ∧
    (let s : State := (wKp wKq { st := .ready } { wFx with delivered := true, faultAge := (wDev.get (ENG.TMO_CFG.KEEPER_TMO 1)) * 1000 })
    let n : Nat := 65
    let d := s.dev
    let x := d.ctx n
    let c := n / 64
    (n < 4096) ∧ (x.st = .faulted) ∧ (x.delivered = true) ∧ (d.isKeeper n = false) ∧ (alone x) ∧ (d.get (ENG.TMO_CFG.KEEPER_TMO c) * 1000 ≤ x.faultAge)) ∧
    (let s : State := (wKp wKeeper {} { wRegs with st := .ready, timer := (wDev.get (ENG.TMO_CFG.THREAD_TMO 1)) * 1000 })
    let n : Nat := 65
    let d := s.dev
    let x := d.ctx n
    let c := n / 64
    (n < 4096) ∧ ((x.st = .ready ∨ x.st = .waitMem ∨ x.st = .waitEvent)) ∧ (d.isKeeper n = false) ∧ (d.get (ENG.TMO_CFG.THREAD_TMO c) * 1000 ≤ x.timer) ∧ (x.timer < timerSpent)) := by
  refine ⟨?_, ?_, ?_, ?_, ?_⟩
  · dsimp only; decide +kernel
  · dsimp only [alone]; decide +kernel
  · dsimp only; decide +kernel
  · dsimp only [alone]; decide +kernel
  · dsimp only; decide +kernel

theorem test_wit_ReclaimAndFog :
    (let s : State := (wS { wEng (wChan { st := 1, holder := 65 }) [(65, { wRegs with st := .ready, chan := some 3 })] with tick := 10000000000, eng.chans := [(19, { st := 1, holder := 65, staged := [(0, 9)] })] })
    let c : Nat := 1
    let i : Nat := 3
    let d := s.dev
    (c < 64) ∧ (i < 16) ∧ (d.clusterOn c = true) ∧ ((d.chan c i).st = 1) ∧ ((d.chan c i).opens = []) ∧ (d.get (ENG.TMO_CFG.HOLD_US c) * 1000 ≤ d.tick - (d.chan c i).openAt)) ∧
    (let s : State := (wS wFog)
    let g : Nat := 8
    let d := s.dev
    let k := d.ctx (8 * g)
    let fog := d.is (ENG.CL_CTL.FOG_EN (g / 8)) = true ∧ d.is (ENG.CL_CTL.EN (g / 8)) = true ∧ d.fogCond g = true ∧
      d.get (ENG.TMO_CFG.FOG_WINDOW (g / 8)) * 100 ≤ sget d.eng.fogQuiet g 0 ∧ sget d.eng.fogQuiet g 0 < fogSounded
    (g < 512) ∧ (fog) ∧ (d.keeperEn g = true) ∧ (k.st = .keeperIdle) ∧ (quiet k)) ∧
    (let s : State := (wS (wSet { wFog with eng := { wFog.eng with ctxs := (64, { st := .waitEvent }) :: wFog.eng.ctxs.drop 1 } } [(ENG.CL_CTL.KEEPER_EN 1, 0)]))
    let g : Nat := 8
    let d := s.dev
    let fog := d.is (ENG.CL_CTL.FOG_EN (g / 8)) = true ∧ d.is (ENG.CL_CTL.EN (g / 8)) = true ∧ d.fogCond g = true ∧
      d.get (ENG.TMO_CFG.FOG_WINDOW (g / 8)) * 100 ≤ sget d.eng.fogQuiet g 0 ∧ sget d.eng.fogQuiet g 0 < fogSounded
    (g < 512) ∧ (fog) ∧ (d.keeperEn g = false)) := by
  refine ⟨?_, ?_, ?_⟩
  · dsimp only; decide +kernel
  · dsimp only [quiet]; decide +kernel
  · dsimp only; decide +kernel

theorem test_wit_ClusterRegisters :
    (let s : State := (wS (wSet wDev [(ENG.KEEPER_ENTRY.ADDR 1 7, 99)]))
    let c : Nat := 1
    let v : Nat := 0x810001
    let i : Nat := 0
    let d := s.dev
    (c < 64) ∧ (i < 64) ∧ (d.reaches (ENG.CL_CTL.EN c)) ∧ (v < 2 ^ 32) ∧ (d.is (ENG.CL_CTL.EN c) = false) ∧ (bit v 0 = true)) ∧
    (let s : State := (wS (wDq wPkt (wEng wCl [(65, { wRegs with st := .ready })])))
    let c : Nat := 1
    let v : Nat := 0
    let i : Nat := 0
    let n : Nat := 65
    let d := s.dev
    let x := d.ctx n
    (c < 64) ∧ (i < 64) ∧ (d.reaches (ENG.CL_CTL.EN c)) ∧ (v < 2 ^ 32) ∧ (d.is (ENG.CL_CTL.EN c) = true) ∧ (bit v 0 = false) ∧ (n / 64 = c) ∧ (alone x) ∧ ((∀ m, m / 64 = c → m ≠ n → (d.ctx m).st = .free)) ∧ (x.st ≠ .free)) ∧
    (let s : State := (wS wDev)
    let c : Nat := 1
    let v : Nat := 0
    let i : Nat := 0
    let d := s.dev
    let bad := bits v 13 8 < bits v 5 1 ∨ bits v 29 24 < bits v 18 16 ∨ 16 < bits v 5 1 ∨ 4 < bits v 18 16 ∨ bits v 13 8 = 0 ∨ bits v 29 24 = 0
    (c < 64) ∧ (i < 64) ∧ (d.reaches (ENG.SHARE_CFG.MODE c)) ∧ (v < 2 ^ 32) ∧ (bad)) ∧
    (let s : State := (wS wDev)
    let c : Nat := 1
    let v : Nat := (wBits [(0, 1), (1, 16), (8, 16), (16, 4), (24, 4)])
    let i : Nat := 0
    let d := s.dev
    let bad := bits v 13 8 < bits v 5 1 ∨ bits v 29 24 < bits v 18 16 ∨ 16 < bits v 5 1 ∨ 4 < bits v 18 16 ∨ bits v 13 8 = 0 ∨ bits v 29 24 = 0
    (c < 64) ∧ (i < 64) ∧ (d.reaches (ENG.SHARE_CFG.MODE c)) ∧ (v < 2 ^ 32) ∧ (¬ bad)) ∧
    (let s : State := (wS wDev)
    let c : Nat := 1
    let i : Nat := 63
    let d := s.dev
    let r := ENG.CREG.W c i
    (c < 64) ∧ (i < 64) ∧ (d.reaches r) ∧ (noWaitc d (64 * c))) ∧
    (let s : State := (wS (wEng wDev [(65, { wRegs with st := .waitEvent, wait := .creg, cur := some wWaitc })]))
    let c : Nat := 1
    let v : Nat := 9
    let i : Nat := 7
    let n : Nat := 65
    let u : Cur := wWaitc
    let d := s.dev
    let x := d.ctx n
    let r := ENG.CREG.W c i
    (c < 64) ∧ (i < 64) ∧ (d.reaches r) ∧ (n / 64 = c) ∧ ((∀ m, m / 64 = c → m ≠ n → (d.ctx m).wait ≠ .creg)) ∧ (x.wait = .creg) ∧ (x.cur = some u) ∧ (uOFF u.word % 64 = i) ∧ (waitcTest (uSIZE u.word) (v % 2 ^ 64) (uIMM u.word) = true) ∧ (quiet x)) := by
  refine ⟨?_, ?_, ?_, ?_, ?_, ?_⟩
  · dsimp only [Dev.reaches]; decide +kernel
  · dsimp only [alone, Dev.reaches]; refine ⟨by decide, by decide, by decide +kernel, by decide, by decide +kernel, by decide, by decide, by decide +kernel, ?_, by decide +kernel⟩; intro m _ h; exact congrArg Ctx.st (wOther wCl 65 m _ h)
  · dsimp only [Dev.reaches]; decide +kernel
  · dsimp only [Dev.reaches]; decide +kernel
  · dsimp only [noWaitc, Dev.reaches]; refine ⟨by decide, by decide, by decide +kernel, ?_⟩; intro m _ h; cases h
  · dsimp only [quiet, Dev.reaches]; refine ⟨by decide, by decide, by decide +kernel, by decide, ?_, by decide +kernel, rfl, by decide, by decide +kernel, by decide +kernel⟩; intro m _ h; rw [show (wS (wEng wDev [(65, _)])).dev.ctx m = _ from wOther wDev 65 m _ h]; decide

theorem test_wit_FieldWrites :
    (let v : Nat := 0x70000
    let f : FldL := ⟨16, 16, .rw, 0x40, .nz⟩
    let x := bits v (f.lo + f.w - 1) f.lo
    (1 ≤ f.w) ∧ (f.acc = .rw) ∧ (f.rule.ok x = true)) ∧
    (let v : Nat := 0
    let f : FldL := ⟨16, 16, .rw, 0x40, .nz⟩
    let x := bits v (f.lo + f.w - 1) f.lo
    (1 ≤ f.w) ∧ (f.acc = .rw) ∧ (f.rule.ok x = false)) ∧
    (let d : Dev := wDev
    let v : Nat := 0x70000
    let f : FldL := ⟨16, 16, .rwl, 0x40, .nz⟩
    let x := bits v (f.lo + f.w - 1) f.lo
    (1 ≤ f.w) ∧ (f.acc = .rwl) ∧ (d.is GLB.LOCK.LOCK = false) ∧ (f.rule.ok x = true)) ∧
    (let d : Dev := (wSet wDev [(GLB.LOCK.LOCK, 1)])
    let f : FldL := ⟨16, 16, .rwl, 0x40, .nz⟩
    (1 ≤ f.w) ∧ (f.acc = .rwl) ∧ (d.is GLB.LOCK.LOCK = true)) ∧
    (let f : FldL := ⟨16, 16, .w1c, 0, .any⟩
    (1 ≤ f.w) ∧ (f.acc = .w1c)) ∧
    (let f : FldL := ⟨16, 16, .w1s, 0, .any⟩
    (1 ≤ f.w) ∧ (f.acc = .w1s)) ∧
    (let f : FldL := ⟨16, 16, .rc, 0, .any⟩
    (1 ≤ f.w) ∧ ((f.acc = .ro ∨ f.acc = .wo ∨ f.acc = .rc))) ∧
    (let f : FldL := ⟨16, 16, .rw, 0, .any⟩
    (1 ≤ f.w)) := by
  refine ⟨?_, ?_, ?_, ?_, ?_, ?_, ?_, ?_⟩
  · dsimp only; decide +kernel
  · dsimp only; decide +kernel
  · dsimp only; decide +kernel
  · dsimp only; decide +kernel
  · dsimp only; decide +kernel
  · dsimp only; decide +kernel
  · dsimp only; decide +kernel
  · dsimp only; decide +kernel

theorem test_wit_HostRegisterWrites :
    (let s : State := (wS wDev)
    let sl : Nat := 0
    let o : Nat := 0x1008
    let bs : List Byte := [1, 2, 3, 4, 0, 0, 0, 0]
    let r : RegFam := wFam
    let d := s.dev
    let a := 0x1300000 + 0x400000 * sl + o
    (sl < 8) ∧ (o < 0x80000) ∧ ((r.bytes = 4 ∨ r.bytes = 8)) ∧ (findReg allLayout a = some (a, r)) ∧ (a % r.bytes = 0) ∧ (bs.length = r.bytes) ∧ ((r.flds.map (fun f => f.lo)).Nodup) ∧ ((∀ f ∈ r.flds, 1 ≤ f.w)) ∧ (d.held = false) ∧ (d.bar0Err a = none)) ∧
    (let s : State := (wS (wSet wDev [((⟨0, 16, .w1c, 0, .any⟩ : FldL).at 0x400, 0xFF)]))
    let bs : List Byte := [0x0F, 0, 0, 0]
    let r : RegFam := wEvReg
    let b : Nat := 0x400
    let d := s.dev
    (b ∈ flagRegs) ∧ (findReg allLayout b = some (b, r)) ∧ (bs.length = r.bytes) ∧ (d.held = false) ∧ (d.bar0Err b = none)) := by
  refine ⟨?_, ?_⟩
  · dsimp only; decide +kernel
  · dsimp only; decide +kernel

theorem test_wit_HostAccessErrors :
    (let s : State := (wS wDev)
    let full : Bool := true
    let bar : Nat := 0
    let a : Nat := 0x100004
    let n : Nat := 8
    let d := s.dev
    (d.held = false) ∧ (a < (if bar = 0 then 0x4000000 else 0x40000000)) ∧ (bar = 0) ∧ ((bar0Ok a n = false ∨ full = false))) ∧
    (let s : State := (wS wDev)
    let bar : Nat := 0
    let a : Nat := 0x3400000
    let d := s.dev
    (d.held = false) ∧ (a < (if bar = 0 then 0x4000000 else 0x40000000)) ∧ (bar = 0) ∧ (d.get GLB.BOOT_STAT.STATE = 6) ∧ (0x3400000 ≤ a)) ∧
    (let s : State := (wS wDev)
    let bar : Nat := 0
    let a : Nat := 0x100
    let n : Nat := 4
    let t : Nat := 20000
    let d := s.dev
    let late := fun (b k : Nat) => 20000 + d.readSusp b a k t ≤ t ∨ 80000 ≤ t
    (d.held = false) ∧ (a < (if bar = 0 then 0x4000000 else 0x40000000)) ∧ (bar < 2) ∧ (readFits bar a n = true) ∧ (d.spanErr bar a n = none) ∧ ((∀ w ∈ d.bar2Span a n, bar = 1 → d.badAt w = 0)) ∧ ((d.readHalf bar a = 1 ∧ d.linkGone = true ∨ late bar n))) ∧
    (let s : State := (wS wDev)
    let bar : Nat := 0
    let a : Nat := 0x108
    let t : Nat := 19999
    let d := s.dev
    let late := fun (b k : Nat) => 20000 + d.readSusp b a k t ≤ t ∨ 80000 ≤ t
    let answers := fun (b k : Nat) => readFits b a k = true ∧ d.spanErr b a k = none ∧ ¬ (d.readHalf b a = 1 ∧ d.linkGone = true) ∧ ¬ late b k
    (d.held = false) ∧ (a < (if bar = 0 then 0x4000000 else 0x40000000)) ∧ (bar = 0) ∧ (answers 0 4) ∧ (a ≠ TMU.TOD_NS.NS.key / 32 * 4)) ∧
    (let s : State := (wS { wBar2 with mem := [(0x107, 9)] })
    let bar : Nat := 1
    let a : Nat := 0x100
    let t : Nat := 19999
    let d := s.dev
    let late := fun (b k : Nat) => 20000 + d.readSusp b a k t ≤ t ∨ 80000 ≤ t
    let answers := fun (b k : Nat) => readFits b a k = true ∧ d.spanErr b a k = none ∧ ¬ (d.readHalf b a = 1 ∧ d.linkGone = true) ∧ ¬ late b k
    (d.held = false) ∧ (a < (if bar = 0 then 0x4000000 else 0x40000000)) ∧ (bar = 1) ∧ (a % 8 = 0) ∧ (answers 1 8) ∧ (d.badAt (d.winAddr a) = 0) ∧ (d.areaWaits (d.winAddr a) 8 = false)) ∧
    (let s : State := (wS wDev)
    let bar : Nat := 0
    let a : Nat := 0x100
    let d := s.dev
    (d.held = false) ∧ (a < (if bar = 0 then 0x4000000 else 0x40000000))) ∧
    (let s : State := (wS { wSet wBar2 [(GLB.WIN_BASE_HI.HI, 10)] with bad := [(0xA00000100, 2)] })
    let bar : Nat := 1
    let a : Nat := 0x100
    let t : Nat := 19999
    let d := s.dev
    let late := fun (b k : Nat) => 20000 + d.readSusp b a k t ≤ t ∨ 80000 ≤ t
    let answers := fun (b k : Nat) => readFits b a k = true ∧ d.spanErr b a k = none ∧ ¬ (d.readHalf b a = 1 ∧ d.linkGone = true) ∧ ¬ late b k
    (d.held = false) ∧ (a < (if bar = 0 then 0x4000000 else 0x40000000)) ∧ (bar = 1) ∧ (a % 8 = 0) ∧ (answers 1 8) ∧ (d.flowBytes (d.winAddr a / 0x1000000000) ≤ d.winAddr a % 0x1000000000) ∧ (0xA00000000 ≤ d.winAddr a % 0x1000000000) ∧ (d.winAddr a < 0x2000000000) ∧ (2 ≤ d.badAt (d.winAddr a))) ∧
    (let s : State := (wS wDev)
    let bar : Nat := 0
    let a : Nat := 0x7FFFF8
    let n : Nat := 16
    let f : Fld := GLB.HOST_ERR.UNMAPPED
    let o : Nat := 0x800000
    let d := s.dev
    (d.held = false) ∧ (a < (if bar = 0 then 0x4000000 else 0x40000000)) ∧ (bar < 2) ∧ (readFits bar a n = true) ∧ (d.spanErr bar a n = some (f, o)) ∧ (f ≠ GLB.HOST_ERR.BOOT_DROP)) := by
  refine ⟨?_, ?_, ?_, ?_, ?_, ?_, ?_, ?_⟩
  · dsimp only; decide +kernel
  · dsimp only; decide +kernel
  · dsimp only; decide +kernel
  · dsimp only; decide +kernel
  · dsimp only; decide +kernel
  · dsimp only; decide +kernel
  · dsimp only; decide +kernel
  · dsimp only; decide +kernel

theorem test_wit_Bar2Writes :
    (let s : State := (wS wBar2)
    let o : Nat := 0x3FFFFFF8
    let bs : List Byte := [1, 2, 3, 4, 5, 6, 7, 8]
    let d := s.dev
    let a := d.winAddr o
    (d.held = false) ∧ (o < 0x40000000) ∧ (o % 8 = 0) ∧ (bs.length = 8) ∧ (a < 0x4000000000) ∧ (d.bar2Err a = none) ∧ (d.hostProtected a = false) ∧ (d.areaWaits a 8 = false)) ∧
    (let s : State := (wS (wSet wBar2 [(QRY.BENCH_BASE.GIB 0, 0), (QRY.GCFG.EN, 1)]))
    let o : Nat := 0
    let bs : List Byte := [1, 2, 3, 4, 5, 6, 7, 8]
    let d := s.dev
    let a := d.winAddr o
    (d.held = false) ∧ (o < 0x40000000) ∧ (o % 8 = 0) ∧ (bs.length = 8) ∧ (a < 0x4000000000) ∧ (d.bar2Err a = none) ∧ (d.hostProtected a = true)) ∧
    (let s : State := (wS { wBar2 with flt := { FltSt.reset with repairs := [hbmLoc 0x100] } })
    let o : Nat := 0x100
    let bs : List Byte := [1, 2, 3, 4, 5, 6, 7, 8]
    let d := s.dev
    let a := d.winAddr o
    (d.held = false) ∧ (o < 0x40000000) ∧ (o % 8 = 0) ∧ (bs.length = 8) ∧ (a < 0x4000000000) ∧ (d.bar2Err a = none) ∧ (d.hostProtected a = false) ∧ (d.areaWaits a 8 = true)) := by
  refine ⟨?_, ?_, ?_⟩
  · dsimp only; decide +kernel
  · dsimp only; decide +kernel
  · intro s o bs d a; refine ⟨by decide +kernel, by decide, by decide, by decide, by decide +kernel, by decide +kernel, by decide +kernel, ?_⟩
    have ha : a = 0x100 := by decide +kernel
    have hr : d.flt.repairs = [hbmLoc 0x100] := rfl
    simp [Dev.areaWaits, touchesRow, ha, hr]

theorem test_wit_FencesAndLocks :
    (let s : State := (wS wDev)
    let t : Nat := 65535
    let d := s.dev
    (d.reaches GLB.HOST_FENCE.TOKEN) ∧ (t < 2 ^ 16)) ∧
    (let s : State := (wS (wSet wDev [(GLB.FENCE_DONE.PEND, 1), (GLB.HOST_FENCE.TOKEN, 9)]))
    let d := s.dev
    (d.is GLB.FENCE_DONE.PEND = true) ∧ (((d.hbmRetrying 0 = false ∧ d.hbmRetrying 1 = false ∧ d.d2dRetrying = false) ∨ d.ep.fenceAt + 60000 ≤ d.tick)) ∧ (d.get GLB.HOST_FENCE.TOKEN < 2 ^ 16)) ∧
    (let s : State := (wS wDev)
    let d := s.dev
    (d.reaches GLB.LOCK.LOCK)) ∧
    (let s : State := (wS wDev)
    let d := s.dev
    (d.reaches GLB.PATCH_LOCK.LOCK)) := by
  refine ⟨?_, ?_, ?_, ?_⟩
  · dsimp only [Dev.reaches]; decide +kernel
  · dsimp only; decide +kernel
  · dsimp only [Dev.reaches]; decide +kernel
  · dsimp only [Dev.reaches]; decide +kernel

theorem test_wit_PartArm :
    (let s : State := (wS wDev)
    let n : Nat := 104
    let d := s.dev
    let fault := d.ownFault n (1 - d.get (GLB.PART_CTL.ACTIVE n))
    (n < 105) ∧ (d.reaches (GLB.PART_CTL.ACTIVE n)) ∧ (¬ (d.is GLB.EPOCH_STAT.ADV_BUSY = true ∧ d.ep.advPart = some n)) ∧ (d.is (GLB.PART_CTL.RETIRING n) = false) ∧ (fault = none)) ∧
    (let s : State := (wS (wSet wDev [(GLB.PART_CTL.RETIRING 9, 1)]))
    let n : Nat := 9
    let d := s.dev
    (n < 105) ∧ (d.reaches (GLB.PART_CTL.ACTIVE n)) ∧ (¬ (d.is GLB.EPOCH_STAT.ADV_BUSY = true ∧ d.ep.advPart = some n)) ∧ (d.is (GLB.PART_CTL.RETIRING n) = true)) ∧
    (let s : State := (wS wKeeper)
    let n : Nat := 9
    let c : Nat := 0x24
    let x : Nat := 8
    let d := s.dev
    let fault := d.ownFault n (1 - d.get (GLB.PART_CTL.ACTIVE n))
    (n < 105) ∧ (d.reaches (GLB.PART_CTL.ACTIVE n)) ∧ (¬ (d.is GLB.EPOCH_STAT.ADV_BUSY = true ∧ d.ep.advPart = some n)) ∧ (d.is (GLB.PART_CTL.RETIRING n) = false) ∧ (fault = some (c, x))) := by
  refine ⟨?_, ?_, ?_⟩
  · dsimp only [Dev.reaches]; decide +kernel
  · dsimp only [Dev.reaches]; decide +kernel
  · dsimp only [Dev.reaches]; decide +kernel

theorem test_wit_EpochAdvance :
    (let s : State := (wS (wSet wDev [(GLB.PART_CTL.ARM 9, 1)]))
    let n : Nat := 0
    let d := s.dev
    let next := (d.get GLB.EPOCH_CUR.CUR + 1) % 8
    let may := d.is GLB.EPOCH_STAT.ADV_BUSY = false ∧ d.armed.length ≤ 1 ∧ d.epochLive next = false
    (n < 105) ∧ (d.reaches GLB.EPOCH_ADV.GO) ∧ (may)) ∧
    (let s : State := (wS (wSet wDev [(GLB.PART_CTL.ARM 9, 1), (GLB.PART_CTL.ARM 10, 1)]))
    let n : Nat := 0
    let d := s.dev
    let next := (d.get GLB.EPOCH_CUR.CUR + 1) % 8
    let may := d.is GLB.EPOCH_STAT.ADV_BUSY = false ∧ d.armed.length ≤ 1 ∧ d.epochLive next = false
    (n < 105) ∧ (d.reaches GLB.EPOCH_ADV.GO) ∧ (¬ may)) ∧
    (let s : State := (wS (wSet wDev [(GLB.EPOCH_STAT.ADV_BUSY, 1), (GLB.EPOCH_CUR.CUR, 7)]))
    let n : Nat := 0
    let d := s.dev
    let settled := ((d.hbmRetrying 0 = false ∧ d.hbmRetrying 1 = false ∧ d.d2dRetrying = false) ∨ d.ep.advAt + 60000 ≤ d.tick)
    (n < 105) ∧ (d.is GLB.EPOCH_STAT.ADV_BUSY = true) ∧ (settled) ∧ (d.ep.advPart = none)) ∧
    (let s : State := (wS (let d := wSet wDev [(GLB.EPOCH_STAT.ADV_BUSY, 1), (GLB.PART_CTL.ARM 104, 1)]; { d with ep := { d.ep with advPart := some 104 } }))
    let n : Nat := 104
    let d := s.dev
    let settled := ((d.hbmRetrying 0 = false ∧ d.hbmRetrying 1 = false ∧ d.d2dRetrying = false) ∨ d.ep.advAt + 60000 ≤ d.tick)
    (n < 105) ∧ (d.is GLB.EPOCH_STAT.ADV_BUSY = true) ∧ (settled) ∧ (d.ep.advPart = some n) ∧ ((n < 72 ∨ n = 104)) ∧ (d.ownFault n (1 - d.get (GLB.PART_CTL.ACTIVE n)) = none)) ∧
    (let s : State := (wS (wSet wDev [(GLB.PART_CTL.RETIRING 9, 1), (GLB.PART_CTL.SWITCH_EPOCH 9, 1), (GLB.EPOCH_CUR.CUR, 1)]))
    let n : Nat := 9
    let d := s.dev
    (n < 105) ∧ (d.is (GLB.PART_CTL.RETIRING n) = true) ∧ (d.age d.oldest ≤ d.age (d.get (GLB.PART_CTL.SWITCH_EPOCH n)))) ∧
    (let s : State := (wS { wEng (wSet wDev [(GLB.EPOCH_CUR.CUR, 1), (GLB.EPOCH_CFG.DRAIN_WARN, 5)]) [(65, { wPktY with st := .ready })] with tick := 50000 })
    let n : Nat := 0
    let d := s.dev
    (n < 105) ∧ (d.get GLB.EPOCH_CFG.DRAIN_WARN ≠ 0) ∧ (d.get GLB.EPOCH_CFG.DRAIN_WARN ≤ d.oldestAge) ∧ (bit d.ep.drainWarned d.oldest = false)) ∧
    (let s : State := (wS (wModes 3))
    let n : Nat := 72
    let d := s.dev
    let settled := ((d.hbmRetrying 0 = false ∧ d.hbmRetrying 1 = false ∧ d.d2dRetrying = false) ∨ d.ep.advAt + 60000 ≤ d.tick)
    (n < 105) ∧ (d.is GLB.EPOCH_STAT.ADV_BUSY = true) ∧ (settled) ∧ (d.ep.advPart = some n) ∧ (72 ≤ n) ∧ (n < 104)) := by
  refine ⟨?_, ?_, ?_, ?_, ?_, ?_, ?_⟩
  · dsimp only [Dev.reaches]; decide +kernel
  · dsimp only [Dev.reaches]; decide +kernel
  · dsimp only; decide +kernel
  · dsimp only; decide +kernel
  · dsimp only; decide +kernel
  · dsimp only; decide +kernel
  · dsimp only; decide +kernel

theorem test_wit_OctetModeWrite :
    (let s : State := (wS wDev)
    let sl : Nat := 3
    let k : Nat := 2
    let v : Nat := 0x57
    let d := s.dev
    let n := 72 + (4 * sl + k)
    let x := if d.get (GLB.PART_CTL.ACTIVE n) = 0 then bits v 7 4 else bits v 3 0
    (sl < 8) ∧ (k < 4) ∧ (d.get (GLB.PART_CTL.ACTIVE n) ≤ 1) ∧ (d.gateOpen = true) ∧ (d.reaches (MAC.OCTET_MODE.MODE_0 sl k)) ∧ (d.is (GLB.PART_CTL.RETIRING n) = false) ∧ (x ≤ 7)) ∧
    (let s : State := (wS (wSet wDev [(GLB.PART_CTL.ACTIVE 86, 1)]))
    let sl : Nat := 3
    let k : Nat := 2
    let v : Nat := 0x58
    let d := s.dev
    let n := 72 + (4 * sl + k)
    let x := if d.get (GLB.PART_CTL.ACTIVE n) = 0 then bits v 7 4 else bits v 3 0
    (sl < 8) ∧ (k < 4) ∧ (d.get (GLB.PART_CTL.ACTIVE n) ≤ 1) ∧ (d.gateOpen = true) ∧ (d.reaches (MAC.OCTET_MODE.MODE_0 sl k)) ∧ (7 < x)) ∧
    (let s : State := (wS (wSet wDev [(GLB.PART_CTL.RETIRING 86, 1)]))
    let sl : Nat := 3
    let k : Nat := 2
    let v : Nat := 0x58
    let d := s.dev
    let n := 72 + (4 * sl + k)
    let x := if d.get (GLB.PART_CTL.ACTIVE n) = 0 then bits v 7 4 else bits v 3 0
    (sl < 8) ∧ (k < 4) ∧ (d.get (GLB.PART_CTL.ACTIVE n) ≤ 1) ∧ (d.gateOpen = true) ∧ (d.reaches (MAC.OCTET_MODE.MODE_0 sl k)) ∧ (d.is (GLB.PART_CTL.RETIRING n) = true) ∧ (x ≤ 7)) := by
  refine ⟨?_, ?_, ?_⟩
  · dsimp only [Dev.reaches]; decide +kernel
  · dsimp only [Dev.reaches]; decide +kernel
  · dsimp only [Dev.reaches]; decide +kernel

theorem test_wit_LaneMapWrite :
    (let s : State := (wS (wSet wDev [(GLB.LOCK.LOCK, 1)]))
    let sl : Nat := 3
    let k : Nat := 2
    let v : Nat := 0xFAC688
    let d := s.dev
    let rx := MAC.LANE_SWAP_RX.RX_SEL sl k
    let tx := MAC.LANE_SWAP_TX.TX_SEL sl k
    let inv := MAC.LANE_POL.RX_INV sl k
    (sl < 8) ∧ (k < 4) ∧ (v < 2 ^ 24) ∧ (d.reaches rx) ∧ (d.reaches tx) ∧ (d.reaches inv) ∧ (d.is GLB.LOCK.LOCK = true)) ∧
    (let s : State := (wS wDev)
    let sl : Nat := 3
    let k : Nat := 2
    let v : Nat := 0x053977
    let d := s.dev
    let rx := MAC.LANE_SWAP_RX.RX_SEL sl k
    let tx := MAC.LANE_SWAP_TX.TX_SEL sl k
    let inv := MAC.LANE_POL.RX_INV sl k
    (sl < 8) ∧ (k < 4) ∧ (v < 2 ^ 24) ∧ (d.reaches rx) ∧ (d.reaches tx) ∧ (d.reaches inv) ∧ (d.is GLB.LOCK.LOCK = false) ∧ (d.octetMode (4 * sl + k) = 0) ∧ (isPerm v = true)) ∧
    (let s : State := (wS wDev)
    let sl : Nat := 3
    let k : Nat := 2
    let v : Nat := 0
    let d := s.dev
    let rx := MAC.LANE_SWAP_RX.RX_SEL sl k
    let tx := MAC.LANE_SWAP_TX.TX_SEL sl k
    let inv := MAC.LANE_POL.RX_INV sl k
    (sl < 8) ∧ (k < 4) ∧ (v < 2 ^ 24) ∧ (d.reaches rx) ∧ (d.reaches tx) ∧ (d.reaches inv) ∧ (d.is GLB.LOCK.LOCK = false) ∧ ((d.octetMode (4 * sl + k) ≠ 0 ∨ isPerm v = false))) ∧
    (let s : State := (wS wDev)
    let sl : Nat := 3
    let k : Nat := 2
    let v : Nat := 0x12AB
    let d := s.dev
    let rx := MAC.LANE_SWAP_RX.RX_SEL sl k
    let tx := MAC.LANE_SWAP_TX.TX_SEL sl k
    let inv := MAC.LANE_POL.RX_INV sl k
    (sl < 8) ∧ (k < 4) ∧ (v < 2 ^ 24) ∧ (d.reaches rx) ∧ (d.reaches tx) ∧ (d.reaches inv) ∧ (d.is GLB.LOCK.LOCK = false) ∧ (d.octetMode (4 * sl + k) = 0)) ∧
    (let s : State := (wS (wSet wDev [(MAC.OCTET_MODE.MODE_0 3 2, 1)]))
    let sl : Nat := 3
    let k : Nat := 2
    let v : Nat := 0x12AB
    let d := s.dev
    let rx := MAC.LANE_SWAP_RX.RX_SEL sl k
    let tx := MAC.LANE_SWAP_TX.TX_SEL sl k
    let inv := MAC.LANE_POL.RX_INV sl k
    (sl < 8) ∧ (k < 4) ∧ (v < 2 ^ 24) ∧ (d.reaches rx) ∧ (d.reaches tx) ∧ (d.reaches inv) ∧ (d.is GLB.LOCK.LOCK = false) ∧ (d.octetMode (4 * sl + k) ≠ 0)) := by
  refine ⟨?_, ?_, ?_, ?_, ?_⟩
  · dsimp only [Dev.reaches]; decide +kernel
  · dsimp only [Dev.reaches]; decide +kernel
  · dsimp only [Dev.reaches]; decide +kernel
  · dsimp only [Dev.reaches]; decide +kernel
  · dsimp only [Dev.reaches]; decide +kernel

theorem test_wit_PortConfig :
    (let s : State := (wS (wSet wDev [(MAC.OCTET_MODE.MODE_0 0 0, 1)]))
    let p : Nat := 0
    let d := s.dev
    (p < 265) ∧ (d.reaches (MAC.PORT_CFG.MAX_FRAME p)) ∧ (d.is (MAC.PORT_CFG.RX_EN p) = false)) ∧
    (let s : State := (wS (wSet wDev [(GLB.MGT_CFG.MODE, 1), (MAC.PORT_CFG.RX_EN 256, 1)]))
    let p : Nat := 0
    let v : Nat := 6
    let d := s.dev
    (p < 265) ∧ (d.reaches GLB.MGT_CFG.MODE) ∧ (v % 4 ≠ 3) ∧ (v % 4 ≠ d.get GLB.MGT_CFG.MODE) ∧ (d.is (MAC.PORT_STAT.LINK 256) = false)) ∧
    (let s : State := (wS (wSet wDev [(GLB.MGT_CFG.MODE, 1)]))
    let p : Nat := 0
    let v : Nat := 7
    let d := s.dev
    (p < 265) ∧ (d.reaches GLB.MGT_CFG.MODE) ∧ ((v % 4 = 3 ∨ v % 4 = d.get GLB.MGT_CFG.MODE))) ∧
    (let s : State := (wS (wSet wDev [(GLB.MGT_CFG.MODE, 1), (MAC.PORT_CFG.RX_EN 256, 1), (MAC.PORT_STAT.LINK 256, 1), (GLB.MGT_CFG.LINK, 1), (SWC.PORT_CFG.DOWN_HOLD 256, 5)]))
    let p : Nat := 0
    let v : Nat := 6
    let d := s.dev
    (p < 265) ∧ (d.reaches GLB.MGT_CFG.MODE) ∧ (v % 4 ≠ 3) ∧ (v % 4 ≠ d.get GLB.MGT_CFG.MODE) ∧ (d.is (MAC.PORT_STAT.LINK 256) = true)) := by
  refine ⟨?_, ?_, ?_, ?_⟩
  · dsimp only [Dev.reaches]; decide +kernel
  · dsimp only [Dev.reaches]; decide +kernel
  · dsimp only [Dev.reaches]; decide +kernel
  · dsimp only [Dev.reaches]; decide +kernel

theorem test_wit_LinkBringUp :
    (let s : State := (wBring 2 [])
    let o : Nat := 0
    let p : Nat := 0
    let d := s.dev
    (p < 256) ∧ (o < 32) ∧ (p / 8 = o) ∧ (d.bringAt p = 2)) ∧
    (let s : State := (wS { wDev with mac.bring := [(256, 2)] })
    let p : Nat := 0
    let d := s.dev
    (p < 256) ∧ (d.bringAt 256 = 2)) ∧
    (let s : State := (wBring 3 [(MAC.PORT_CFG.LT_EN 0, 1)])
    let p : Nat := 0
    let d := s.dev
    (p < 256) ∧ (d.bringAt p = 3)) ∧
    (let s : State := (wBring 4 [(MAC.PORT_CFG.LT_EN 0, 1)])
    let p : Nat := 0
    let d := s.dev
    (p < 256) ∧ (d.bringAt p = 4)) ∧
    (let s : State := (wBring 5 [])
    let p : Nat := 0
    let d := s.dev
    (p < 256) ∧ (d.bringAt p = 5)) ∧
    (let s : State := (wBring 6 [])
    let p : Nat := 0
    let d := s.dev
    (p < 256) ∧ (d.bringAt p = 6)) ∧
    (let s : State := (wBring 7 [])
    let p : Nat := 0
    let d := s.dev
    (p < 256) ∧ (d.bringAt p = 7)) := by
  refine ⟨?_, ?_, ?_, ?_, ?_, ?_, ?_⟩
  · dsimp only; decide +kernel
  · dsimp only; decide +kernel
  · dsimp only; decide +kernel
  · dsimp only; decide +kernel
  · dsimp only; decide +kernel
  · dsimp only; decide +kernel
  · dsimp only; decide +kernel

theorem test_wit_LinkLoss :
    (let s : State := (wBring 8 [(MAC.PORT_STAT.LINK 0, 1), (MAC.PORT_STAT.PCS_LOCK 0, 1), (MAC.PORT_CFG.RX_EN 0, 1), (MAC.OCTET_MODE.MODE_0 0 0, 1), (SWC.PORT_CFG.DOWN_HOLD 0, 5)])
    let p : Nat := 0
    let d := s.dev
    (p < 256) ∧ (d.is (MAC.PORT_STAT.LINK p) = true) ∧ (d.get (SWC.PORT_CFG.DOWN_HOLD p) ≠ 0) ∧ (sget d.mac.tx p none = none) ∧ (d.bringAt p = 7 ∨ d.bringAt p = 8)) ∧
    (let s : State := (wBring 7 [(MAC.PORT_STAT.LINK 0, 1), (MAC.PORT_STAT.PCS_LOCK 0, 1), (MAC.OCTET_MODE.MODE_0 0 0, 1), (SWC.PORT_CFG.DOWN_HOLD 0, 5)])
    let l : Nat := 7
    let p : Nat := 0
    let ns : Nat := 1001
    let d := s.dev
    (p < 256) ∧ (d.is (MAC.PORT_STAT.LINK p) = true) ∧ (d.get (SWC.PORT_CFG.DOWN_HOLD p) ≠ 0) ∧ (sget d.mac.tx p none = none) ∧ (l < 256) ∧ (d.lanePort l = p) ∧ (l ∈ d.lanesOf p) ∧ (1000 < ns) ∧ (3 < d.bringAt p)) := by
  refine ⟨?_, ?_⟩
  · dsimp only; decide +kernel
  · dsimp only; decide +kernel

theorem test_wit_Adaptation :
    (let s : State := (wS { wMac with tick := 100000000, mac.coef := [(5, [1, -2, 3])] })
    let l : Nat := 5
    let d := s.dev
    let sl := l / 32
    let k := l / 8 % 4
    (l < 256) ∧ (d.linkUp (d.lanePort l) = true) ∧ (d.portExists (d.lanePort l) = true) ∧ (sget d.mac.adaptAt l 0 + d.get (MAC.ADAPT_CFG.INTERVAL sl k) * 1000 ≤ d.tick)) := by
  · dsimp only; decide +kernel

theorem test_wit_FrameReception :
    (let s : State := (wS wMac)
    let p : Nat := 0
    let bs : List Byte := (wFrame (wBody [1]))
    let d := s.dev
    let body := bs.take (bs.length - 4)
    (p < 256) ∧ (d.canRx p = true) ∧ (goodFrame d p bs) ∧ (pauseKind body = 0) ∧ (d.gateOpen = true)) ∧
    (let s : State := (wS wMac)
    let p : Nat := 0
    let bs : List Byte := (wFrame (wBody [1]) |>.set 0 9)
    let d := s.dev
    let body := bs.take (bs.length - 4)
    (p < 256) ∧ (d.canRx p = true) ∧ (64 ≤ bs.length) ∧ (bs.length ≤ d.get (MAC.PORT_CFG.MAX_FRAME p)) ∧ (leNat (bs.drop (bs.length - 4)) ≠ fcsOf body) ∧ (d.gateOpen = true)) ∧
    (let s : State := (wS wMac)
    let p : Nat := 0
    let bs : List Byte := (wFrame (List.replicate 59 7))
    let d := s.dev
    (p < 256) ∧ (d.canRx p = true) ∧ (bs.length < 64) ∧ (bs.length ≤ d.get (MAC.PORT_CFG.MAX_FRAME p))) ∧
    (let s : State := (wS (wSet wMac [(MAC.PORT_CFG.PAUSE_MODE 0, 1), (GLB.BOOT_STAT.STATE, 5)]))
    let p : Nat := 0
    let bs : List Byte := (wFrame (wBody (List.replicate 12 0 ++ [0x88, 0x08, 0, 1, 0, 9])))
    let d := s.dev
    let body := bs.take (bs.length - 4)
    (p < 256) ∧ (d.canRx p = true) ∧ (goodFrame d p bs) ∧ (pauseKind body ≠ 0) ∧ (d.gateOpen = false)) ∧
    (let s : State := (wS (wSet wMac [(MAC.PORT_CFG.PAUSE_MODE 0, 1)]))
    let p : Nat := 0
    let bs : List Byte := (wFrame (wBody (List.replicate 12 0 ++ [0x88, 0x08, 0, 1, 0, 9])))
    let d := s.dev
    let body := bs.take (bs.length - 4)
    (p < 256) ∧ (d.canRx p = true) ∧ (goodFrame d p bs) ∧ (pauseKind body = 1) ∧ (d.gateOpen = true) ∧ (d.get (MAC.PORT_CFG.PAUSE_MODE p) = 1)) := by
  refine ⟨?_, ?_, ?_, ?_, ?_⟩
  · dsimp only [goodFrame]; decide +kernel
  · dsimp only; decide +kernel
  · dsimp only; decide +kernel
  · dsimp only [goodFrame]; decide +kernel
  · dsimp only [goodFrame]; decide +kernel

theorem test_wit_ManagementFrames :
    (let s : State := (wS wMac)
    let bs : List Byte := (wFrame (wShim 0x12 4 []))
    let d := s.dev
    let b := bs.take (bs.length - 4)
    (d.canRx 256 = true) ∧ (isShim bs = true) ∧ (shimType bs ≠ 3) ∧ (goodFrame d 256 bs) ∧ (injectOk b = false)) ∧
    (let s : State := (wS wMac)
    let bs : List Byte := (wFrame (wShim 0x12 0x32 [0, 9, 1, 2, 3, 4]))
    let d := s.dev
    let b := bs.take (bs.length - 4)
    (d.canRx 256 = true) ∧ (isShim bs = true) ∧ (shimType bs ≠ 3) ∧ (goodFrame d 256 bs) ∧ (injectOk b = true) ∧ (d.gateOpen = true) ∧ (bit (byteAt b 15) 0 = false)) ∧
    (let s : State := (wS wMac)
    let bs : List Byte := (wFrame (wBody [1]))
    let d := s.dev
    let b := bs.take (bs.length - 4)
    (d.canRx 256 = true) ∧ (isShim bs = false) ∧ (pauseKind b = 0)) ∧
    (let s : State := (wS wMac)
    let bs : List Byte := (wFrame (wShim 0x13 0 []))
    let d := s.dev
    let b := bs.take (bs.length - 4)
    (d.canRx 256 = true) ∧ (isShim bs = true) ∧ (shimType bs = 3) ∧ (goodFrame d 256 bs) ∧ (d.is GLB.MGT_CFG.WAKE_EN = true) ∧ (shimOk b = true) ∧ (beAt b 0 6 = d.mac48 GLB.MGT_DEV_MAC_LO.MAC GLB.MGT_DEV_MAC_HI.MAC) ∧ (beAt b 18 4 = d.get GLB.MGT_WAKE_KEY.KEY)) ∧
    (let s : State := (wS wMac)
    let bs : List Byte := (wFrame (wShim 0x23 0 []))
    let d := s.dev
    let b := bs.take (bs.length - 4)
    (d.canRx 256 = true) ∧ (isShim bs = true) ∧ (shimType bs = 3) ∧ (goodFrame d 256 bs) ∧ (shimOk b = false)) ∧
    (let s : State := (wS { wMac with mac.recirc := [(0, [{ body := wBody [1], ing := 3, epoch := some 2, stamp := 99 }, {}])] })
    let sl : Nat := 0
    let k : Pkt := { body := wBody [1], ing := 3, epoch := some 2, stamp := 99 }
    let ks : List Pkt := [{}]
    let d := s.dev
    (sl < 8) ∧ (d.sliceOn sl = true) ∧ (d.granted 2 sl 10 = false) ∧ (d.is (MAC.PORT_CFG.RX_EN (257 + sl)) = true) ∧ (sget d.mac.recirc sl [] = k :: ks)) := by
  refine ⟨?_, ?_, ?_, ?_, ?_, ?_⟩
  · dsimp only [goodFrame]; decide +kernel
  · dsimp only [goodFrame]; decide +kernel
  · dsimp only; decide +kernel
  · dsimp only [goodFrame]; decide +kernel
  · dsimp only [goodFrame]; decide +kernel
  · dsimp only; decide +kernel

theorem test_wit_FrameTransmission :
    (let s : State := (wS { wMac with mac.tx := [(0, some { pkt := { body := wBody [1], rx := wBody [2], fcs := 77 } })] })
    let p : Nat := 0
    let q : QEnt := { pkt := { body := wBody [1], rx := wBody [2], fcs := 77 } }
    let d := s.dev
    (p ≤ 256) ∧ (d.gateOpen = true) ∧ (d.linkUp p = true) ∧ (d.is (MAC.PORT_CFG.TX_EN p) = true) ∧ (sget d.mac.tx p none = some q) ∧ (q.pkt.ct = false) ∧ (d.ptpFind (d.setOf 104 q.pkt.epoch) p q.pkt.routed = none)) ∧
    (let s : State := (wS { wMac with swc.pauseReq := [(0, 3, true), (0, 4, false)] })
    let p : Nat := 0
    let k : Nat := 3
    let on : Bool := true
    let rest : List (Nat × Nat × Bool) := [(0, 4, false)]
    let d := s.dev
    (p ≤ 256) ∧ (d.gateOpen = true) ∧ (d.linkUp p = true) ∧ (d.is (MAC.PORT_CFG.TX_EN p) = true) ∧ (sget d.mac.tx p none = none) ∧ (d.swc.pauseReq = (p, k, on) :: rest) ∧ (d.pauseFits p = true)) ∧
    (let s : State := (wS { wMac with swc.pauseReq := [(0, 3, true)], tmu.buoys := [(0, [wSoon])] })
    let p : Nat := 0
    let d := s.dev
    (p ≤ 256) ∧ (d.gateOpen = true) ∧ (d.linkUp p = true) ∧ (d.is (MAC.PORT_CFG.TX_EN p) = true) ∧ (sget d.mac.tx p none = none) ∧ (d.pauseFits p = false)) := by
  refine ⟨?_, ?_, ?_⟩
  · dsimp only; decide +kernel
  · dsimp only; decide +kernel
  · dsimp only; decide +kernel

theorem test_wit_Preselector :
    (let d : Dev := (wSet wDev [(PRS.PRESEL_RESULT.VALID 1 1 5, 1), (PRS.PRESEL_KEY.W 1 1 5, 9), (PRS.PRESEL_MASK.W 1 1 5, 0xF), (PRS.PRESEL_RESULT.VALID 1 1 3, 1), (PRS.PRESEL_KEY.W 1 1 3, 8), (PRS.PRESEL_MASK.W 1 1 3, 0xF)])
    (d.bad = [])) := by
  · dsimp only; decide +kernel

theorem test_wit_ParseFrame :
    (let s : State := (wS (wPipe [(PRS.PROF_CTL.PROFILE_OFF 0, 1), (GLB.EPOCH_CUR.CUR, 5)] [wK .parse]))
    let p : Nat := 3
    let k : Pkt := (wK .parse)
    let d := s.dev
    let sl := k.slice
    let room := (d.pipe.filter (fun y => y.slice == sl && y.stage == .graph)).length < 256
    (d.frameAt p 0 = some k) ∧ (k.stage = .parse) ∧ (d.blockOn sl 9 = true) ∧ (d.bad = []) ∧ (d.is (PRS.PROF_CTL.PROFILE_OFF sl) = true) ∧ (room)) ∧
    (let s : State := (wS (wPipe [(PRS.PROF_CTL.PROFILE_OFF 0, 1)] (wK .parse :: (List.range 256).map (fun i => { wK .graph with id := 10 + i }))))
    let p : Nat := 3
    let k : Pkt := (wK .parse)
    let d := s.dev
    let sl := k.slice
    let room := (d.pipe.filter (fun y => y.slice == sl && y.stage == .graph)).length < 256
    (d.frameAt p 0 = some k) ∧ (k.stage = .parse) ∧ (d.blockOn sl 9 = true) ∧ (d.bad = []) ∧ (d.is (PRS.PROF_CTL.PROFILE_OFF sl) = true) ∧ (¬ room)) ∧
    (let s : State := (wS (wPipe [(PRS.PROF_CTL.PROFILE_OFF 0, 0)] [wK .parse]))
    let p : Nat := 3
    let k : Pkt := (wK .parse)
    let d := s.dev
    let sl := k.slice
    let ep := k.epoch.getD (d.get GLB.EPOCH_CUR.CUR)
    let x := d.setOf sl (some ep)
    let room := (d.pipe.filter (fun y => y.slice == sl && y.stage == .graph)).length < 256
    (d.frameAt p 0 = some k) ∧ (k.stage = .parse) ∧ (d.blockOn sl 9 = true) ∧ (d.bad = []) ∧ (d.is (PRS.PROF_CTL.PROFILE_OFF sl) = false) ∧ ((∀ i, i < 64 → d.is (PRS.PRESEL_RESULT.VALID sl x i) = false)) ∧ (room)) ∧
    (let s : State := (wS (wPipe [(PRS.PROF_CTL.PROFILE_OFF 0, 0), (PRS.PRESEL_RESULT.GRAPH 0 0 0, 0), (PRS.PRESEL_MASK.W 0 0 0, 0), (PRS.PRESEL_RESULT.VALID 0 0 0, 1), (PRS.PRESEL_RESULT.PROFILE 0 0 0, 5), (PRS.PROFILE_HDR.KEYTYPE 0 5, 3), (PRS.PROFILE_CMD.LO 0 5 0, 0xC0000000)] [wK .parse]))
    let p : Nat := 3
    let k : Pkt := (wK .parse)
    let key : List Byte := (((wSet wDev [(PRS.PROFILE_HDR.KEYTYPE 0 5, 3), (PRS.PROFILE_CMD.LO 0 5 0, 0xC0000000)]).runProfile 0 5 { wK .parse with epoch := some 0 }).1.getD [])
    let d := s.dev
    let sl := k.slice
    let ep := k.epoch.getD (d.get GLB.EPOCH_CUR.CUR)
    let x := d.setOf sl (some ep)
    (d.frameAt p 0 = some k) ∧ (k.stage = .parse) ∧ (d.blockOn sl 9 = true) ∧ (d.bad = []) ∧ (d.is (PRS.PROF_CTL.PROFILE_OFF sl) = false) ∧ (d.is (PRS.PRESEL_RESULT.VALID sl x 0) = true) ∧ (d.get (PRS.PRESEL_MASK.W sl x 0) = 0) ∧ (d.is (PRS.PRESEL_RESULT.GRAPH sl x 0) = false) ∧ ((d.runProfile sl (d.get (PRS.PRESEL_RESULT.PROFILE sl x 0)) { k with epoch := some ep }).1 = some key)) := by
  refine ⟨?_, ?_, ?_, ?_⟩
  · dsimp only; decide +kernel
  · dsimp only; decide +kernel
  · dsimp only; decide +kernel
  · dsimp only; decide +kernel

theorem test_wit_GraphWalk :
    (let s : State := (wS (wPipe [(PRS.GRAPH_CFG.NOCLAIM_ACT 0 0, 2), (PRS.GRAPH_CFG.NODE_LIMIT 0 0, 5)] [wK .graph]))
    let sl : Nat := 0
    let j : Nat := 0
    let k : Pkt := (wK .graph)
    let d := s.dev
    let x := d.setOf sl k.epoch
    let n := k.startNode
    (sl < 8) ∧ (d.graphFrame sl j = some k) ∧ (d.blockOn sl 10 = true) ∧ (d.bad = []) ∧ (1 ≤ d.get (PRS.GRAPH_CFG.NODE_LIMIT sl x)) ∧ (d.is (PRS.NODE_W0.VALID sl x n) = false) ∧ (d.get (PRS.GRAPH_CFG.NOCLAIM_ACT sl x) = 2)) ∧
    (let s : State := (wS (wPipe [(PRS.GRAPH_CFG.NODE_LIMIT 0 0, 5)] [wK .graph]))
    let sl : Nat := 0
    let j : Nat := 0
    let k : Pkt := (wK .graph)
    let d := s.dev
    let x := d.setOf sl k.epoch
    let n := k.startNode
    (sl < 8) ∧ (d.graphFrame sl j = some k) ∧ (d.blockOn sl 10 = true) ∧ (d.bad = []) ∧ (1 ≤ d.get (PRS.GRAPH_CFG.NODE_LIMIT sl x)) ∧ (d.is (PRS.NODE_W0.VALID sl x n) = false) ∧ (d.get (PRS.GRAPH_CFG.NOCLAIM_ACT sl x) = 0)) ∧
    (let s : State := (wS (wPipe [(PRS.GRAPH_CFG.NODE_LIMIT 0 0, 5), (PRS.NODE_W0.VALID 0 0 9, 1), (PRS.NODE_W0.ADV_MODE 0 0 9, 2)] [wK .keyed, { wK .graph with startNode := 9 }]))
    let sl : Nat := 0
    let j : Nat := 0
    let k : Pkt := { wK .graph with startNode := 9 }
    let d := s.dev
    let x := d.setOf sl k.epoch
    let n := k.startNode
    (sl < 8) ∧ (d.graphFrame sl j = some k) ∧ (d.blockOn sl 10 = true) ∧ (d.bad = []) ∧ (1 ≤ d.get (PRS.GRAPH_CFG.NODE_LIMIT sl x)) ∧ (d.is (PRS.NODE_W0.VALID sl x n) = true) ∧ (d.get (PRS.NODE_W0.ADV_MODE sl x n) = 2) ∧ (d.get (PRS.NODE_W0.ADV_PART sl x n) ≠ 3) ∧ (d.get (PRS.NODE_W1.EXT_CNT sl x n) = 0)) := by
  refine ⟨?_, ?_, ?_⟩
  · dsimp only; decide +kernel
  · dsimp only; decide +kernel
  · dsimp only; decide +kernel

theorem test_wit_ProfileWrite :
    (let s : State := (wS (wSet wDev [(PRS.PROF_CTL.PROFILE_OFF 0, 0), (PRS.PRESEL_RESULT.GRAPH 0 0 7, 0), (PRS.PRESEL_RESULT.VALID 0 0 7, 1), (PRS.PRESEL_RESULT.PROFILE 0 0 7, 5)]))
    let sl : Nat := 0
    let p : Nat := 5
    let w : Nat := 3
    let d := s.dev
    let act := d.get (GLB.PART_CTL.ACTIVE sl)
    let names := fun x => ∃ i, i < 64 ∧ d.is (PRS.PRESEL_RESULT.VALID sl x i) = true ∧ d.is (PRS.PRESEL_RESULT.GRAPH sl x i) = false ∧ d.get (PRS.PRESEL_RESULT.PROFILE sl x i) = p
    let inUse := names act ∨ ((d.is (GLB.PART_CTL.RETIRING sl) = true ∨ d.is (GLB.PART_CTL.ARM sl) = true) ∧ names (1 - act))
    let off := d.is (PRS.PROF_CTL.PROFILE_OFF sl) = true
    (sl < 8) ∧ (p < 64) ∧ (w < 16) ∧ (d.reaches (PRS.PROFILE_HDR.L3_OFF sl p)) ∧ (d.reaches (PRS.PROFILE_CMD.LO sl p (w - 1))) ∧ (¬ off) ∧ (inUse)) ∧
    (let s : State := (wS (wSet wDev [(PRS.PROF_CTL.PROFILE_OFF 0, 0), (PRS.PRESEL_RESULT.VALID 0 0 7, 1), (PRS.PRESEL_RESULT.PROFILE 0 0 7, 5)]))
    let sl : Nat := 0
    let p : Nat := 6
    let w : Nat := 15
    let d := s.dev
    let act := d.get (GLB.PART_CTL.ACTIVE sl)
    let names := fun x => ∃ i, i < 64 ∧ d.is (PRS.PRESEL_RESULT.VALID sl x i) = true ∧ d.is (PRS.PRESEL_RESULT.GRAPH sl x i) = false ∧ d.get (PRS.PRESEL_RESULT.PROFILE sl x i) = p
    let inUse := names act ∨ ((d.is (GLB.PART_CTL.RETIRING sl) = true ∨ d.is (GLB.PART_CTL.ARM sl) = true) ∧ names (1 - act))
    let off := d.is (PRS.PROF_CTL.PROFILE_OFF sl) = true
    (sl < 8) ∧ (p < 64) ∧ (w < 16) ∧ (d.reaches (PRS.PROFILE_HDR.L3_OFF sl p)) ∧ (d.reaches (PRS.PROFILE_CMD.LO sl p (w - 1))) ∧ ((off ∨ ¬ inUse)) ∧ (1 ≤ w)) ∧
    (let s : State := (wS (wSet wDev [(PRS.PROF_CTL.PROFILE_OFF 0, 0)]))
    let sl : Nat := 0
    let p : Nat := 6
    let w : Nat := 0
    let d := s.dev
    let act := d.get (GLB.PART_CTL.ACTIVE sl)
    let names := fun x => ∃ i, i < 64 ∧ d.is (PRS.PRESEL_RESULT.VALID sl x i) = true ∧ d.is (PRS.PRESEL_RESULT.GRAPH sl x i) = false ∧ d.get (PRS.PRESEL_RESULT.PROFILE sl x i) = p
    let inUse := names act ∨ ((d.is (GLB.PART_CTL.RETIRING sl) = true ∨ d.is (GLB.PART_CTL.ARM sl) = true) ∧ names (1 - act))
    let off := d.is (PRS.PROF_CTL.PROFILE_OFF sl) = true
    (sl < 8) ∧ (p < 64) ∧ (w < 16) ∧ (d.reaches (PRS.PROFILE_HDR.L3_OFF sl p)) ∧ (d.reaches (PRS.PROFILE_CMD.LO sl p (w - 1))) ∧ ((off ∨ ¬ inUse)) ∧ (w = 0)) := by
  refine ⟨?_, ?_, ?_⟩
  · dsimp only [Dev.reaches]; decide +kernel
  · dsimp only [Dev.reaches]; decide +kernel
  · dsimp only [Dev.reaches]; decide +kernel

theorem test_wit_SearchWinner :
    (let d : Dev := (wEnt wDev [(7, 10, 0x505), (3, 10, 0x505), (9, 10, 0x405)])
    let sl : Nat := 0
    let wide : Bool := false
    let i : Nat := 8
    let f := d.arrW sl
    (sl < 8) ∧ ((i % 2 = 0 ∨ (wide = false ∧ ecWIDE (f (i - 1) 10) = false)))) ∧
    (let d : Dev := (wEnt wDev [(6, 10, 0x507), (7, 5, 3), (6, 0, 0), (8, 10, 0x407), (6, 5, 0), (4, 10, 0x607), (5, 9, 2 ^ 63), (5, 4, 2 ^ 63)])
    let sl : Nat := 0
    let wide : Bool := true
    let i : Nat := 7
    let f := d.arrW sl
    (sl < 8) ∧ (i % 2 = 1) ∧ ((wide = true ∨ ecWIDE (f (i - 1) 10) = true))) ∧
    (let sl : Nat := 0
    (sl < 8)) ∧
    (let d : Dev := (wEnt wDev [(7, 10, 0x505), (3, 10, 0x505), (9, 10, 0x405)])
    let sl : Nat := 0
    let x : Nat := 0
    let kp : Nat := 0
    let wide : Bool := false
    let key : Nat := 77
    let i : Nat := 3
    let r := d.searchOnce sl x kp wide key []
    (sl < 8) ∧ (r.win = some i)) ∧
    (let d : Dev := wDev
    let sl : Nat := 0
    let x : Nat := 0
    let kp : Nat := 0
    let wide : Bool := true
    let key : Nat := 77
    let r := d.searchOnce sl x kp wide key []
    (sl < 8) ∧ (r.win = none)) ∧
    (let sl : Nat := 0
    let kp : Nat := 0
    let first : Nat := 5
    let cnt : Nat := 6
    (sl < 8) ∧ (kp < 16) ∧ (first < 2 ^ 12) ∧ (cnt < 2 ^ 8)) := by
  refine ⟨?_, ?_, ?_, ?_, ?_, ?_⟩
  · dsimp only; decide +kernel
  · dsimp only; decide +kernel
  · dsimp only; decide +kernel
  · intro d sl x kp wide key i r; refine ⟨by decide, ?_⟩
    have h : (wEnt wDev [(7, 10, 1285), (3, 10, 1285), (9, 10, 1029)]).arrLive 0 = [3, 7, 9] := by
      unfold Dev.arrLive; exact (List.mergeSort_of_pairwise (l := [3, 7, 9]) (by decide))
    simp only [r, d, sl, x, kp, wide, key, i, Dev.searchOnce, h]; decide +kernel
  · dsimp only; decide +kernel
  · dsimp only; decide +kernel

theorem test_wit_Classify :
    (let s : State := (wS wCl0)
    let p : Nat := 3
    let k : Pkt := (wK .keyed)
    let xs : List Nat := (wTk wCl0)
    let d := s.dev
    let sl := k.slice
    let x := d.setOf sl k.epoch
    let kp := d.kprofOf x k
    let dflt := d.get (CLS.DEFAULT.W sl x)
    let on := d.is (CLS.CTL.EN sl) = true ∧ d.is (CLS.KPROF_HDR.VALID sl x kp) = true
    let cells := fun (e : Dev) => (e.takeCells sl k.cells []).1
    (d.frameAt p 3 = some k) ∧ (d.blockOn sl 11 = true) ∧ ((k.stage = .scanned ∨ (k.stage = .keyed ∧ d.needScan k = false))) ∧ (¬ on) ∧ (actDISP dflt = 0) ∧ (cells d = some xs)) ∧
    (let s : State := (wS (wPipe [(CLS.DEFAULT.W 0 0, 0x205), (BPM.POOL_CFG.EN 0 0, 0)] [wK .keyed]))
    let p : Nat := 3
    let k : Pkt := (wK .keyed)
    let d := s.dev
    let sl := k.slice
    let x := d.setOf sl k.epoch
    let kp := d.kprofOf x k
    let dflt := d.get (CLS.DEFAULT.W sl x)
    let on := d.is (CLS.CTL.EN sl) = true ∧ d.is (CLS.KPROF_HDR.VALID sl x kp) = true
    let cells := fun (e : Dev) => (e.takeCells sl k.cells []).1
    (d.frameAt p 3 = some k) ∧ (d.blockOn sl 11 = true) ∧ ((k.stage = .scanned ∨ (k.stage = .keyed ∧ d.needScan k = false))) ∧ (¬ on) ∧ (actDISP dflt = 0) ∧ (cells d = none)) ∧
    (let s : State := (wS (wPipe [(CLS.DEFAULT.W 0 0, 0x10000)] [wK .scanned]))
    let p : Nat := 3
    let k : Pkt := (wK .scanned)
    let d := s.dev
    let sl := k.slice
    let x := d.setOf sl k.epoch
    let kp := d.kprofOf x k
    let dflt := d.get (CLS.DEFAULT.W sl x)
    let on := d.is (CLS.CTL.EN sl) = true ∧ d.is (CLS.KPROF_HDR.VALID sl x kp) = true
    (d.frameAt p 3 = some k) ∧ (d.blockOn sl 11 = true) ∧ ((k.stage = .scanned ∨ (k.stage = .keyed ∧ d.needScan k = false))) ∧ (¬ on) ∧ (actDISP dflt = 1)) ∧
    (let s : State := (wS wClN)
    let p : Nat := 3
    let k : Pkt := (wK .keyed)
    let xs : List Nat := (wTk ((wFd wClN).2.cntCls 0 2))
    let d := s.dev
    let sl := k.slice
    let x := d.setOf sl k.epoch
    let kp := d.kprofOf x k
    let dflt := d.get (CLS.DEFAULT.W sl x)
    let on := d.is (CLS.CTL.EN sl) = true ∧ d.is (CLS.KPROF_HDR.VALID sl x kp) = true
    let r := (d.cntCls sl 0).searchVerified sl x kp (d.is (CLS.KPROF_HDR.WIDE sl x kp)) ((d.cntCls sl 0).searchKey x kp k) true 3 [] false
    let cells := fun (e : Dev) => (e.takeCells sl k.cells []).1
    (d.frameAt p 3 = some k) ∧ (d.blockOn sl 11 = true) ∧ ((k.stage = .scanned ∨ (k.stage = .keyed ∧ d.needScan k = false))) ∧ (on) ∧ (d.arrLive sl = []) ∧ (actDISP dflt = 0) ∧ (cells (r.2.cntCls sl 2) = some xs)) ∧
    (let s : State := (wS wCl3)
    let p : Nat := 3
    let k : Pkt := (wK .keyed)
    let xs : List Nat := (wTk (((wCl3.cntCls 0 0).cntCls 0 1).hit 0 7))
    let i : Nat := 7
    let d := s.dev
    let sl := k.slice
    let x := d.setOf sl k.epoch
    let kp := d.kprofOf x k
    let dflt := d.get (CLS.DEFAULT.W sl x)
    let on := d.is (CLS.CTL.EN sl) = true ∧ d.is (CLS.KPROF_HDR.VALID sl x kp) = true
    let r := (d.cntCls sl 0).searchVerified sl x kp (d.is (CLS.KPROF_HDR.WIDE sl x kp)) ((d.cntCls sl 0).searchKey x kp k) true 3 [] false
    let cells := fun (e : Dev) => (e.takeCells sl k.cells []).1
    let won := fun (i : Nat) => let c := (r.2.cntCls sl 1).hit sl i; if r.1.tie then c.cntCls sl 3 else c
    (d.frameAt p 3 = some k) ∧ (d.blockOn sl 11 = true) ∧ ((k.stage = .scanned ∨ (k.stage = .keyed ∧ d.needScan k = false))) ∧ (on) ∧ (r.1.win = some i) ∧ (r.2.pipe = d.pipe) ∧ (actDISP (mergeAction (r.2.entW sl i 11) dflt) = 0) ∧ (cells (won i) = some xs)) := by
  refine ⟨?_, ?_, ?_, ?_, ?_⟩
  · exact ⟨by decide +kernel, by decide +kernel, by decide +kernel, by decide +kernel, by decide +kernel, wTaken (e := wCl0) (by decide +kernel)⟩
  · dsimp only; decide +kernel
  · dsimp only; decide +kernel
  · exact ⟨by decide +kernel, by decide +kernel, by decide +kernel, by decide +kernel, by decide +kernel, by decide +kernel, wTaken (e := (wFd wClN).2.cntCls 0 2) (by decide +kernel)⟩
  · intro s p k xs i d sl x kp dflt on r cells won
    have h : r = ({ win := some 7, count := 2 }, wCl3.cntCls 0 0) := wCl3_found
    have hw : won 7 = ((wCl3.cntCls 0 0).cntCls 0 1).hit 0 7 := by simp only [won, h]; rfl
    refine ⟨by decide +kernel, by decide +kernel, by decide +kernel, ⟨by decide +kernel, by decide +kernel⟩, by rw [h], by rw [h]; rfl, by rw [h]; decide +kernel, ?_⟩
    show cells (won 7) = _; rw [hw]; exact wTaken (e := ((wCl3.cntCls 0 0).cntCls 0 1).hit 0 7) (by decide +kernel)

theorem test_wit_ScanScrubProbe :
    (let s : State := (wS (wPipe (wCls ++ [(CLS.KPROF_HDR.SCAN 0 0 0, 1), (CLS.KPROF_HDR.SCAN_LEN 0 0 0, 30)]) [{ wK .keyed with key := List.replicate 128 20 }]))
    let p : Nat := 3
    let key : Nat := 0
    let k : Pkt := { wK .keyed with key := List.replicate 128 20 }
    let d := s.dev
    (d.frameAt p 2 = some k) ∧ (k.stage = .keyed) ∧ (d.blockOn k.slice 11 = true) ∧ (d.needScan k = true) ∧ (d.bad = [])) ∧
    (let s : State := (wS { wEnt (wSet wDev [(CLS.CTL.SCRUB_EN 0, 1)]) [(7, 3, 5)] with mxor := [(entA 0 7 3, 8), (entA 0 8 2, 1)] })
    let sl : Nat := 0
    let i : Nat := 7
    let k : Pkt := {}
    let d := s.dev
    let x := d.setOf k.slice k.epoch
    let kp := d.kprofOf x k
    let w := sliceB k.body (byteAt k.key 11 + d.get (CLS.KPROF_HDR.SCAN_START k.slice x kp)) (min 256 (d.get (CLS.KPROF_HDR.SCAN_LEN k.slice x kp)))
    (sl < 8) ∧ (d.sliceOn sl = true) ∧ (d.is (CLS.CTL.SCRUB_EN sl) = true) ∧ (i < 49152) ∧ (d.shadowBad sl i false = false) ∧ ((∃ w, w < 11 ∧ sget d.mxor (entA sl i w) 0 ≠ 0))) ∧
    (let s : State := (wS { wEnt (wSet wDev [(CLS.CTL.SCRUB_EN 0, 1)]) [(7, 3, 5)] with mxor := [(entA 0 8 2, 1)] })
    let sl : Nat := 0
    let i : Nat := 7
    let k : Pkt := {}
    let d := s.dev
    let x := d.setOf k.slice k.epoch
    let kp := d.kprofOf x k
    let w := sliceB k.body (byteAt k.key 11 + d.get (CLS.KPROF_HDR.SCAN_START k.slice x kp)) (min 256 (d.get (CLS.KPROF_HDR.SCAN_LEN k.slice x kp)))
    (sl < 8) ∧ (d.sliceOn sl = true) ∧ (d.is (CLS.CTL.SCRUB_EN sl) = true) ∧ (i < 49152) ∧ (d.shadowBad sl i false = false) ∧ ((∀ w, w < 11 → sget d.mxor (entA sl i w) 0 = 0))) ∧
    (let s : State := (wS (wSet wDev [(CLS.PROBE_CTL.DONE 0, 1)]))
    let sl : Nat := 0
    let d := s.dev
    (sl < 8) ∧ (d.reaches (CLS.PROBE_CTL.GO sl)) ∧ (d.is (CLS.PROBE_CTL.DONE sl) = true)) ∧
    (let s : State := (wS { wSet wDev [(CLS.PROBE_CTL.KPROF 0, 3)] with tbl.probe := [(0, some 5)] })
    let sl : Nat := 0
    let key : Nat := 5
    let d := s.dev
    (sl < 8) ∧ (sget d.tbl.probe sl none = some key) ∧ (d.arrLive sl = [])) := by
  refine ⟨?_, ?_, ?_, ?_, ?_⟩
  · dsimp only; decide +kernel
  · dsimp only; decide +kernel
  · dsimp only; decide +kernel
  · dsimp only [Dev.reaches]; decide +kernel
  · dsimp only; decide +kernel

theorem test_wit_EntryWrites :
    (let s : State := (wS wDev)
    let sl : Nat := 0
    let i : Nat := 6
    let w : Nat := 10
    let v : Nat := 0x505
    let d := s.dev
    let a := entA sl i w
    let c := d.entW sl i 10
    (sl < 8) ∧ (i < 49152) ∧ (v < 2 ^ 64) ∧ (d.reaches2 a) ∧ (ecRETIRED c = false) ∧ (d.is (GLB.PART_CTL.RETIRING sl) = false) ∧ (w = 10)) ∧
    (let s : State := (wS wDev)
    let sl : Nat := 0
    let i : Nat := 6
    let w : Nat := 9
    let v : Nat := 0x1234567812345678
    let d := s.dev
    let a := entA sl i w
    let c := d.entW sl i 10
    let even := d.entW sl (i - i % 2) 10
    let live := if i % 2 = 1 ∧ ecWIDE even = true then ecVALID even else ecVALID c
    (sl < 8) ∧ (i < 49152) ∧ (v < 2 ^ 64) ∧ (d.reaches2 a) ∧ (ecRETIRED c = false) ∧ (d.is (GLB.PART_CTL.RETIRING sl) = false) ∧ (w < 10) ∧ (live = false)) ∧
    (let s : State := (wS (wEnt wDev [(6, 10, 0x505)]))
    let sl : Nat := 0
    let i : Nat := 6
    let w : Nat := 9
    let v : Nat := 0x1234567812345678
    let d := s.dev
    let a := entA sl i w
    let c := d.entW sl i 10
    let even := d.entW sl (i - i % 2) 10
    let live := if i % 2 = 1 ∧ ecWIDE even = true then ecVALID even else ecVALID c
    (sl < 8) ∧ (i < 49152) ∧ (v < 2 ^ 64) ∧ (d.reaches2 a) ∧ (ecRETIRED c = false) ∧ (d.is (GLB.PART_CTL.RETIRING sl) = false) ∧ (w < 10) ∧ (live = true)) ∧
    (let s : State := (wS wDev)
    let sl : Nat := 0
    let i : Nat := 6
    let w : Nat := 11
    let v : Nat := 0x800000
    let d := s.dev
    let a := entA sl i w
    let c := d.entW sl i 10
    let even := d.entW sl (i - i % 2) 10
    let live := if i % 2 = 1 ∧ ecWIDE even = true then ecVALID even else ecVALID c
    (sl < 8) ∧ (i < 49152) ∧ (v < 2 ^ 64) ∧ (d.reaches2 a) ∧ (ecRETIRED c = false) ∧ (d.is (GLB.PART_CTL.RETIRING sl) = false) ∧ (w = 11) ∧ (live = false) ∧ (actionOk v = false)) ∧
    (let s : State := (wS wDev)
    let sl : Nat := 0
    let i : Nat := 6
    let w : Nat := 11
    let v : Nat := 0x10000000703
    let d := s.dev
    let a := entA sl i w
    let c := d.entW sl i 10
    let even := d.entW sl (i - i % 2) 10
    let live := if i % 2 = 1 ∧ ecWIDE even = true then ecVALID even else ecVALID c
    (sl < 8) ∧ (i < 49152) ∧ (v < 2 ^ 64) ∧ (d.reaches2 a) ∧ (ecRETIRED c = false) ∧ (d.is (GLB.PART_CTL.RETIRING sl) = false) ∧ (w = 11) ∧ (live = false) ∧ (actionOk v = true)) ∧
    (let s : State := (wS wDev)
    let sl : Nat := 0
    let i : Nat := 6
    let w : Nat := 1
    let v : Nat := 0x800000
    let d := s.dev
    let a := entA sl i w
    let c := d.entW sl i 10
    (sl < 8) ∧ (i < 49152) ∧ (v < 2 ^ 64) ∧ (d.reaches2 a) ∧ (ecRETIRED c = false) ∧ (d.is (GLB.PART_CTL.RETIRING sl) = false) ∧ (d.reaches (CLS.DEFAULT.W sl (w % 2))) ∧ (actionOk v = false)) := by
  refine ⟨?_, ?_, ?_, ?_, ?_, ?_⟩
  · dsimp only [Dev.reaches2]; decide +kernel
  · dsimp only [Dev.reaches2]; decide +kernel
  · dsimp only [Dev.reaches2]; decide +kernel
  · dsimp only [Dev.reaches2]; decide +kernel
  · dsimp only [Dev.reaches2]; decide +kernel
  · dsimp only [Dev.reaches, Dev.reaches2]; decide +kernel

theorem test_wit_LongestPrefix :
    (let d : Dev := (wFw wDev [(2, 5, 0, 0x0A000000 + 8 * 2 ^ 32 + 7 * 2 ^ 60), (2, 9, 0, 0x0A010000 + 16 * 2 ^ 32 + 7 * 2 ^ 60)])
    let sl : Nat := 0
    let x : Nat := 0
    let vrf : Nat := 0
    let addr : Nat := 0x0B010203
    let v6 : Bool := false
    (d.bad = []) ∧ ((d.prefixFind sl x vrf v6 addr).1 = none)) ∧
    (let d : Dev := (wFw wDev [(2, 5, 0, 0x0A000000 + 8 * 2 ^ 32 + 7 * 2 ^ 60), (2, 9, 0, 0x0A010000 + 16 * 2 ^ 32 + 7 * 2 ^ 60), (2, 11, 0, 0x0A020000 + 24 * 2 ^ 32 + 7 * 2 ^ 60)])
    let sl : Nat := 0
    let x : Nat := 0
    let vrf : Nat := 0
    let addr : Nat := 0x0A010203
    let k : Nat := 9
    let v6 : Bool := false
    (d.bad = []) ∧ ((d.prefixFind sl x vrf v6 addr).1 = some k)) := by
  refine ⟨?_, ?_⟩
  · dsimp only; decide +kernel
  · dsimp only; decide +kernel

theorem test_wit_ForwardLookup :
    (let s : State := (wS (wPipe [(FWD.CTL.EN 0, 0)] [wK .classified]))
    let p : Nat := 3
    let k : Pkt := (wK .classified)
    let d := s.dev
    let sl := k.slice
    (d.frameAt p 4 = some k) ∧ (k.stage = .classified) ∧ (d.blockOn sl 12 = true) ∧ (d.bad = []) ∧ (d.is (FWD.CTL.EN sl) = false)) ∧
    (let s : State := (wS (wPipe [(FWD.CTL.EN 0, 1)] [wK .classified]))
    let p : Nat := 3
    let k : Pkt := (wK .classified)
    let d := s.dev
    let sl := k.slice
    let x := d.setOf sl k.epoch
    let vid := if bits (bits (beAt k.key 2 2) 12 9) 3 2 = 1 then beAt k.key 54 2 % 4096 else d.get (FWD.PORT_CFG.PVID sl x (portIdx k.port))
    (d.frameAt p 4 = some k) ∧ (k.stage = .classified) ∧ (d.blockOn sl 12 = true) ∧ (d.bad = []) ∧ (d.is (FWD.CTL.EN sl) = true) ∧ (d.is (FWD.VLAN.VALID sl x vid) = false)) ∧
    (let s : State := (wS (wPipe wL2 [wDa 0xFF]))
    let p : Nat := 3
    let k : Pkt := (wDa 0xFF)
    let d := s.dev
    let sl := k.slice
    let x := d.setOf sl k.epoch
    let vid := if bits (bits (beAt k.key 2 2) 12 9) 3 2 = 1 then beAt k.key 54 2 % 4096 else d.get (FWD.PORT_CFG.PVID sl x (portIdx k.port))
    let da := beAt k.window 0 6
    let l2 := d.is (FWD.CTL.EN sl) = true ∧ d.is (FWD.VLAN.VALID sl x vid) = true ∧ d.is (FWD.RMAC.EN sl x) = false ∧ d.is (FWD.CTL.LEARN_EN sl) = false
    (d.frameAt p 4 = some k) ∧ (k.stage = .classified) ∧ (d.blockOn sl 12 = true) ∧ (d.bad = []) ∧ (l2) ∧ (da = 0xFFFFFFFFFFFF)) ∧
    (let s : State := (wS (wPipe wL2 [wDa 2]))
    let p : Nat := 3
    let k : Pkt := (wDa 2)
    let d := s.dev
    let sl := k.slice
    let x := d.setOf sl k.epoch
    let vid := if bits (bits (beAt k.key 2 2) 12 9) 3 2 = 1 then beAt k.key 54 2 % 4096 else d.get (FWD.PORT_CFG.PVID sl x (portIdx k.port))
    let da := beAt k.window 0 6
    let l2 := d.is (FWD.CTL.EN sl) = true ∧ d.is (FWD.VLAN.VALID sl x vid) = true ∧ d.is (FWD.RMAC.EN sl x) = false ∧ d.is (FWD.CTL.LEARN_EN sl) = false
    (d.frameAt p 4 = some k) ∧ (k.stage = .classified) ∧ (d.blockOn sl 12 = true) ∧ (d.bad = []) ∧ (l2) ∧ (da ≠ 0xFFFFFFFFFFFF) ∧ ((d.macFind sl (macKey vid da) (fun w => fwSETS w x)).1 = none) ∧ (d.get (FWD.VLAN.UNKNOWN_ACT sl x vid) = 0)) ∧
    (let s : State := (wS (wFw (wPipe wL2 [wDa 2]) [(0, wSlot (macKey 7 0x020202020202), 0, wMacW 7 0x020202020202), (0, wSlot (macKey 7 0x020202020202), 1, 44)]))
    let p : Nat := 3
    let k : Pkt := (wDa 2)
    let j : Nat := (wSlot (macKey 7 0x020202020202))
    let d := s.dev
    let sl := k.slice
    let x := d.setOf sl k.epoch
    let vid := if bits (bits (beAt k.key 2 2) 12 9) 3 2 = 1 then beAt k.key 54 2 % 4096 else d.get (FWD.PORT_CFG.PVID sl x (portIdx k.port))
    let da := beAt k.window 0 6
    let l2 := d.is (FWD.CTL.EN sl) = true ∧ d.is (FWD.VLAN.VALID sl x vid) = true ∧ d.is (FWD.RMAC.EN sl x) = false ∧ d.is (FWD.CTL.LEARN_EN sl) = false
    (d.frameAt p 4 = some k) ∧ (k.stage = .classified) ∧ (d.blockOn sl 12 = true) ∧ (d.bad = []) ∧ (l2) ∧ (da ≠ 0xFFFFFFFFFFFF) ∧ ((d.macFind sl (macKey vid da) (fun w => fwSETS w x)).1 = some j) ∧ (bits (d.fwdW sl 0 j 1) 22 21 = 0)) ∧
    (let s : State := (wS (wFw (wPipe wL2 [wDa 2]) [(0, wSlot (macKey 7 0x020202020202), 0, wMacW 7 0x020202020202), (0, wSlot (macKey 7 0x020202020202), 1, wBits [(21, 1), (9, 33)])]))
    let p : Nat := 3
    let k : Pkt := (wDa 2)
    let j : Nat := (wSlot (macKey 7 0x020202020202))
    let d := s.dev
    let sl := k.slice
    let x := d.setOf sl k.epoch
    let vid := if bits (bits (beAt k.key 2 2) 12 9) 3 2 = 1 then beAt k.key 54 2 % 4096 else d.get (FWD.PORT_CFG.PVID sl x (portIdx k.port))
    let da := beAt k.window 0 6
    let l2 := d.is (FWD.CTL.EN sl) = true ∧ d.is (FWD.VLAN.VALID sl x vid) = true ∧ d.is (FWD.RMAC.EN sl x) = false ∧ d.is (FWD.CTL.LEARN_EN sl) = false
    (d.frameAt p 4 = some k) ∧ (k.stage = .classified) ∧ (d.blockOn sl 12 = true) ∧ (d.bad = []) ∧ (l2) ∧ (da ≠ 0xFFFFFFFFFFFF) ∧ ((d.macFind sl (macKey vid da) (fun w => fwSETS w x)).1 = some j) ∧ (bits (d.fwdW sl 0 j 1) 22 21 = 1)) ∧
    (let s : State := (wS (wPipe (wL2 ++ [(FWD.VLAN.UNKNOWN_ACT 0 0 7, 1)]) [wDa 2]))
    let p : Nat := 3
    let k : Pkt := (wDa 2)
    let d := s.dev
    let sl := k.slice
    let x := d.setOf sl k.epoch
    let vid := if bits (bits (beAt k.key 2 2) 12 9) 3 2 = 1 then beAt k.key 54 2 % 4096 else d.get (FWD.PORT_CFG.PVID sl x (portIdx k.port))
    let da := beAt k.window 0 6
    let l2 := d.is (FWD.CTL.EN sl) = true ∧ d.is (FWD.VLAN.VALID sl x vid) = true ∧ d.is (FWD.RMAC.EN sl x) = false ∧ d.is (FWD.CTL.LEARN_EN sl) = false
    let miss := l2 ∧ da ≠ 0xFFFFFFFFFFFF ∧ (d.macFind sl (macKey vid da) (fun w => fwSETS w x)).1 = none
    (d.frameAt p 4 = some k) ∧ (k.stage = .classified) ∧ (d.blockOn sl 12 = true) ∧ (d.bad = []) ∧ (miss) ∧ ((d.get (FWD.VLAN.UNKNOWN_ACT sl x vid) = 1 ∨ d.get (FWD.VLAN.UNKNOWN_ACT sl x vid) = 3))) ∧
    (let s : State := (wS (wPipe (wL2 ++ [(FWD.VLAN.UNKNOWN_ACT 0 0 7, 2)]) [wDa 2]))
    let p : Nat := 3
    let k : Pkt := (wDa 2)
    let d := s.dev
    let sl := k.slice
    let x := d.setOf sl k.epoch
    let vid := if bits (bits (beAt k.key 2 2) 12 9) 3 2 = 1 then beAt k.key 54 2 % 4096 else d.get (FWD.PORT_CFG.PVID sl x (portIdx k.port))
    let da := beAt k.window 0 6
    let l2 := d.is (FWD.CTL.EN sl) = true ∧ d.is (FWD.VLAN.VALID sl x vid) = true ∧ d.is (FWD.RMAC.EN sl x) = false ∧ d.is (FWD.CTL.LEARN_EN sl) = false
    let miss := l2 ∧ da ≠ 0xFFFFFFFFFFFF ∧ (d.macFind sl (macKey vid da) (fun w => fwSETS w x)).1 = none
    (d.frameAt p 4 = some k) ∧ (k.stage = .classified) ∧ (d.blockOn sl 12 = true) ∧ (d.bad = []) ∧ (miss) ∧ (d.get (FWD.VLAN.UNKNOWN_ACT sl x vid) = 2) ∧ (heldBack k.h1 k.h2 k.id (d.ordOf (flowCluster sl k.h1)) = false)) := by
  refine ⟨?_, ?_, ?_, ?_, ?_, ?_, ?_, ?_⟩
  · dsimp only; decide +kernel
  · dsimp only; decide +kernel
  · dsimp only; decide +kernel
  · dsimp only; decide +kernel
  · dsimp only; decide +kernel
  · dsimp only; decide +kernel
  · dsimp only; decide +kernel
  · dsimp only; decide +kernel

theorem test_wit_LearnAndAge :
    (let s : State := (wS { wFw { wDev with tick := 99 * 62500000 } [(0, wSlot (macKey 7 0x123456), 0, wMacW 7 0x123456), (0, wSlot (macKey 7 0x123456), 1, 44)] with tbl.learns := [wLearn 44 false, wLearn 4 false] })
    let sl : Nat := 0
    let k : Nat := (wSlot (macKey 7 0x123456))
    let l : Learn := (wLearn 44 false)
    let ls : List Learn := [wLearn 4 false]
    let d := s.dev
    let r := d.fwdW sl 0 k 1
    let found := (d.macFind sl (macKey l.vid l.sa) (fun _ => true)).1
    (sl < 8) ∧ (d.sliceOn sl = true) ∧ (d.bad = []) ∧ (d.tbl.learns = l :: ls) ∧ (l.slice = sl) ∧ (l.bad = false) ∧ (found = some k) ∧ (fwSETS (d.fwdW sl 0 k 0) l.set = true) ∧ ((bits r 22 21 ≠ 0 ∨ bits r 8 0 = l.port))) ∧
    (let s : State := (wS { wFw (wLog 99) (wFill 1) with tbl.learns := [wLearn 44 false, wLearn 4 false] })
    let sl : Nat := 0
    let k : Nat := (wSlot wLk)
    let l : Learn := (wLearn 44 false)
    let ls : List Learn := [wLearn 4 false]
    let d := s.dev
    let found := (d.macFind sl (macKey l.vid l.sa) (fun _ => true)).1
    let logFits := d.get (FWD.LOG_SIZE.SIZE sl) ≤ 2 ^ 20 ∧ d.get (FWD.LOG_BASE.OFFSET sl) < 2 ^ 36
    (sl < 8) ∧ (d.sliceOn sl = true) ∧ (d.bad = []) ∧ (d.tbl.learns = l :: ls) ∧ (l.slice = sl) ∧ (l.bad = false) ∧ (found = none) ∧ (d.macFree sl (macKey l.vid l.sa) = [k]) ∧ (logFits)) ∧
    (let s : State := (wS { wFw (wLog 99) (wFill 0) with tbl.learns := [wLearn 44 false, wLearn 4 false] })
    let sl : Nat := 0
    let l : Learn := (wLearn 44 false)
    let ls : List Learn := [wLearn 4 false]
    let d := s.dev
    let found := (d.macFind sl (macKey l.vid l.sa) (fun _ => true)).1
    (sl < 8) ∧ (d.sliceOn sl = true) ∧ (d.bad = []) ∧ (d.tbl.learns = l :: ls) ∧ (l.slice = sl) ∧ (l.bad = false) ∧ (found = none) ∧ (d.macFree sl (macKey l.vid l.sa) = [])) ∧
    (let s : State := (wS { wFw (wLog 99) [(0, wSlot wLk, 0, wMacW 7 0x123456), (0, wSlot wLk, 1, 45)] with tbl.learns := [wLearn 44 false] })
    let sl : Nat := 0
    let k : Nat := (wSlot wLk)
    let l : Learn := (wLearn 44 false)
    let ls : List Learn := []
    let d := s.dev
    let r := d.fwdW sl 0 k 1
    let found := (d.macFind sl (macKey l.vid l.sa) (fun _ => true)).1
    let logFits := d.get (FWD.LOG_SIZE.SIZE sl) ≤ 2 ^ 20 ∧ d.get (FWD.LOG_BASE.OFFSET sl) < 2 ^ 36
    (sl < 8) ∧ (d.sliceOn sl = true) ∧ (d.bad = []) ∧ (d.tbl.learns = l :: ls) ∧ (l.slice = sl) ∧ (l.bad = false) ∧ (found = some k) ∧ (fwSETS (d.fwdW sl 0 k 0) l.set = true) ∧ (bits r 22 21 = 0) ∧ (bits r 8 0 ≠ l.port) ∧ (bit r 23 = false) ∧ (logFits)) ∧
    (let s : State := (wS { wFw (wLog 99) [(0, wSlot wLk, 0, macKey 7 0x123456 + 6 * 2 ^ 60), (0, wSlot wLk, 1, 45)] with tbl.learns := [wLearn 44 false] })
    let sl : Nat := 0
    let k : Nat := (wSlot wLk)
    let l : Learn := (wLearn 44 false)
    let ls : List Learn := []
    let d := s.dev
    let r := d.fwdW sl 0 k 1
    let found := (d.macFind sl (macKey l.vid l.sa) (fun _ => true)).1
    (sl < 8) ∧ (d.sliceOn sl = true) ∧ (d.bad = []) ∧ (d.tbl.learns = l :: ls) ∧ (l.slice = sl) ∧ (l.bad = false) ∧ (found = some k) ∧ ((fwSETS (d.fwdW sl 0 k 0) l.set = false ∨ (bits r 22 21 = 0 ∧ bits r 8 0 ≠ l.port ∧ bit r 23 = true)))) ∧
    (let s : State := (wS { wDev with tbl.learns := [wLearn 44 true, wLearn 4 false] })
    let sl : Nat := 0
    let l : Learn := (wLearn 44 true)
    let ls : List Learn := [wLearn 4 false]
    let d := s.dev
    (sl < 8) ∧ (d.sliceOn sl = true) ∧ (d.bad = []) ∧ (d.tbl.learns = l :: ls) ∧ (l.slice = sl) ∧ (l.bad = true)) ∧
    (let s : State := (wS (wFw { wSet wDev [(FWD.AGE_CFG.AGE_EN 0, 1), (FWD.AGE_CFG.AGE_MAX 0, 5)] with tick := 99 * 62500000 } [(0, 10, 0, wMacW 7 0x123456), (0, 10, 1, 44)]))
    let sl : Nat := 0
    let k : Nat := 10
    let d := s.dev
    let r := d.fwdW sl 0 k 1
    let due := d.is (FWD.AGE_CFG.AGE_EN sl) = true ∧ fwVALID (d.fwdW sl 0 k 0) = true ∧ fwRETIRED (d.fwdW sl 0 k 0) = false ∧ bit r 23 = false
    let aged := d.get (FWD.AGE_CFG.AGE_MAX sl) ≤ (d.fwdNow + 65536 - bits r 39 24) % 65536
    (sl < 8) ∧ (d.sliceOn sl = true) ∧ (d.bad = []) ∧ (k < 262144) ∧ (due) ∧ (aged) ∧ (d.ageWaits sl 0 k = none) ∧ (d.get (FWD.LOG_SIZE.SIZE sl) = 0)) ∧
    (let s : State := (wS (wFw { wSet wDev [(FWD.AGE_CFG.AGE_EN 0, 1), (FWD.AGE_CFG.AGE_MAX 0, 500)] with tick := 99 * 62500000 } [(0, 10, 0, wMacW 7 0x123456), (0, 10, 1, 44)]))
    let sl : Nat := 0
    let k : Nat := 10
    let d := s.dev
    let r := d.fwdW sl 0 k 1
    let due := d.is (FWD.AGE_CFG.AGE_EN sl) = true ∧ fwVALID (d.fwdW sl 0 k 0) = true ∧ fwRETIRED (d.fwdW sl 0 k 0) = false ∧ bit r 23 = false
    let aged := d.get (FWD.AGE_CFG.AGE_MAX sl) ≤ (d.fwdNow + 65536 - bits r 39 24) % 65536
    (sl < 8) ∧ (d.sliceOn sl = true) ∧ (d.bad = []) ∧ (k < 262144) ∧ (due) ∧ (¬ aged) ∧ (d.ageWaits sl 0 k = none)) ∧
    (let s : State := (wS (wFw { wSet wDev [(FWD.AGE_CFG.AGE_EN 0, 1), (FWD.AGE_CFG.AGE_MAX 0, 5)] with tick := 99 * 62500000 } [(0, 10, 0, wMacW 7 0x123456), (0, 10, 1, 45)]))
    let sl : Nat := 0
    let k : Nat := 10
    let d := s.dev
    let r := d.fwdW sl 0 k 1
    let due := d.is (FWD.AGE_CFG.AGE_EN sl) = true ∧ fwVALID (d.fwdW sl 0 k 0) = true ∧ fwRETIRED (d.fwdW sl 0 k 0) = false ∧ bit r 23 = false
    let aged := d.get (FWD.AGE_CFG.AGE_MAX sl) ≤ (d.fwdNow + 65536 - bits r 39 24) % 65536
    (sl < 8) ∧ (d.sliceOn sl = true) ∧ (d.bad = []) ∧ (k < 262144) ∧ (due) ∧ (aged) ∧ (d.ageWaits sl 0 k = none)) ∧
    (let s : State := (wS { (wFw { wSet wDev [(FWD.AGE_CFG.AGE_EN 0, 1), (FWD.AGE_CFG.AGE_MAX 0, 5)] with tick := 99 * 62500000 } [(0, 10, 0, wMacW 7 0x123456), (0, 10, 1, 45)]) with tbl.ageCas := [⟨0, 0, 10, 45⟩] })
    let sl : Nat := 0
    let k : Nat := 10
    let a : AgeCas := ⟨0, 0, 10, 45⟩
    let d := s.dev
    let r := d.fwdW sl 0 k 1
    (sl < 8) ∧ (d.sliceOn sl = true) ∧ (d.bad = []) ∧ (k < 262144) ∧ (d.ageWaits sl 0 k = some a) ∧ (a.word = r) ∧ (fwVALID (d.fwdW sl 0 k 0) = true) ∧ (fwRETIRED (d.fwdW sl 0 k 0) = false) ∧ (d.get (FWD.LOG_SIZE.SIZE sl) = 0)) ∧
    (let s : State := (wS { (wFw { wSet wDev [(FWD.AGE_CFG.AGE_EN 0, 1), (FWD.AGE_CFG.AGE_MAX 0, 5)] with tick := 99 * 62500000 } [(0, 10, 0, wMacW 7 0x123456), (0, 10, 1, 45)]) with tbl.ageCas := [⟨0, 0, 9, 1⟩, ⟨0, 0, 10, 44⟩] })
    let sl : Nat := 0
    let k : Nat := 10
    let a : AgeCas := ⟨0, 0, 10, 44⟩
    let d := s.dev
    let r := d.fwdW sl 0 k 1
    (sl < 8) ∧ (d.sliceOn sl = true) ∧ (d.bad = []) ∧ (k < 262144) ∧ (d.ageWaits sl 0 k = some a) ∧ (a.word ≠ r)) := by
  refine ⟨?_, ?_, ?_, ?_, ?_, ?_, ?_, ?_, ?_, ?_, ?_⟩
  · dsimp only; decide +kernel
  · dsimp only; decide +kernel
  · dsimp only; decide +kernel
  · dsimp only; decide +kernel
  · dsimp only; decide +kernel
  · dsimp only; decide +kernel
  · dsimp only; decide +kernel
  · dsimp only; decide +kernel
  · dsimp only; decide +kernel
  · dsimp only; decide +kernel
  · dsimp only; decide +kernel

theorem test_wit_TableCommands :
    (let s : State := (wS (wCmd []))
    let sl : Nat := 0
    let v : Nat := 0x18
    let d := s.dev
    let t := bits v 4 3
    (sl < 8) ∧ (d.reaches (FWD.CMD_CTL.GO sl)) ∧ (d.is (FWD.CMD_CTL.DONE sl) = true) ∧ (d.is (GLB.PART_CTL.RETIRING sl) = false) ∧ (t = 3)) ∧
    (let s : State := (wS (wCmd [(FWD.CMD_KEY.W 0 0, 5)]))
    let sl : Nat := 0
    let v : Nat := 0x20
    let d := s.dev
    let t := bits v 4 3
    (sl < 8) ∧ (d.reaches (FWD.CMD_CTL.GO sl)) ∧ (d.is (FWD.CMD_CTL.DONE sl) = true) ∧ (d.is (GLB.PART_CTL.RETIRING sl) = false) ∧ (t < 3) ∧ (d.cmdFind sl t = none)) ∧
    (let s : State := (wS (wFw (wCmd [(FWD.CMD_KEY.W 0 0, macKey 7 0x123456)]) [(0, wSlot (macKey 7 0x123456), 0, wMacW 7 0x123456)]))
    let sl : Nat := 0
    let v : Nat := 0x20
    let k : Nat := (wSlot (macKey 7 0x123456))
    let d := s.dev
    let t := bits v 4 3
    (sl < 8) ∧ (d.reaches (FWD.CMD_CTL.GO sl)) ∧ (d.is (FWD.CMD_CTL.DONE sl) = true) ∧ (d.is (GLB.PART_CTL.RETIRING sl) = false) ∧ (t < 3) ∧ (d.cmdFind sl t = some k) ∧ (¬ (t = 2 ∧ d.cmdBadPrefix sl = true))) ∧
    (let s : State := (wS (wFw (wCmd [(FWD.CMD_KEY.W 0 0, macKey 7 0x123456), (FWD.CMD_RES.W 0, 99)]) ((bucketSlots (wDev.macBucket 0 (macKey 7 0x123456))).tail.map (fun k => (0, k, 0, wMacW 9 5)))))
    let sl : Nat := 0
    let v : Nat := 0x60
    let k : Nat := (wSlot (macKey 7 0x123456))
    let d := s.dev
    let t := bits v 4 3
    let w := d.get (FWD.CMD_KEY.W sl 0)
    (sl < 8) ∧ (d.reaches (FWD.CMD_CTL.GO sl)) ∧ (d.is (FWD.CMD_CTL.DONE sl) = true) ∧ (d.is (GLB.PART_CTL.RETIRING sl) = false) ∧ (t = 0) ∧ (d.cmdFind sl 0 = none) ∧ (d.macFree sl (w % 2 ^ 60) = [k])) ∧
    (let s : State := (wS { wCmd [] with tbl.fwdCmd := [(0, some { status := 3 })] })
    let sl : Nat := 0
    let c : HostCmd := { status := 3 }
    let d := s.dev
    (sl < 8) ∧ (d.reaches (FWD.CMD_CTL.GO sl)) ∧ (d.is (FWD.CMD_CTL.DONE sl) = true) ∧ (d.is (GLB.PART_CTL.RETIRING sl) = false) ∧ (sget d.tbl.fwdCmd sl none = some c) ∧ (c.status < 8)) ∧
    (let s : State := (wS (wCmd [(FWD.CMD_KEY.W 0 0, 33 * 2 ^ 32)]))
    let sl : Nat := 0
    let v : Nat := 0x10
    let d := s.dev
    let t := bits v 4 3
    let w := d.get (FWD.CMD_KEY.W sl 0)
    let v6 := bit w 58
    let n := if v6 then 128 else 32
    let addr := if v6 then d.get (FWD.CMD_KEY.W sl 1) * 2 ^ 64 + d.get (FWD.CMD_KEY.W sl 2) else w % 2 ^ 32
    (sl < 8) ∧ (d.reaches (FWD.CMD_CTL.GO sl)) ∧ (d.is (FWD.CMD_CTL.DONE sl) = true) ∧ (d.is (GLB.PART_CTL.RETIRING sl) = false) ∧ (t = 2) ∧ ((n < bits w 39 32 ∨ addr % 2 ^ (n - bits w 39 32) ≠ 0))) ∧
    (let s : State := (wS (wFw (wCmd [(FWD.CMD_KEY.W 0 0, wLk)]) (wFill 0)))
    let sl : Nat := 0
    let v : Nat := 0x60
    let d := s.dev
    let t := bits v 4 3
    let w := d.get (FWD.CMD_KEY.W sl 0)
    (sl < 8) ∧ (d.reaches (FWD.CMD_CTL.GO sl)) ∧ (d.is (FWD.CMD_CTL.DONE sl) = true) ∧ (d.is (GLB.PART_CTL.RETIRING sl) = false) ∧ (t = 0) ∧ (d.cmdFind sl 0 = none) ∧ (d.macFree sl (w % 2 ^ 60) = [])) ∧
    (let s : State := (wS (wFw (wCmd [(FWD.CMD_KEY.W 0 0, 0x0A000001)]) (wHost 0)))
    let sl : Nat := 0
    let v : Nat := 0x68
    let d := s.dev
    let t := bits v 4 3
    let w := d.get (FWD.CMD_KEY.W sl 0)
    let v6 := bit w 58
    let addr := if v6 then d.get (FWD.CMD_KEY.W sl 1) * 2 ^ 64 + d.get (FWD.CMD_KEY.W sl 2) else w % 2 ^ 32
    let hostPlaces := (bucketSlots (d.hostBucket sl (bits w 51 40) v6 addr)).filter (fun j => d.slotFree sl 1 j && (!v6 || (j % 2 == 0 && d.slotFree sl 1 (j + 1))))
    (sl < 8) ∧ (d.reaches (FWD.CMD_CTL.GO sl)) ∧ (d.is (FWD.CMD_CTL.DONE sl) = true) ∧ (d.is (GLB.PART_CTL.RETIRING sl) = false) ∧ (t = 1) ∧ (d.cmdFind sl 1 = none) ∧ (hostPlaces = [])) ∧
    (let s : State := (wS (wFull 1048576))
    let sl : Nat := 0
    let v : Nat := 0x70
    let d := s.dev
    let t := bits v 4 3
    let w := d.get (FWD.CMD_KEY.W sl 0)
    let v6 := bit w 58
    let prefixFits := fun (j : Nat) => if v6 then j % 4 = 0 ∧ ∀ i, i < 4 → d.slotFree sl 2 (j + i) = true else d.slotFree sl 2 j = true
    (sl < 8) ∧ (d.reaches (FWD.CMD_CTL.GO sl)) ∧ (d.is (FWD.CMD_CTL.DONE sl) = true) ∧ (d.is (GLB.PART_CTL.RETIRING sl) = false) ∧ (t = 2) ∧ (d.cmdBadPrefix sl = false) ∧ (d.cmdFind sl 2 = none) ∧ ((∀ j, j < 1048576 → ¬ prefixFits j))) ∧
    (let s : State := (wS (wFw (wCmd [(FWD.CMD_KEY.W 0 0, 0x0A000001), (FWD.CMD_RES.W 0, 99)]) (wHost 1)))
    let sl : Nat := 0
    let v : Nat := 0x68
    let k : Nat := (4 * wDev.hostBucket 0 0 false 0x0A000001)
    let d := s.dev
    let t := bits v 4 3
    let w := d.get (FWD.CMD_KEY.W sl 0)
    let v6 := bit w 58
    let addr := if v6 then d.get (FWD.CMD_KEY.W sl 1) * 2 ^ 64 + d.get (FWD.CMD_KEY.W sl 2) else w % 2 ^ 32
    let hostPlaces := (bucketSlots (d.hostBucket sl (bits w 51 40) v6 addr)).filter (fun j => d.slotFree sl 1 j && (!v6 || (j % 2 == 0 && d.slotFree sl 1 (j + 1))))
    (sl < 8) ∧ (d.reaches (FWD.CMD_CTL.GO sl)) ∧ (d.is (FWD.CMD_CTL.DONE sl) = true) ∧ (d.is (GLB.PART_CTL.RETIRING sl) = false) ∧ (t = 1) ∧ (d.cmdFind sl 1 = none) ∧ (hostPlaces = [k])) ∧
    (let s : State := (wS (wCmd [(FWD.CMD_KEY.W 0 0, 0x0A010000 + 16 * 2 ^ 32), (FWD.CMD_RES.W 0, 99)]))
    let sl : Nat := 0
    let v : Nat := 0x70
    let k : Nat := 9
    let d := s.dev
    let t := bits v 4 3
    let w := d.get (FWD.CMD_KEY.W sl 0)
    let v6 := bit w 58
    let prefixFits := fun (j : Nat) => if v6 then j % 4 = 0 ∧ ∀ i, i < 4 → d.slotFree sl 2 (j + i) = true else d.slotFree sl 2 j = true
    (sl < 8) ∧ (d.reaches (FWD.CMD_CTL.GO sl)) ∧ (d.is (FWD.CMD_CTL.DONE sl) = true) ∧ (d.is (GLB.PART_CTL.RETIRING sl) = false) ∧ (t = 2) ∧ (d.cmdBadPrefix sl = false) ∧ (d.cmdFind sl 2 = none) ∧ (k < 1048576) ∧ (prefixFits k)) := by
  refine ⟨?_, ?_, ?_, ?_, ?_, ?_, ?_, ?_, ?_, ?_, ?_⟩
  · dsimp only [Dev.reaches]; decide +kernel
  · dsimp only [Dev.reaches]; decide +kernel
  · dsimp only [Dev.reaches]; decide +kernel
  · dsimp only [Dev.reaches]; decide +kernel
  · dsimp only [Dev.reaches]; decide +kernel
  · dsimp only [Dev.reaches]; decide +kernel
  · dsimp only [Dev.reaches]; decide +kernel
  · dsimp only [Dev.reaches]; decide +kernel
  · intro s sl v d t w v6 prefixFits
    have hv : v6 = false := by decide +kernel
    have hf : d.cmdFind sl 2 = none := by
      show (wFull 1048576).cmdFind 0 2 = none
      unfold Dev.cmdFind; rw [wFullLive _ rfl]; rfl
    refine ⟨by decide, ?_, by decide +kernel, by decide +kernel, by decide +kernel, by decide +kernel, hf, fun j hj => ?_⟩
    · show Dev.reaches (wFull 1048576) _; dsimp only [Dev.reaches, Dev.inWord]; decide +kernel
    · simp only [prefixFits, hv]; exact fun h => absurd ((wFullFit _ j rfl hj).symm.trans h) (by decide)
  · dsimp only [Dev.reaches]; decide +kernel
  · dsimp only [Dev.reaches]; decide +kernel

theorem test_wit_TableAndRingWrites :
    (let s : State := (wS wDev)
    let sl : Nat := 0
    let k : Nat := 9
    let v : Nat := 77
    let d := s.dev
    (sl < 8) ∧ (k < 262144) ∧ (v < 2 ^ 64) ∧ (d.reaches2 (fwdA sl 0 k 0))) ∧
    (let s : State := (wS wDev)
    let sl : Nat := 0
    let k : Nat := 9
    let v : Nat := 0xFFFFFFFFFFFF
    let d := s.dev
    let a := fwdA sl 0 k 1
    (sl < 8) ∧ (k < 262144) ∧ (v < 2 ^ 64) ∧ (d.reaches2 a) ∧ (fwRETIRED (d.fwdW sl 0 k 0) = false) ∧ (d.is (GLB.PART_CTL.RETIRING sl) = false)) ∧
    (let s : State := (wS (wSet wDev [((ringNo 3).wr, 5), ((ringNo 3).size, 64)]))
    let r : Nat := 3
    let v : Nat := 2
    let d := s.dev
    let g := ringNo r
    (r < 12) ∧ (v < 2 ^ 32) ∧ (d.reaches g.rd) ∧ (subMod 32 (d.get g.wr) v ≤ d.get g.size)) ∧
    (let s : State := (wS (wSet wDev [((ringNo 3).wr, 5), ((ringNo 3).size, 64)]))
    let r : Nat := 3
    let v : Nat := 6
    let d := s.dev
    let g := ringNo r
    (r < 12) ∧ (v < 2 ^ 32) ∧ (d.reaches g.rd) ∧ (d.get g.size < subMod 32 (d.get g.wr) v)) ∧
    (let s : State := (wS (wSet wDev [((ringNo 9).wr, 5)]))
    let r : Nat := 9
    let v : Nat := 128
    let d := s.dev
    let g := ringNo r
    (r < 10) ∧ (v < 2 ^ 32) ∧ (d.reaches g.size) ∧ (d.get g.wr < 2 ^ 32) ∧ ((Rule.p2 64 (ringLimits r).1).ok v = true)) ∧
    (let s : State := (wS (wSet wDev [((ringNo 0).wr, 5)]))
    let r : Nat := 0
    let v : Nat := 0x1000
    let d := s.dev
    let g := ringNo r
    (r < 10) ∧ (v < 2 ^ 36) ∧ (d.reaches g.base) ∧ (d.get g.wr < 2 ^ 32) ∧ (v % (ringLimits r).2 = 0)) := by
  refine ⟨?_, ?_, ?_, ?_, ?_, ?_⟩
  · dsimp only [Dev.reaches2]; decide +kernel
  · dsimp only [Dev.reaches2]; decide +kernel
  · dsimp only [Dev.reaches]; decide +kernel
  · dsimp only [Dev.reaches]; decide +kernel
  · dsimp only [Dev.reaches]; decide +kernel
  · dsimp only [Dev.reaches]; decide +kernel

theorem test_wit_FaceLookup :
    (let s : State := (wS (wPipe [(QRY.CTL.EN 0, 0)] [{ wF .forwarded with dest := .port 9 }]))
    let p : Nat := 3
    let i : Nat := 9
    let k : Pkt := { wF .forwarded with dest := .port 9 }
    let d := s.dev
    let sl := k.slice
    let t := keyType k
    let key := (flowKey (d.is (QRY.INS_CFG.SYM sl t)) k).1
    let h1 := d.hash1 key
    let q := fun (e : Dev) => sget e.eng.dq (flowCluster sl h1) []
    (d.frameAt p 5 = some k) ∧ (k.stage = .forwarded) ∧ (d.blockOn sl 9 = true) ∧ (d.bad = []) ∧ ((q d).length < 256) ∧ (d.is (QRY.CTL.EN sl) = false) ∧ (d.is (QRY.INS_CFG.NOFLOW_PROG sl t) = false) ∧ (k.dest = .port i) ∧ (d.eng.ord = [])) ∧
    (let s : State := (wS (wQd (wQl [wLn 0]) [wF .forwarded]))
    let p : Nat := 3
    let k : Pkt := (wF .forwarded)
    let l : Line := (wLn 0)
    let d := s.dev
    let sl := k.slice
    let t := keyType k
    let key := (flowKey (d.is (QRY.INS_CFG.SYM sl t)) k).1
    let dir := (flowKey (d.is (QRY.INS_CFG.SYM sl t)) k).2
    let h1 := d.hash1 key
    let h2 := d.hash2 key
    let q := fun (e : Dev) => sget e.eng.dq (flowCluster sl h1) []
    let flow := d.is (QRY.CTL.EN sl) = true ∧ d.is QRY.GCFG.EN = true ∧ (t % 4 = 1 ∨ t % 4 = 2) ∧ t / 4 < 3 ∧ actSKIP k.act = false ∧ k.bad = false
    let hit := d.lineFor sl h1 h2 key = some l ∧ d.lineOf sl l.handle = some l ∧ d.goneStatus sl l.handle = none
    (d.frameAt p 5 = some k) ∧ (k.stage = .forwarded) ∧ (d.blockOn sl 9 = true) ∧ (d.bad = []) ∧ ((q d).length < 256) ∧ (flow) ∧ (hit) ∧ (d.holder sl l.handle = none) ∧ (fastOnly (nthD l.words 0 0) dir = true)) ∧
    (let s : State := (wS (wQd (wQl [wLn 0x2000]) [wF .forwarded]))
    let p : Nat := 3
    let k : Pkt := (wF .forwarded)
    let l : Line := (wLn 0x2000)
    let d := s.dev
    let sl := k.slice
    let t := keyType k
    let key := (flowKey (d.is (QRY.INS_CFG.SYM sl t)) k).1
    let dir := (flowKey (d.is (QRY.INS_CFG.SYM sl t)) k).2
    let h1 := d.hash1 key
    let h2 := d.hash2 key
    let q := fun (e : Dev) => sget e.eng.dq (flowCluster sl h1) []
    let flow := d.is (QRY.CTL.EN sl) = true ∧ d.is QRY.GCFG.EN = true ∧ (t % 4 = 1 ∨ t % 4 = 2) ∧ t / 4 < 3 ∧ actSKIP k.act = false ∧ k.bad = false
    let hit := d.lineFor sl h1 h2 key = some l ∧ d.lineOf sl l.handle = some l ∧ d.goneStatus sl l.handle = none
    (d.frameAt p 5 = some k) ∧ (k.stage = .forwarded) ∧ (d.blockOn sl 9 = true) ∧ (d.bad = []) ∧ ((q d).length < 256) ∧ (flow) ∧ (hit) ∧ (d.holder sl l.handle = none) ∧ (fastOnly (nthD l.words 0 0) dir = false)) ∧
    (let s : State := (wS (wQd { wQl [] with misses := [wMiss] } [wF .forwarded]))
    let p : Nat := 3
    let k : Pkt := (wF .forwarded)
    let m : Miss := wMiss
    let d := s.dev
    let sl := k.slice
    let t := keyType k
    let key := (flowKey (d.is (QRY.INS_CFG.SYM sl t)) k).1
    let h1 := d.hash1 key
    let h2 := d.hash2 key
    let q := fun (e : Dev) => sget e.eng.dq (flowCluster sl h1) []
    let flow := d.is (QRY.CTL.EN sl) = true ∧ d.is QRY.GCFG.EN = true ∧ (t % 4 = 1 ∨ t % 4 = 2) ∧ t / 4 < 3 ∧ actSKIP k.act = false ∧ k.bad = false
    (d.frameAt p 5 = some k) ∧ (k.stage = .forwarded) ∧ (d.blockOn sl 9 = true) ∧ (d.bad = []) ∧ ((q d).length < 256) ∧ (flow) ∧ (d.lineFor sl h1 h2 key = none) ∧ (d.qry.misses.find? (fun m => m.slice == sl && m.byHandle == none && m.h1 == h1 && m.h2 == h2) = some m)) ∧
    (let s : State := (wS (wQd (wQl []) [wF .forwarded]))
    let p : Nat := 3
    let k : Pkt := (wF .forwarded)
    let d := s.dev
    let sl := k.slice
    let t := keyType k
    let key := (flowKey (d.is (QRY.INS_CFG.SYM sl t)) k).1
    let h1 := d.hash1 key
    let h2 := d.hash2 key
    let q := fun (e : Dev) => sget e.eng.dq (flowCluster sl h1) []
    let flow := d.is (QRY.CTL.EN sl) = true ∧ d.is QRY.GCFG.EN = true ∧ (t % 4 = 1 ∨ t % 4 = 2) ∧ t / 4 < 3 ∧ actSKIP k.act = false ∧ k.bad = false
    (d.frameAt p 5 = some k) ∧ (k.stage = .forwarded) ∧ (d.blockOn sl 9 = true) ∧ (d.bad = []) ∧ ((q d).length < 256) ∧ (flow) ∧ (d.lineFor sl h1 h2 key = none) ∧ (d.qry.misses = [])) := by
  refine ⟨?_, ?_, ?_, ?_, ?_⟩
  · dsimp only; decide +kernel
  · dsimp only; decide +kernel
  · dsimp only; decide +kernel
  · dsimp only; decide +kernel
  · dsimp only; decide +kernel

theorem test_wit_FlowUpdate :
    (let s : State := (wS (wQd (wQl [wLn 0x40000]) [{ wF .flowUpd with handle := 7 }]))
    let sl : Nat := 0
    let k : Pkt := { wF .flowUpd with handle := 7 }
    let l : Line := (wLn 0x40000)
    let d := s.dev
    let w := nthD l.words 0 0
    (sl < 8) ∧ (d.flowFrame sl = some k) ∧ (d.lineOf sl k.handle = some l) ∧ (d.lineRetired l = false) ∧ (d.blockOn sl 9 = true) ∧ (d.is (QRY.FACE_CFG.WB_EN sl) = true) ∧ (d.bad = []) ∧ ((rVERDICT w = 1 ∨ rVERDICT w = 3))) ∧
    (let s : State := (wS (wQd (wQl [wLn 0]) [{ wF .flowUpd with handle := 7, dest := .port 9 }]))
    let sl : Nat := 0
    let i : Nat := 9
    let k : Pkt := { wF .flowUpd with handle := 7, dest := .port 9 }
    let l : Line := (wLn 0)
    let d := s.dev
    let w := nthD l.words 0 0
    (sl < 8) ∧ (d.flowFrame sl = some k) ∧ (d.lineOf sl k.handle = some l) ∧ (d.lineRetired l = false) ∧ (d.blockOn sl 9 = true) ∧ (d.is (QRY.FACE_CFG.WB_EN sl) = true) ∧ (d.bad = []) ∧ (rVERDICT w = 0) ∧ (rRWEN w = false) ∧ (rNHEN w = false) ∧ (k.dest = .port i) ∧ (heldBack k.h1 k.h2 k.id (d.ordOf (flowCluster k.slice k.h1)) = false)) := by
  refine ⟨?_, ?_⟩
  · dsimp only; decide +kernel
  · dsimp only; decide +kernel

theorem test_wit_FaceMisses :
    (let s : State := (wS (wQd { wQl [wLn 0] with misses := [wMiss] } []))
    let sl : Nat := 0
    let j : Nat := 0
    let m : Miss := wMiss
    let d := s.dev
    let free := d.waysFree sl (m.h1 % 16384)
    (sl < 8) ∧ (j < 8) ∧ (d.blockOn sl 9 = true) ∧ (d.missToSend sl = some m) ∧ (missWays m ≤ free.length)) ∧
    (let s : State := (wS { wDq9 { wQl [wFilling] with misses := [wMiss], txns := [wDone { wT .lookup with missId := 4 } 1 7 (wRec 0)] } with eng.dq := [(3, [{ wF .queued with miss := some 4, fkey := wFk.drop 1 }])] })
    let sl : Nat := 0
    let id : Nat := 9
    let j : Nat := 3
    let t : Txn := (wDone { wT .lookup with missId := 4 } 1 7 (wRec 0))
    let m : Miss := wMiss
    let k : Pkt := { wF .queued with miss := some 4, fkey := wFk.drop 1 }
    let d := s.dev
    let q := fun (e : Dev) => sget e.eng.dq (8 * m.slice + j) []
    (sl < 8) ∧ (j < 8) ∧ (d.response id = some (t, m)) ∧ (d.eng.ctxs = []) ∧ (k ∈ q d) ∧ (k.miss = some m.id) ∧ (k.fkey ≠ m.fkey)) ∧
    (let s : State := (wS (wDq9 { wQl [wFilling, wLn 0] with misses := [wMiss], txns := [wDone { wT .lookup with missId := 4 } 5 noFlow []] }))
    let sl : Nat := 0
    let id : Nat := 9
    let j : Nat := 3
    let t : Txn := (wDone { wT .lookup with missId := 4 } 5 noFlow [])
    let m : Miss := wMiss
    let d := s.dev
    let one := ∀ x ∈ d.eng.dq, ∀ y ∈ x.2, y.miss = some m.id → y.fkey = m.fkey
    (sl < 8) ∧ (j < 8) ∧ (d.response id = some (t, m)) ∧ (d.eng.ctxs = []) ∧ (one) ∧ (1 < t.rStatus)) ∧
    (let s : State := (wS (wDq9 { wQl [wFilling] with misses := [wMiss], txns := [wDone { wT .lookup with missId := 4 } 1 7 (wRec 0)] }))
    let sl : Nat := 0
    let id : Nat := 9
    let j : Nat := 3
    let t : Txn := (wDone { wT .lookup with missId := 4 } 1 7 (wRec 0))
    let m : Miss := wMiss
    let l : Line := wFilling
    let d := s.dev
    let one := ∀ x ∈ d.eng.dq, ∀ y ∈ x.2, y.miss = some m.id → y.fkey = m.fkey
    (sl < 8) ∧ (j < 8) ∧ (d.response id = some (t, m)) ∧ (d.eng.ctxs = []) ∧ (one) ∧ (t.rStatus ≤ 1) ∧ (rFULL (nthD t.rWords 0 0) = false) ∧ (d.lineOf m.slice t.rHandle = none) ∧ (d.qry.lines.find? (fun l => l.st == .filling && l.missId == m.id) = some l) ∧ ((∀ w ∈ l.ways, d.isRetired 0 (faceLoc m.slice (m.h1 % 16384) w) = false))) := by
  refine ⟨?_, ?_, ?_, ?_⟩
  · dsimp only; decide +kernel
  · dsimp only; decide +kernel
  · dsimp only; decide +kernel
  · dsimp only; decide +kernel

theorem test_wit_BenchLookups :
    (let s : State := (wS (wBn 3 (wQt { wT .lookup with handle := noFlow })))
    let id : Nat := 9
    let a : Nat := wTagA
    let t : Txn := { wT .lookup with handle := noFlow }
    let d := s.dev
    let u := tINDEX (d.rd64 a)
    let x := d.flowOf t.half u
    let byKey := t.kind = .lookup ∧ t.handle = noFlow
    (t.half < 2) ∧ (u < 2 ^ 27) ∧ (d.txnReady id = some t) ∧ (d.bad = []) ∧ (byKey) ∧ (d.findTag t.half t.h1 t.h2 t.fkey = some a) ∧ (d.handleState x = 0)) ∧
    (let s : State := (wS (wQd (wQt { wT .lookup with handle := noFlow }) []))
    let id : Nat := 9
    let a : Nat := wTagA
    let t : Txn := { wT .lookup with handle := noFlow }
    let d := s.dev
    let u := tINDEX (d.rd64 a)
    let byKey := t.kind = .lookup ∧ t.handle = noFlow
    (t.half < 2) ∧ (u < 2 ^ 27) ∧ (d.txnReady id = some t) ∧ (d.bad = []) ∧ (byKey) ∧ (d.findTag t.half t.h1 t.h2 t.fkey = none) ∧ (t.ins = false)) ∧
    (let s : State := (wS (wQd { wQt { wT .lookup with handle := noFlow, ins := true } with insTok := [(wHf, 3)] } []))
    let id : Nat := 9
    let a : Nat := wTagA
    let t : Txn := { wT .lookup with handle := noFlow, ins := true }
    let d := s.dev
    let u := tINDEX (d.rd64 a)
    let byKey := t.kind = .lookup ∧ t.handle = noFlow
    (t.half < 2) ∧ (u < 2 ^ 27) ∧ (d.txnReady id = some t) ∧ (d.bad = []) ∧ (byKey) ∧ (d.findTag t.half t.h1 t.h2 t.fkey = none) ∧ (t.ins = true) ∧ (d.insLevel t.half < 20)) ∧
    (let s : State := (wS (wBn 3 (wQt { wT .qins with handle := noFlow })))
    let id : Nat := 9
    let a : Nat := wTagA
    let t : Txn := { wT .qins with handle := noFlow }
    let d := s.dev
    let u := tINDEX (d.rd64 a)
    (t.half < 2) ∧ (u < 2 ^ 27) ∧ (d.txnReady id = some t) ∧ (d.bad = []) ∧ (t.kind = .qins) ∧ (20 ≤ d.insLevel t.half) ∧ (d.findTag t.half t.h1 t.h2 t.fkey = some a)) ∧
    (let s : State := (wS (wBn 3 (wQt (wT .late))))
    let id : Nat := 9
    let a : Nat := wTagA
    let t : Txn := (wT .late)
    let d := s.dev
    let u := tINDEX (d.rd64 a)
    (t.half < 2) ∧ (u < 2 ^ 27) ∧ (d.txnReady id = some t) ∧ (d.bad = []) ∧ (t.kind = .late) ∧ (t.handle ≠ noFlow) ∧ (d.handleState t.handle = 0)) ∧
    (let s : State := (wS wIns0)
    let id : Nat := 9
    let a : Nat := wInsA
    let v : Nat := 40
    let t : Txn := wInsT
    let d := s.dev
    let u := tINDEX (d.rd64 a)
    let byKey := t.kind = .lookup ∧ t.handle = noFlow
    let room := d.buckets t.h1 t.h2
    let ring := sget d.qry.freeRings (2 * t.half + b2n t.full) []
    let n := if t.full then 2 * v else v
    let unit := d.unitA t.half n
    let wants := (byKey ∨ t.kind = .qins) ∧ d.findTag t.half t.h1 t.h2 t.fkey = none ∧ (t.kind = .lookup → t.ins = true) ∧ 20 ≤ d.insLevel t.half
    let fits := ring = [(v, 1)] ∧ n < 2 ^ 27 ∧ d.rowGone unit = false ∧ (t.full = true → d.rowGone (unit + 64) = false) ∧ 16 ≤ d.unitsLog ∧ t.h1 < 2 ^ 32 ∧ t.h2 < 2 ^ 32 ∧
      t.slice < 8 ∧ t.w0 < 2 ^ 56 ∧ t.w0 % 2 ^ 13 = 0 ∧ t.fkey.length = (if byteAt t.fkey 0 % 4 = 2 then 44 else 20) ∧ (byteAt t.fkey 0 % 4 = 2 → t.full = true)
    (t.half < 2) ∧ (u < 2 ^ 27) ∧ (d.txnReady id = some t) ∧ (d.bad = []) ∧ (wants) ∧ (fits) ∧ (d.freeTag t.half room = some a)) ∧
    (let s : State := (wS (wTags (wIns [(40, 1)]) [wIns0.bucketOf wH1, wIns0.bucketOf wH2]))
    let id : Nat := 9
    let a : Nat := 0
    let v : Nat := 40
    let t : Txn := wInsT
    let d := s.dev
    let u := tINDEX (d.rd64 a)
    let byKey := t.kind = .lookup ∧ t.handle = noFlow
    let room := d.buckets t.h1 t.h2
    let ring := sget d.qry.freeRings (2 * t.half + b2n t.full) []
    let n := if t.full then 2 * v else v
    let unit := d.unitA t.half n
    let wants := (byKey ∨ t.kind = .qins) ∧ d.findTag t.half t.h1 t.h2 t.fkey = none ∧ (t.kind = .lookup → t.ins = true) ∧ 20 ≤ d.insLevel t.half
    let fits := ring = [(v, 1)] ∧ n < 2 ^ 27 ∧ d.rowGone unit = false ∧ (t.full = true → d.rowGone (unit + 64) = false) ∧ 16 ≤ d.unitsLog ∧ t.h1 < 2 ^ 32 ∧ t.h2 < 2 ^ 32 ∧
      t.slice < 8 ∧ t.w0 < 2 ^ 56 ∧ t.w0 % 2 ^ 13 = 0 ∧ t.fkey.length = (if byteAt t.fkey 0 % 4 = 2 then 44 else 20) ∧ (byteAt t.fkey 0 % 4 = 2 → t.full = true)
    (t.half < 2) ∧ (u < 2 ^ 27) ∧ (d.txnReady id = some t) ∧ (d.bad = []) ∧ (wants) ∧ (fits) ∧ (d.freeTag t.half room = none) ∧ ((∀ y ∈ d.tagSlots t.half room, otherBucket d t.half y ≠ (y - d.benchA t.half) / 64 ∧ (d.freeTag t.half [otherBucket d t.half y]).isSome = true))) ∧
    (let s : State := (wS (wTags (wIns [(40, 1)]) [wIns0.bucketOf wH1, wIns0.bucketOf wH2, wIns0.bucketOf (wIns0.hash1 (List.replicate 20 0))]))
    let id : Nat := 9
    let a : Nat := 0
    let v : Nat := 40
    let t : Txn := wInsT
    let d := s.dev
    let u := tINDEX (d.rd64 a)
    let byKey := t.kind = .lookup ∧ t.handle = noFlow
    let room := d.buckets t.h1 t.h2
    let ring := sget d.qry.freeRings (2 * t.half + b2n t.full) []
    let n := if t.full then 2 * v else v
    let unit := d.unitA t.half n
    let wants := (byKey ∨ t.kind = .qins) ∧ d.findTag t.half t.h1 t.h2 t.fkey = none ∧ (t.kind = .lookup → t.ins = true) ∧ 20 ≤ d.insLevel t.half
    let fits := ring = [(v, 1)] ∧ n < 2 ^ 27 ∧ d.rowGone unit = false ∧ (t.full = true → d.rowGone (unit + 64) = false) ∧ 16 ≤ d.unitsLog ∧ t.h1 < 2 ^ 32 ∧ t.h2 < 2 ^ 32 ∧
      t.slice < 8 ∧ t.w0 < 2 ^ 56 ∧ t.w0 % 2 ^ 13 = 0 ∧ t.fkey.length = (if byteAt t.fkey 0 % 4 = 2 then 44 else 20) ∧ (byteAt t.fkey 0 % 4 = 2 → t.full = true)
    (t.half < 2) ∧ (u < 2 ^ 27) ∧ (d.txnReady id = some t) ∧ (d.bad = []) ∧ (wants) ∧ (fits) ∧ (d.freeTag t.half room = none) ∧ ((∀ y ∈ d.tagSlots t.half room, d.freeTag t.half [otherBucket d t.half y] = none))) ∧
    (let s : State := (wS (wIns []))
    let id : Nat := 9
    let a : Nat := 0
    let t : Txn := wInsT
    let d := s.dev
    let u := tINDEX (d.rd64 a)
    let byKey := t.kind = .lookup ∧ t.handle = noFlow
    let ring := sget d.qry.freeRings (2 * t.half + b2n t.full) []
    let wants := (byKey ∨ t.kind = .qins) ∧ d.findTag t.half t.h1 t.h2 t.fkey = none ∧ (t.kind = .lookup → t.ins = true) ∧ 20 ≤ d.insLevel t.half
    (t.half < 2) ∧ (u < 2 ^ 27) ∧ (d.txnReady id = some t) ∧ (d.bad = []) ∧ (wants) ∧ (ring = [])) := by
  refine ⟨?_, ?_, ?_, ?_, ?_, ?_, ?_, ?_, ?_⟩
  · dsimp only; decide +kernel
  · dsimp only; decide +kernel
  · dsimp only; decide +kernel
  · dsimp only; decide +kernel
  · dsimp only; decide +kernel
  · dsimp only; decide +kernel
  · dsimp only; decide +kernel
  · dsimp only; decide +kernel
  · dsimp only; decide +kernel

theorem test_wit_BenchMerges :
    (let s : State := (wS (wBn 3 (wQt { wT .writeBack with dPkts := 3, dBad := 2, dOct := 99, dLast := some 9 })))
    let id : Nat := 9
    let t : Txn := { wT .writeBack with dPkts := 3, dBad := 2, dOct := 99, dLast := some 9 }
    let d := s.dev
    let ready := d.txnReady id = some t ∧ d.bad = [] ∧ t.slice < 8
    (ready) ∧ (t.kind = .writeBack) ∧ (d.handleState t.handle = 0)) ∧
    (let s : State := (wS (wBn (0x11 * 2 ^ 56 + 3) (wQt { wT .release with dPkts := 3, dBad := 2, dOct := 99, dLast := some 9 })))
    let id : Nat := 9
    let t : Txn := { wT .release with dPkts := 3, dBad := 2, dOct := 99, dLast := some 9 }
    let d := s.dev
    let ready := d.txnReady id = some t ∧ d.bad = [] ∧ t.slice < 8
    (ready) ∧ (t.kind = .release) ∧ (d.handleState t.handle = 0)) ∧
    (let s : State := (wS (wBn 0x103 (wQt { wT .writeBack with dPkts := 3 })))
    let id : Nat := 9
    let t : Txn := { wT .writeBack with dPkts := 3 }
    let d := s.dev
    let ready := d.txnReady id = some t ∧ d.bad = [] ∧ t.slice < 8
    (ready) ∧ (t.kind = .writeBack) ∧ (d.handleState t.handle ≠ 0)) ∧
    (let s : State := (wS (wBn (0x3F * 2 ^ 56 + 3) (wQt { wT .commit with ver := 3, words := (List.range 8).map (fun i => 0xFFFFFFFFFFFFFFFF - i), dPkts := 7 })))
    let id : Nat := 9
    let t : Txn := { wT .commit with ver := 3, words := (List.range 8).map (fun i => 0xFFFFFFFFFFFFFFFF - i), dPkts := 7 }
    let d := s.dev
    let ws := d.recOf t.handle
    let ready := d.txnReady id = some t ∧ d.bad = [] ∧ t.slice < 8
    (ready) ∧ (t.kind = .commit) ∧ (d.handleState t.handle = 0) ∧ (rVER (nthD ws 0 0) = t.ver) ∧ (d.eng.stepCmd = [])) ∧
    (let s : State := (wS (wBn (0x3F * 2 ^ 56 + 3) (wQt { wT .commit with ver := 4, words := (List.range 8).map (fun i => 0xFFFFFFFFFFFFFFFF - i), dPkts := 7 })))
    let id : Nat := 9
    let t : Txn := { wT .commit with ver := 4, words := (List.range 8).map (fun i => 0xFFFFFFFFFFFFFFFF - i), dPkts := 7 }
    let d := s.dev
    let ws := d.recOf t.handle
    let ready := d.txnReady id = some t ∧ d.bad = [] ∧ t.slice < 8
    (ready) ∧ (t.kind = .commit) ∧ (d.handleState t.handle = 0) ∧ (rVER (nthD ws 0 0) ≠ t.ver)) ∧
    (let s : State := (wS (let d := wQd { wQl [{ wLn 0 with handle := wX, slice := 4 * wHf }] with txns := [wDone { wT .commit with ctx := 66 } 1 wX (wRec 0x40009)] } []; { d with eng := { d.eng with ctxs := [(65, wRegs)] } }))
    let id : Nat := 9
    let t : Txn := (wDone { wT .commit with ctx := 66 } 1 wX (wRec 0x40009))
    let l : Line := { wLn 0 with handle := wX, slice := 4 * wHf }
    let d := s.dev
    (d.qry.txns.find? (fun t => t.id == id && t.kind == .commit && t.done) = some t) ∧ (d.lineOf t.slice t.handle = some l) ∧ (d.eng.stepCmd = [])) ∧
    (let s : State := (wS (wQd { wQl [wLn 0] with pushes := [⟨2, 1, [], 0⟩, ⟨0, 7, wRec 0x40009, 0⟩, ⟨0, 7, wRec 0, 0⟩] } []))
    let j : Nat := 1
    let l : Line := (wLn 0)
    let p : Push := ⟨0, 7, wRec 0x40009, 0⟩
    let r : List Push := [⟨2, 1, [], 0⟩, ⟨0, 7, wRec 0, 0⟩]
    let d := s.dev
    (d.pushAt j = some (p, r)) ∧ (d.lineOf p.slice p.handle = some l)) := by
  refine ⟨?_, ?_, ?_, ?_, ?_, ?_, ?_⟩
  · dsimp only; decide +kernel
  · dsimp only; decide +kernel
  · dsimp only; decide +kernel
  · dsimp only; decide +kernel
  · dsimp only; decide +kernel
  · dsimp only; decide +kernel
  · dsimp only; decide +kernel

theorem test_wit_TimeoutsAndFlush :
    (let s : State := (wS { wQd { wQl [wFilling] with misses := [wMiss], txns := [{ wT .lookup with missId := 4 }] } [] with tick := 100000000 })
    let sl : Nat := 0
    let id : Nat := 9
    let t : Txn := { wT .lookup with missId := 4 }
    let m : Miss := wMiss
    let d := s.dev
    let late := d.qry.txns.find? (fun y => y.id == id) = some t ∧ t.done = false ∧ ((d.timedOut t = true ∧ d.cutOff t = false) ∨ (d.timedOut t = false ∧ d.cutOff t = true)) ∧ t.slice < 8
    (sl < 8) ∧ (late) ∧ (t.kind = .lookup) ∧ (d.qry.misses.find? (fun y => y.id == t.missId) = some m) ∧ (d.eng.ctxs = [])) ∧
    (let s : State := (wS { wQd { wQl [{ wLn 0 with handle := wX, slice := 4 * wHf }] with txns := [wT .writeBack] } [] with tick := 100000000 })
    let sl : Nat := 0
    let id : Nat := 9
    let t : Txn := (wT .writeBack)
    let l : Line := { wLn 0 with handle := wX, slice := 4 * wHf }
    let d := s.dev
    let late := d.qry.txns.find? (fun y => y.id == id) = some t ∧ t.done = false ∧ ((d.timedOut t = true ∧ d.cutOff t = false) ∨ (d.timedOut t = false ∧ d.cutOff t = true)) ∧ t.slice < 8
    (sl < 8) ∧ (late) ∧ ((t.kind = .writeBack ∨ t.kind = .commit ∨ t.kind = .release)) ∧ (t.ctx = 0) ∧ (d.lineOf t.slice t.handle = some l)) ∧
    (let s : State := (wS { wQd { wQl [wFilling] with misses := [wMiss], txns := [wDone { wT .lookup with missId := 4 } 1 7 (wRec 0)] } [] with tick := 100000000 })
    let sl : Nat := 0
    let id : Nat := 9
    let t : Txn := (wDone { wT .lookup with missId := 4 } 1 7 (wRec 0))
    let m : Miss := wMiss
    let d := s.dev
    (sl < 8) ∧ (d.qry.txns.find? (fun y => y.id == id) = some t) ∧ (t.done = true) ∧ (t.kind = .lookup) ∧ (d.timedOut t = true) ∧ (d.cutOff t = false) ∧ (t.slice < 8) ∧ (d.eng.ctxs = []) ∧ (d.qry.misses.find? (fun y => y.id == t.missId) = some m)) ∧
    (let s : State := (wS (wQd { wQl [] with lates := [wDone (wT .lookup) 1 7 (wRec 0)] } []))
    let sl : Nat := 0
    let id : Nat := 9
    let t : Txn := (wDone (wT .lookup) 1 7 (wRec 0))
    let d := s.dev
    (sl < 8) ∧ (d.qry.lates.find? (fun y => y.id == id) = some t) ∧ (t.kind = .lookup) ∧ (d.response id = none)) ∧
    (let s : State := (wS { wQd (wQl [{ wLn 0 with st := .dirty, dPkts := 7, dOct := 80 }]) [] with tick := 10000000000 })
    let sl : Nat := 0
    let x : Nat := 7
    let l : Line := { wLn 0 with st := .dirty, dPkts := 7, dOct := 80 }
    let d := s.dev
    (sl < 8) ∧ (d.lineOf sl x = some l) ∧ (wordsGood d sl l) ∧ (l.st = .dirty) ∧ (d.is (QRY.FACE_CFG.WB_EN sl) = true) ∧ (d.get (QRY.FACE_CFG.FLUSH_MS sl) * 1000000 ≤ d.tick - l.dirtyAt)) ∧
    (let s : State := (wS { wQd (wQl [{ wLn 0 with dPkts := 0 }]) [] with tick := 1000000000000 })
    let sl : Nat := 0
    let x : Nat := 7
    let l : Line := (wLn 0)
    let d := s.dev
    (sl < 8) ∧ (d.lineOf sl x = some l) ∧ (wordsGood d sl l) ∧ (d.pinned l = false) ∧ (d.awaited l = false) ∧ (d.get (QRY.FACE_CFG.IDLE_MS sl) * 1000000 ≤ d.tick - l.hitAt)) ∧
    (let s : State := (wS (wQd (wQl [wLn 0, { wLn 0 with handle := 8, st := .dirty, dPkts := 7 }]) []))
    let sl : Nat := 0
    let v : Nat := 0x80000000
    let l : Line := { wLn 0 with handle := 8, st := .dirty, dPkts := 7 }
    let d := s.dev
    (sl < 8) ∧ (d.reaches (QRY.FACE_CFG.WB_EN sl)) ∧ (v < 2 ^ 32) ∧ (d.qry.lines.filter (fun l => l.slice == sl && l.st == .dirty) = [l]) ∧ (d.lineOf sl l.handle = some l) ∧ (wordsGood d sl l)) := by
  refine ⟨?_, ?_, ?_, ?_, ?_, ?_, ?_⟩
  · dsimp only; decide +kernel
  · dsimp only; decide +kernel
  · dsimp only; decide +kernel
  · dsimp only; decide +kernel
  · dsimp only [wordsGood]; decide +kernel
  · dsimp only [wordsGood]; decide +kernel
  · dsimp only [wordsGood, Dev.reaches]; decide +kernel

theorem test_wit_AgingAndDeletion :
    (let s : State := (wS { wSet (wBn 3 QrySt.reset) [(QRY.AGE_CFG.AGE_EN, 1), (QRY.AGE_MAX.MAX 0, 4)] with tick := 1953125 * 30 })
    let h : Nat := wHf
    let b : Nat := ((wBn 3 QrySt.reset).bucketOf wH1)
    let j : Nat := 0
    let sl : Nat := 0
    let d := s.dev
    let t := d.rd64 (d.tagA h b j)
    let u := tINDEX t
    let w0 := d.rd64 (d.unitA h u)
    let old := rCACHED w0 = 0 ∧ d.get (QRY.AGE_MAX.MAX (rAGE w0)) ≤ subMod 32 d.qryNow (bits (d.rd64 (d.unitA h u + 24)) 31 0)
    let live := d.halfOn h = true ∧ d.is QRY.AGE_CFG.AGE_EN = true ∧ d.is QRY.GCFG.READY = true ∧ b < 2 ^ (d.unitsLog - 2) ∧ j < 8 ∧
      tVALID t = true ∧ tSTATIC t = false ∧ tDYING t = false ∧ d.anyWaits (d.tagA h b j :: d.recRows (d.flowOf h u)) = false
    (h < 2) ∧ (sl < 8) ∧ (d.bad = []) ∧ (live) ∧ (old)) ∧
    (let s : State := (wS { wSet (wBn 3 QrySt.reset) [(QRY.AGE_CFG.AGE_EN, 1), (QRY.AGE_MAX.MAX 0, 400)] with tick := 1953125 * 30 })
    let h : Nat := wHf
    let b : Nat := ((wBn 3 QrySt.reset).bucketOf wH1)
    let j : Nat := 0
    let sl : Nat := 0
    let d := s.dev
    let t := d.rd64 (d.tagA h b j)
    let u := tINDEX t
    let w0 := d.rd64 (d.unitA h u)
    let old := rCACHED w0 = 0 ∧ d.get (QRY.AGE_MAX.MAX (rAGE w0)) ≤ subMod 32 d.qryNow (bits (d.rd64 (d.unitA h u + 24)) 31 0)
    let live := d.halfOn h = true ∧ d.is QRY.AGE_CFG.AGE_EN = true ∧ d.is QRY.GCFG.READY = true ∧ b < 2 ^ (d.unitsLog - 2) ∧ j < 8 ∧
      tVALID t = true ∧ tSTATIC t = false ∧ tDYING t = false ∧ d.anyWaits (d.tagA h b j :: d.recRows (d.flowOf h u)) = false
    (h < 2) ∧ (sl < 8) ∧ (d.bad = []) ∧ (live) ∧ (¬ old)) ∧
    (let s : State := (wS (wBn (3 + 0x23 * 2 ^ 56) { QrySt.reset with dels := [{ wDel with id := 2, handle := 1 }, wDel] }))
    let h : Nat := 0
    let id : Nat := 3
    let a : Nat := wTagA
    let sl : Nat := 0
    let y : Del := wDel
    let d := s.dev
    let v0 := nthD (d.recOf y.handle) 0 0
    let next := d.qry.dels.find? (fun z => z.id == id && !z.started) = some y ∧ y.reason ≠ 3 ∧ y.cmp = none ∧ d.halfOn (flowHalf y.handle) = true ∧ d.anyWaits (d.recRows y.handle) = false
    (h < 2) ∧ (sl < 8) ∧ (d.bad = []) ∧ (next) ∧ (d.handleState y.handle = 0) ∧ (rLOGEND v0 = false) ∧ (d.tagOf (flowHalf y.handle) (flowUnit y.handle) = some a)) ∧
    (let s : State := (wS (wBn (3 + 0x100) { QrySt.reset with dels := [{ wDel with id := 2, handle := 1 }, wDel] }))
    let h : Nat := 0
    let id : Nat := 3
    let sl : Nat := 0
    let y : Del := wDel
    let d := s.dev
    let next := d.qry.dels.find? (fun z => z.id == id && !z.started) = some y ∧ y.reason ≠ 3 ∧ y.cmp = none ∧ d.halfOn (flowHalf y.handle) = true ∧ d.anyWaits (d.recRows y.handle) = false
    (h < 2) ∧ (sl < 8) ∧ (d.bad = []) ∧ (next) ∧ (d.handleState y.handle ≠ 0)) ∧
    (let s : State := (wS (wQd { wQl [{ wLn 0 with handle := wX, slice := 0 }] with dels := [{ wDel with started := true, waits := [0, 3] }] } []))
    let h : Nat := 0
    let id : Nat := 3
    let sl : Nat := 0
    let y : Del := { wDel with started := true, waits := [0, 3] }
    let d := s.dev
    (h < 2) ∧ (sl < 8) ∧ (d.bad = []) ∧ (d.delFor id sl = some y) ∧ (d.qry.dels.find? (fun z => z.id == id) = some y)) ∧
    (let s : State := (wS (wBn 0xF03 { QrySt.reset with dels := [{ wDel with started := true, handle := mkFlow wHf 15 7 }] }))
    let h : Nat := 0
    let id : Nat := 3
    let a : Nat := wTagA
    let sl : Nat := 0
    let y : Del := { wDel with started := true, handle := mkFlow wHf 15 7 }
    let d := s.dev
    let unit := d.unitA (flowHalf y.handle) (flowUnit y.handle)
    (h < 2) ∧ (sl < 8) ∧ (d.bad = []) ∧ (d.qry.dels.find? (fun y => y.id == id && y.started && y.waits.isEmpty) = some y) ∧ (d.tagOf (flowHalf y.handle) (flowUnit y.handle) = some a) ∧ (16 ≤ d.unitsLog) ∧ (d.rowGone unit = false) ∧ (rFULL (d.rd64 unit) = false)) := by
  refine ⟨?_, ?_, ?_, ?_, ?_, ?_⟩
  · dsimp only; decide +kernel
  · dsimp only; decide +kernel
  · dsimp only; decide +kernel
  · dsimp only; decide +kernel
  · dsimp only; decide +kernel
  · dsimp only; decide +kernel

theorem test_wit_QuarryCommands :
    (let s : State := (wS (wQc [] 3 QrySt.reset))
    let v : Nat := 0x1000
    let d := s.dev
    let k := (d.set QRY.CMD_CTL.KTYPE (bits v 15 12)).qryCmdKey
    let h1 := d.hash1 k
    let h2 := d.hash2 k
    let hf := h1 / 2 ^ 31
    let f := d.findTag hf h1 h2 k
    let may := d.reaches QRY.CMD_CTL.GO ∧ d.is QRY.CMD_CTL.DONE = true ∧ d.bad = [] ∧ v < 2 ^ 32
    (may) ∧ (f = none)) ∧
    (let s : State := (wS (wQc wQk 3 QrySt.reset))
    let v : Nat := 0x1000
    let a : Nat := wTagA
    let d := s.dev
    let k := (d.set QRY.CMD_CTL.KTYPE (bits v 15 12)).qryCmdKey
    let h1 := d.hash1 k
    let h2 := d.hash2 k
    let hf := h1 / 2 ^ 31
    let f := d.findTag hf h1 h2 k
    let may := d.reaches QRY.CMD_CTL.GO ∧ d.is QRY.CMD_CTL.DONE = true ∧ d.bad = [] ∧ v < 2 ^ 32
    let up := d.is QRY.GCFG.EN = true ∧ d.is QRY.GCFG.READY = true
    (may) ∧ (up) ∧ (f = some a) ∧ (d.handleState (d.flowOf hf (tINDEX (d.rd64 a))) = 0)) ∧
    (let s : State := (wS (wQc wQk 3 QrySt.reset))
    let v : Nat := 0x1000
    let a : Nat := wTagA
    let d := s.dev
    let k := (d.set QRY.CMD_CTL.KTYPE (bits v 15 12)).qryCmdKey
    let h1 := d.hash1 k
    let h2 := d.hash2 k
    let hf := h1 / 2 ^ 31
    let f := d.findTag hf h1 h2 k
    let may := d.reaches QRY.CMD_CTL.GO ∧ d.is QRY.CMD_CTL.DONE = true ∧ d.bad = [] ∧ v < 2 ^ 32
    let up := d.is QRY.GCFG.EN = true ∧ d.is QRY.GCFG.READY = true
    (may) ∧ (up) ∧ (f = some a)) ∧
    (let s : State := (wS (wQc [] 3 QrySt.reset))
    let v : Nat := 0x1000
    let d := s.dev
    let k := (d.set QRY.CMD_CTL.KTYPE (bits v 15 12)).qryCmdKey
    let h1 := d.hash1 k
    let h2 := d.hash2 k
    let hf := h1 / 2 ^ 31
    let f := d.findTag hf h1 h2 k
    let may := d.reaches QRY.CMD_CTL.GO ∧ d.is QRY.CMD_CTL.DONE = true ∧ d.bad = [] ∧ v < 2 ^ 32
    let up := d.is QRY.GCFG.EN = true ∧ d.is QRY.GCFG.READY = true
    (may) ∧ (up) ∧ (f = none) ∧ (sget d.qry.freeRings (2 * hf + 1) [] = []) ∧ (sget d.qry.freeRings (2 * hf) [] = [])) ∧
    (let s : State := (wS (wQc [] 3 { QrySt.reset with freeRings := [(0, [(40, 1)]), (2, [(40, 1)])] }))
    let v : Nat := 0x1000
    let e0 : Nat := 40
    let a : Nat := (((wQc [] 3 QrySt.reset).freeTag (((wQc [(QRY.CMD_CTL.KTYPE, 1)] 3 QrySt.reset).hash1 ((wQc [(QRY.CMD_CTL.KTYPE, 1)] 3 QrySt.reset).qryCmdKey)) / 2 ^ 31) ((wQc [] 3 QrySt.reset).buckets ((wQc [] 3 QrySt.reset).hash1 ((wQc [(QRY.CMD_CTL.KTYPE, 1)] 3 QrySt.reset).qryCmdKey)) ((wQc [] 3 QrySt.reset).hash2 ((wQc [(QRY.CMD_CTL.KTYPE, 1)] 3 QrySt.reset).qryCmdKey)))).getD 0)
    let d := s.dev
    let k := (d.set QRY.CMD_CTL.KTYPE (bits v 15 12)).qryCmdKey
    let h1 := d.hash1 k
    let h2 := d.hash2 k
    let hf := h1 / 2 ^ 31
    let f := d.findTag hf h1 h2 k
    let may := d.reaches QRY.CMD_CTL.GO ∧ d.is QRY.CMD_CTL.DONE = true ∧ d.bad = [] ∧ v < 2 ^ 32
    let up := d.is QRY.GCFG.EN = true ∧ d.is QRY.GCFG.READY = true
    (may) ∧ (up) ∧ (f = none) ∧ (bits v 4 4 = 0) ∧ (bits v 15 12 % 4 ≠ 2) ∧ (sget d.qry.freeRings (2 * hf) [] = [(e0, 1)]) ∧ (e0 < 2 ^ 27) ∧ (d.rowGone (d.unitA hf e0) = false) ∧ (d.freeTag hf (d.buckets h1 h2) = some a) ∧ (16 ≤ d.unitsLog) ∧ (h1 < 2 ^ 32) ∧ (h2 < 2 ^ 32)) ∧
    (let s : State := (wS (wQc [(QRY.CMD_DATA.W 4, 0x1234), (QRY.CMD_DATA.W 0, 0xC0000)] 3 QrySt.reset))
    let v : Nat := 0x1000
    let d := s.dev
    let x := d.get QRY.CMD_HANDLE.HANDLE
    let may := d.reaches QRY.CMD_CTL.GO ∧ d.is QRY.CMD_CTL.DONE = true ∧ d.bad = [] ∧ v < 2 ^ 32
    let up := d.is QRY.GCFG.EN = true ∧ d.is QRY.GCFG.READY = true
    let byHandle := up ∧ x ≠ noFlow ∧ d.handleState x = 0
    (may) ∧ (byHandle)) ∧
    (let s : State := (wS (wQc [(QRY.CMD_DATA.W 4, 0x1234), (QRY.CMD_DATA.W 0, 0xC0000)] 3 QrySt.reset))
    let v : Nat := 0x1000
    let d := s.dev
    let x := d.get QRY.CMD_HANDLE.HANDLE
    let may := d.reaches QRY.CMD_CTL.GO ∧ d.is QRY.CMD_CTL.DONE = true ∧ d.bad = [] ∧ v < 2 ^ 32
    let up := d.is QRY.GCFG.EN = true ∧ d.is QRY.GCFG.READY = true
    let byHandle := up ∧ x ≠ noFlow ∧ d.handleState x = 0
    (may) ∧ (byHandle) ∧ (d.qry.lines = [])) ∧
    (let s : State := (wS (wQc [] 3 { QrySt.reset with qryCmd := some { status := 3 } }))
    let c : HostCmd := { status := 3 }
    let d := s.dev
    (d.qry.qryCmd = some c) ∧ (d.flt.repairs = []) ∧ (c.waiting = false) ∧ (c.addr = 0) ∧ (c.status < 16)) ∧
    (let s : State := (wS (wQc [] 3 { QrySt.reset with qryCmd := some { waiting := true, addr := wX + 1 } }))
    let c : HostCmd := { waiting := true, addr := wX + 1 }
    let d := s.dev
    let x := d.get QRY.CMD_HANDLE.HANDLE
    (d.qry.qryCmd = some c) ∧ (d.flt.repairs = []) ∧ (c.waiting = true) ∧ (c.addr = x + 1) ∧ (d.qry.txns = [])) ∧
    (let s : State := (wS (wSet wDev [(QRY.GCFG.EN, 0), (QRY.SPLIT.SPLIT, 77)]))
    let v : Nat := 0x34
    let d := s.dev
    let u := bits v 4 0
    (d.reaches QRY.GCFG.UNITS_LOG2) ∧ (v < 2 ^ 32) ∧ (d.is QRY.GCFG.EN = false) ∧ (16 ≤ u) ∧ (u ≤ 27) ∧ (d.get QRY.SPLIT.SPLIT ≤ 2 ^ u) ∧ (bit v 5 = true)) ∧
    (let s : State := (wS (wQc [] 3 (wQl [wLn 0])))
    let v : Nat := 0x70034
    let d := s.dev
    (d.reaches QRY.GCFG.UNITS_LOG2) ∧ (v < 2 ^ 32) ∧ (d.is QRY.GCFG.EN = true) ∧ (bit v 5 = true)) ∧
    (let s : State := (wS (wQc [] 3 { wQl [wLn 0] with txns := [wT .commit], dels := [wDel] }))
    let v : Nat := 0x70014
    let d := s.dev
    (d.reaches QRY.GCFG.UNITS_LOG2) ∧ (v < 2 ^ 32) ∧ (d.is QRY.GCFG.EN = true) ∧ (bit v 5 = false) ∧ (d.qry.misses = [])) ∧
    (let s : State := (wS (wQc [(QRY.SPLIT.SPLIT, 77)] 3 { QrySt.reset with qryInit := true }))
    let h : Nat := 1
    let d := s.dev
    let n := 2 ^ d.unitsLog
    (h < 2) ∧ (d.qry.qryInit = true) ∧ (d.get (QRY.BENCH_BASE.GIB h) < 64) ∧ (n < 2 ^ 27) ∧ (0 < d.get QRY.SPLIT.SPLIT) ∧ (d.get QRY.SPLIT.SPLIT ≤ n)) ∧
    (let s : State := (wS (wQc [] 3 { QrySt.reset with qryCmd := some { waiting := true }, dels := [{ wDel with byHost := true }] }))
    let c : HostCmd := { waiting := true }
    let d := s.dev
    (d.qry.qryCmd = some c) ∧ (c.waiting = true) ∧ (c.addr = 0) ∧ (c.status < 16) ∧ (d.flt.repairs = [])) := by
  refine ⟨?_, ?_, ?_, ?_, ?_, ?_, ?_, ?_, ?_, ?_, ?_, ?_, ?_, ?_⟩
  · dsimp only [Dev.reaches]; decide +kernel
  · dsimp only [Dev.reaches]; decide +kernel
  · dsimp only [Dev.reaches]; decide +kernel
  · dsimp only [Dev.reaches]; decide +kernel
  · dsimp only [Dev.reaches]; decide +kernel
  · dsimp only [Dev.reaches]; decide +kernel
  · dsimp only [Dev.reaches]; decide +kernel
  · dsimp only; decide +kernel
  · dsimp only; decide +kernel
  · dsimp only [Dev.reaches]; decide +kernel
  · dsimp only [Dev.reaches]; decide +kernel
  · dsimp only [Dev.reaches]; decide +kernel
  · dsimp only; decide +kernel
  · dsimp only; decide +kernel

theorem test_wit_PatchCommands :
    (let s : State := (wS (wPat [(ENG.PATCH_CTL.DONE 3, 0)]))
    let c : Nat := 3
    let v : Nat := wGo
    let d := s.dev
    let go := d.reaches (ENG.PATCH_CTL.GO c) ∧ v < 2 ^ 36
    (c < 64) ∧ (go) ∧ (d.is (ENG.PATCH_CTL.DONE c) = false)) ∧
    (let s : State := (wS (wPat [(ENG.PATCH_CTL.DONE 3, 1), (GLB.PATCH_LOCK.LOCK, 1)]))
    let c : Nat := 3
    let v : Nat := wGo
    let d := s.dev
    let go := d.reaches (ENG.PATCH_CTL.GO c) ∧ v < 2 ^ 36
    (c < 64) ∧ (go) ∧ (d.is (ENG.PATCH_CTL.DONE c) = true) ∧ (d.is GLB.PATCH_LOCK.LOCK = true)) ∧
    (let s : State := (wS (wPat [(ENG.PATCH_CTL.DONE 3, 1)]))
    let c : Nat := 3
    let v : Nat := 0x900
    let d := s.dev
    let go := d.reaches (ENG.PATCH_CTL.GO c) ∧ v < 2 ^ 36
    (c < 64) ∧ (go) ∧ (d.is (ENG.PATCH_CTL.DONE c) = true) ∧ (d.is GLB.PATCH_LOCK.LOCK = false) ∧ (bits v 34 21 = 0)) ∧
    (let s : State := (wS (wPat [(ENG.PATCH_CTL.DONE 3, 1), (GLB.PART_CTL.RETIRING 11, 1)]))
    let c : Nat := 3
    let v : Nat := wGo
    let d := s.dev
    let go := d.reaches (ENG.PATCH_CTL.GO c) ∧ v < 2 ^ 36
    (c < 64) ∧ (go) ∧ (d.is (ENG.PATCH_CTL.DONE c) = true) ∧ (d.is GLB.PATCH_LOCK.LOCK = false) ∧ (d.is (GLB.PART_CTL.RETIRING (8 + c)) = true)) ∧
    (let s : State := (wS (wGiven { status := 4 }))
    let c : Nat := 3
    let k : HostCmd := { status := 4 }
    let d := s.dev
    let able := d.clusterOn c = true ∧ d.flt.repairs = []
    (c < 64) ∧ (able) ∧ (sget d.eng.patch c none = some k) ∧ (0 < k.status) ∧ (k.status < 16)) ∧
    (let s : State := (wS (wSegD [5, 6, 7, 8, 9, 10] { at_ := 1, data := [0, 2, 77, 0x3000, fcsOf (wSeg 2 [5, 6, 7, 8, 9, 10])] }))
    let c : Nat := 3
    let n : Nat := 2
    let dst : Nat := 77
    let src : Nat := 0x3000
    let crc : Nat := (fcsOf (wSeg 2 [5, 6, 7, 8, 9, 10]))
    let x : Nat := 1
    let k : HostCmd := { at_ := 1, data := [0, 2, 77, 0x3000, fcsOf (wSeg 2 [5, 6, 7, 8, 9, 10])] }
    let d := s.dev
    let runs := sget d.eng.patch c none = some k ∧ k.status = 0 ∧ d.bad = [] ∧ k.at_ = x ∧ x < 2
    let fresh := ∀ i, i < 8192 → d.lastingWord c x i = false
    let able := d.clusterOn c = true ∧ d.flt.repairs = []
    (c < 64) ∧ (able) ∧ (runs) ∧ (k.data = [0, n, dst, src, crc]) ∧ (dst + n ≤ 8192) ∧ (d.segCrcBad c src n crc = false) ∧ (d.segBad c src n = false) ∧ (fresh)) ∧
    (let s : State := (wS (wSegD [5, 6, 7, 8, 9, 10] { at_ := 1, data := [0, 2, 77, 0x3000, 99] }))
    let c : Nat := 3
    let n : Nat := 2
    let dst : Nat := 77
    let src : Nat := 0x3000
    let crc : Nat := 99
    let x : Nat := 1
    let k : HostCmd := { at_ := 1, data := [0, 2, 77, 0x3000, 99] }
    let d := s.dev
    let runs := sget d.eng.patch c none = some k ∧ k.status = 0 ∧ d.bad = [] ∧ k.at_ = x ∧ x < 2
    let able := d.clusterOn c = true ∧ d.flt.repairs = []
    (c < 64) ∧ (able) ∧ (runs) ∧ (k.data = [0, n, dst, src, crc]) ∧ (d.segCrcBad c src n crc = true)) ∧
    (let s : State := (wS (wSegD [5, 6, 7] { at_ := 1, data := [2, 1, 77, 0x3000, fcsOf (wSeg 1 [5, 6, 7])] }))
    let c : Nat := 3
    let dst : Nat := 77
    let src : Nat := 0x3000
    let crc : Nat := (fcsOf (wSeg 1 [5, 6, 7]))
    let x : Nat := 1
    let k : HostCmd := { at_ := 1, data := [2, 1, 77, 0x3000, fcsOf (wSeg 1 [5, 6, 7])] }
    let d := s.dev
    let runs := sget d.eng.patch c none = some k ∧ k.status = 0 ∧ d.bad = [] ∧ k.at_ = x ∧ x < 2
    let able := d.clusterOn c = true ∧ d.flt.repairs = []
    (c < 64) ∧ (able) ∧ (runs) ∧ (k.data = [2, 1, dst, src, crc]) ∧ (d.segCrcBad c src 1 crc = false) ∧ (d.segBad c src 1 = false) ∧ (ucodeFails (d.ucodeWord c x dst) = 0)) ∧
    (let s : State := (wS (wPut (wSegD [] { at_ := 1, data := [1, 0, 0, 0, 0] }) (ucodeA 3 0 0) [5, 6, 7]))
    let c : Nat := 3
    let x : Nat := 1
    let k : HostCmd := { at_ := 1, data := [1, 0, 0, 0, 0] }
    let d := s.dev
    let runs := sget d.eng.patch c none = some k ∧ k.status = 0 ∧ d.bad = [] ∧ k.at_ = x ∧ x < 2
    let fresh := ∀ i, i < 8192 → d.lastingWord c x i = false
    let able := d.clusterOn c = true ∧ d.flt.repairs = []
    (c < 64) ∧ (able) ∧ (runs) ∧ (nthD k.data 0 0 = 1) ∧ (Memory.wf d.mem = true) ∧ (fresh)) ∧
    (let s : State := (wS (wPat [(ENG.PATCH_CTL.DONE 3, 1)]))
    let c : Nat := 3
    let v : Nat := wGo
    let d := s.dev
    let go := d.reaches (ENG.PATCH_CTL.GO c) ∧ v < 2 ^ 36
    (c < 64) ∧ (go) ∧ (d.is (ENG.PATCH_CTL.DONE c) = true) ∧ (d.is GLB.PATCH_LOCK.LOCK = false) ∧ (1 ≤ bits v 34 21) ∧ (bits v 20 8 + bits v 34 21 ≤ 8192) ∧ (d.get (ENG.PATCH_SRC.OFFSET c) % 64 = 0) ∧ (bit v 35 = false) ∧ (d.is (GLB.PART_CTL.RETIRING (8 + c)) = false)) ∧
    (let s : State := (wS (wPat [(ENG.PATCH_CTL.DONE 3, 1)]))
    let c : Nat := 3
    let v : Nat := wGo
    let d := s.dev
    let go := d.reaches (ENG.PATCH_CTL.GO c) ∧ v < 2 ^ 36
    (c < 64) ∧ (go) ∧ (d.is (ENG.PATCH_CTL.DONE c) = true) ∧ (d.is GLB.PATCH_LOCK.LOCK = false) ∧ (d.is (GLB.PART_CTL.RETIRING (8 + c)) = false)) ∧
    (let s : State := (wS (wPat [(ENG.PATCH_CTL.DONE 3, 1)]))
    let c : Nat := 3
    let v : Nat := wGo
    let d := s.dev
    let go := d.reaches (ENG.PATCH_CTL.GO c) ∧ v < 2 ^ 36
    (c < 64) ∧ (go) ∧ (d.is (ENG.PATCH_CTL.DONE c) = true) ∧ (d.is GLB.PATCH_LOCK.LOCK = false) ∧ (1 ≤ bits v 34 21) ∧ (bits v 20 8 + bits v 34 21 ≤ 8192) ∧ (d.get (ENG.PATCH_SRC.OFFSET c) % 64 = 0)) := by
  refine ⟨?_, ?_, ?_, ?_, ?_, ?_, ?_, ?_, ?_, ?_, ?_, ?_⟩
  · dsimp only [Dev.reaches]; decide +kernel
  · dsimp only [Dev.reaches]; decide +kernel
  · dsimp only [Dev.reaches]; decide +kernel
  · dsimp only [Dev.reaches]; decide +kernel
  · dsimp only; decide +kernel
  · dsimp only; refine ⟨by decide, by decide +kernel, by decide +kernel, rfl, by decide, by decide +kernel, by decide +kernel, fun i _ => rfl⟩
  · dsimp only; decide +kernel
  · dsimp only; decide +kernel
  · dsimp only; refine ⟨by decide, by decide +kernel, by decide +kernel, rfl, by decide +kernel, fun i _ => rfl⟩
  · dsimp only [Dev.reaches]; decide +kernel
  · dsimp only [Dev.reaches]; decide +kernel
  · dsimp only [Dev.reaches]; decide +kernel

theorem test_wit_PoolsAndCommands :
    (let s : State := (wS (wPool1 []))
    let h : Nat := 1
    let v : Nat := 1
    let k : Nat := 0
    let d := s.dev
    (h < 2) ∧ (k < 8) ∧ (d.reaches (BPM.CTL.EN h)) ∧ (bit v 0 = true) ∧ (d.is (BPM.CTL.EN h) = false) ∧ (d.poolsOk h = true)) ∧
    (let s : State := (wS (wPool1 [(BPM.POOL_CFG.BASE 1 1, 2)]))
    let h : Nat := 1
    let v : Nat := 1
    let k : Nat := 0
    let d := s.dev
    (h < 2) ∧ (k < 8) ∧ (d.reaches (BPM.CTL.EN h)) ∧ (bit v 0 = true) ∧ (d.is (BPM.CTL.EN h) = false) ∧ (d.poolsOk h = false)) ∧
    (let s : State := (wS (wPool1 [(BPM.CTL.EN 1, 1), (BPM.CTL.READY 1, 1)]))
    let h : Nat := 1
    let v : Nat := 0
    let k : Nat := 0
    let d := s.dev
    let idle := (∀ i, i < 4 → d.is (SWC.CTL.EN (4 * h + i)) = false) ∧ ∀ i, i < 32 → d.is (ENG.CL_CTL.EN (32 * h + i)) = false
    (h < 2) ∧ (k < 8) ∧ (d.reaches (BPM.CTL.EN h)) ∧ (bit v 0 = false) ∧ (idle)) ∧
    (let s : State := (wS (wPool1 [(BPM.CTL.EN 1, 1)]))
    let h : Nat := 1
    let k : Nat := 1
    let d := s.dev
    (h < 2) ∧ (k < 8) ∧ (d.is (BPM.CTL.EN h) = true) ∧ (d.is (BPM.CTL.READY h) = false) ∧ ((∀ r ∈ d.flt.retired, ¬ (r.1 = 7 ∧ r.2 / 2 ^ 30 % 2 = h))) ∧ (d.is (BPM.POOL_CFG.EN h k) = true)) ∧
    (let s : State := (wS { wPool1 [(BPM.CTL.READY 1, 1)] with buf := { BufSt.reset with ring := [(9, [(0, 50), (90, 40)])], cache := [(9, [(7, 100)])] } })
    let h : Nat := 1
    let k : Nat := 1
    let d := s.dev
    (h < 2) ∧ (k < 8) ∧ (d.bad = []) ∧ (d.halfOn h = true) ∧ (d.flt.repairs = []) ∧ (d.is (BPM.CTL.READY h) = true) ∧ (runsLen (d.cacheOf h k) < 128) ∧ (runsLen (d.ringOf h k) ≠ 0)) ∧
    (let s : State := (wS (wRdy [] 0x305))
    let h : Nat := 1
    let k : Nat := 0
    let d := s.dev
    let y := d.get (BPM.CMD_HANDLE.HANDLE h)
    let go := d.reaches (BPM.CMD_CTL.GO h) ∧ d.is (BPM.CMD_CTL.DONE h) = true
    (h < 2) ∧ (k < 8) ∧ (go) ∧ (d.handleOk h y = true) ∧ (d.metaErr h y = false)) ∧
    (let s : State := (wS (wRdy [(BPM.CMD_HANDLE.HANDLE 1, 2 ^ 29 + 9)] 0x305))
    let h : Nat := 1
    let k : Nat := 0
    let d := s.dev
    let y := d.get (BPM.CMD_HANDLE.HANDLE h)
    let go := d.reaches (BPM.CMD_CTL.GO h) ∧ d.is (BPM.CMD_CTL.DONE h) = true
    (h < 2) ∧ (k < 8) ∧ (go) ∧ (d.handleOk h y = false)) ∧
    (let s : State := (wS (wRdy [] 0x305))
    let h : Nat := 1
    let k : Nat := 0
    let d := s.dev
    let y := d.get (BPM.CMD_HANDLE.HANDLE h)
    let go := d.reaches (BPM.CMD_CTL.GO h) ∧ d.is (BPM.CMD_CTL.DONE h) = true
    (h < 2) ∧ (k < 8) ∧ (go) ∧ (d.handleOk h y = true) ∧ (d.bad = []) ∧ ((∀ z ∈ d.buf.info, mQUAR z.2 = false ∧ metaBad z.2 = false))) ∧
    (let s : State := (wS { wDev with buf := { BufSt.reset with cmd := [(1, some { status := 2, data := [77] })] } })
    let h : Nat := 1
    let k : Nat := 0
    let x : Nat := 77
    let c : HostCmd := { status := 2, data := [77] }
    let d := s.dev
    (h < 2) ∧ (k < 8) ∧ (sget d.buf.cmd h none = some c) ∧ (c.data = [x]) ∧ (x < 2 ^ 32) ∧ (c.status < 16)) ∧
    (let s : State := (wS (wRdy [] (0x305 + 2 ^ 21)))
    let h : Nat := 1
    let k : Nat := 0
    let z : Nat := (2 ^ 29 + 8)
    let d := s.dev
    let y := d.get (BPM.CMD_HANDLE.HANDLE h)
    let go := d.reaches (BPM.CMD_CTL.GO h) ∧ d.is (BPM.CMD_CTL.DONE h) = true
    (h < 2) ∧ (k < 8) ∧ (go) ∧ (d.handleOk h y = true) ∧ (d.bad = []) ∧ (ssorted d.buf.info = true) ∧ (z < 2 ^ 32) ∧ (y ≤ z) ∧ (handlePool z = handlePool y) ∧ (d.handleOk h z = true) ∧ (mQUAR (d.binfo h z) = true) ∧ (d.metaErr h z = false) ∧ ((∀ i, y ≤ i → i < z → d.handleOk h i = true → mQUAR (d.binfo h i) = false ∧ d.metaErr h i = false))) ∧
    (let s : State := (wS (wOut (hbmLoc (wOut 0 |>.bufA 0 (wOut 0 |>.bufHandle 0 4 2) 0))))
    let h : Nat := 0
    let k : Nat := 4
    let l : Nat := (hbmLoc (wOut 0 |>.bufA 0 (wOut 0 |>.bufHandle 0 4 2) 0))
    let u : Nat := 2
    let d := s.dev
    let n := d.get (BPM.POOL_CFG.COUNT h k)
    (h < 2) ∧ (k < 8) ∧ (d.is (BPM.CTL.EN h) = true) ∧ (d.is (BPM.CTL.READY h) = false) ∧ (4 ≤ k) ∧ (d.is (BPM.POOL_CFG.EN h k) = true) ∧ ((7, l) ∈ d.flt.retired) ∧ (l / 2 ^ 30 % 2 = h) ∧ (u < n) ∧ (touchesRow l (d.bufA h (d.bufHandle h k u) 0) (poolSize k) = true) ∧ (d.handleOk h (d.bufHandle h k u) = true) ∧ (d.bufNo h (d.bufHandle h k u) = u) ∧ (d.bufHandle h k u < 2 ^ 32)) := by
  refine ⟨?_, ?_, ?_, ?_, ?_, ?_, ?_, ?_, ?_, ?_, ?_⟩
  · dsimp only [Dev.reaches]; decide +kernel
  · dsimp only [Dev.reaches]; decide +kernel
  · dsimp only [Dev.reaches]; decide +kernel
  · dsimp only; decide +kernel
  · dsimp only; decide +kernel
  · dsimp only [Dev.reaches]; decide +kernel
  · dsimp only [Dev.reaches]; decide +kernel
  · dsimp only [Dev.reaches]; decide +kernel
  · dsimp only; decide +kernel
  · intro s h k z d y go; have hy : y = z := by decide +kernel
    exact ⟨by decide, by decide, by dsimp only [go, Dev.reaches, Dev.inWord]; decide +kernel, by decide +kernel, by decide +kernel, by decide +kernel, by decide, by decide +kernel, by decide +kernel, by decide +kernel, by decide +kernel, by decide +kernel, fun i h1 h2 => absurd h2 (by omega)⟩
  · intro s h k l u d n
    have hb : d.bufA h (d.bufHandle h k u) 0 = (wOut 0).bufA 0 ((wOut 0).bufHandle 0 4 2) 0 := by decide +kernel
    refine ⟨by decide, by decide, by decide +kernel, by decide +kernel, by decide, by decide +kernel, List.mem_cons_self .., ?_, by decide +kernel, ?_, by decide +kernel, by decide +kernel, by decide +kernel⟩
    · have ha : (wOut 0).bufA 0 ((wOut 0).bufHandle 0 4 2) 0 / 0x1000000000 % 2 = 0 := by decide +kernel
      show hbmLoc _ / 2 ^ 30 % 2 = 0
      simp only [hbmLoc, ha]; omega
    · rw [hb]; simp [touchesRow, l]; exact ⟨0, by decide +kernel, congrArg hbmLoc (by decide +kernel)⟩

theorem test_wit_ReleaseQ :
    (let s : State := (wS (wRdy [] (0x305 + 2 ^ 23)))
    let h : Nat := 1
    let d := s.dev
    let y := d.get (BPM.CMD_HANDLE.HANDLE h)
    let w := d.binfo h y
    let go := d.reaches (BPM.CMD_CTL.GO h) ∧ d.is (BPM.CMD_CTL.DONE h) = true
    (h < 2) ∧ (go) ∧ (d.handleOk h y = true) ∧ (d.metaErr h y = false) ∧ (mRETIRED w = true)) ∧
    (let s : State := (wS (wRdy [] (0x305 + 2 ^ 21)))
    let h : Nat := 1
    let d := s.dev
    let y := d.get (BPM.CMD_HANDLE.HANDLE h)
    let w := d.binfo h y
    let go := d.reaches (BPM.CMD_CTL.GO h) ∧ d.is (BPM.CMD_CTL.DONE h) = true
    (h < 2) ∧ (go) ∧ (d.handleOk h y = true) ∧ (d.metaErr h y = false) ∧ (mRETIRED w = false) ∧ (mPARKED w = false)) ∧
    (let s : State := (wS (wRdy [] (0x305 + 2 ^ 21 + 2 ^ 22)))
    let h : Nat := 1
    let d := s.dev
    let y := d.get (BPM.CMD_HANDLE.HANDLE h)
    let w := d.binfo h y
    let go := d.reaches (BPM.CMD_CTL.GO h) ∧ d.is (BPM.CMD_CTL.DONE h) = true
    (h < 2) ∧ (go) ∧ (d.handleOk h y = true) ∧ (d.metaErr h y = false) ∧ (mRETIRED w = false) ∧ (mPARKED w = true)) := by
  refine ⟨?_, ?_, ?_⟩
  · dsimp only [Dev.reaches]; decide +kernel
  · dsimp only [Dev.reaches]; decide +kernel
  · dsimp only [Dev.reaches]; decide +kernel

theorem test_wit_Admission :
    (let s : State := (wS (wAdm (wA (.port 0)) [(SWC.QUEUE_CFG.QLIMIT 0 5, 0)]))
    let p : Nat := 0
    let a : Adm := (wA (.port 0))
    let d := s.dev
    let q := a.queue
    (plainAdm d a p) ∧ (a.dest = .port p) ∧ (ownBufs d a.pkt) ∧ ((d.portExists p = false ∨ d.admitCheck a p q ≠ 0))) ∧
    (let s : State := (wS (wAdm (wA (.port 0)) []))
    let p : Nat := 0
    let a : Adm := (wA (.port 0))
    let d := s.dev
    let q := a.queue
    let onDie := (d.queue p q).spill = false ∧ d.get (SWC.QUEUE_SPILL.SPILL_THR p q) = 0x7FFFF
    (plainAdm d a p) ∧ (a.dest = .port p) ∧ (d.portExists p = true) ∧ (d.admitCheck a p q = 0) ∧ (a.srcHalf = portHalf p) ∧ (onDie) ∧ (d.get (qCntF a.srcHalf p q) + a.pkt.cells < 2 ^ 24)) ∧
    (let s : State := (wS (wAdm { wA (.port 0) with srcHalf := 1, slice := 4 } []))
    let p : Nat := 0
    let a : Adm := { wA (.port 0) with srcHalf := 1, slice := 4 }
    let d := s.dev
    let q := a.queue
    (plainAdm d a p) ∧ (a.dest = .port p) ∧ (d.portExists p = true) ∧ (d.admitCheck a p q = 0) ∧ (a.srcHalf ≠ portHalf p)) ∧
    (let s : State := (wS (wGrp 0 (wAdmB (wAb (.group 4)) wGb)))
    let p : Nat := 0
    let g : Nat := 4
    let a : Adm := (wAb (.group 4))
    let d := s.dev
    let w4 := d.rd64 (d.groupA a.srcHalf g 4)
    (plainAdm d a p) ∧ (a.dest = .group g) ∧ (ownBufs d a.pkt) ∧ (bit w4 0 = false)) ∧
    (let s : State := (wS (wGrp 1 (wAdmB (wAb (.group 4)) wGb)))
    let p : Nat := 0
    let g : Nat := 4
    let a : Adm := (wAb (.group 4))
    let d := s.dev
    let q := a.queue
    let onDie := (d.queue p q).spill = false ∧ d.get (SWC.QUEUE_SPILL.SPILL_THR p q) = 0x7FFFF
    let w4 := d.rd64 (d.groupA a.srcHalf g 4)
    let single := a.dest = .group g ∧ ownBufs d a.pkt ∧ a.srcHalf = a.pkt.bufSlice / 4 ∧ d.swc.crosses = [] ∧ bit w4 0 = true ∧ bit w4 1 = false ∧ bit w4 2 = false ∧
      d.members a.srcHalf g = [p] ∧ d.portExists p = true ∧ d.admitCheck a p q = 0
    (plainAdm d a p) ∧ (single) ∧ (portHalf p = a.srcHalf) ∧ (onDie)) ∧
    (let s : State := (wS (wGrp1 (wAdmB wAb1 wGb)))
    let p : Nat := 0
    let g : Nat := 4
    let a : Adm := wAb1
    let d := s.dev
    let q := a.queue
    let w4 := d.rd64 (d.groupA a.srcHalf g 4)
    let single := a.dest = .group g ∧ ownBufs d a.pkt ∧ a.srcHalf = a.pkt.bufSlice / 4 ∧ d.swc.crosses = [] ∧ bit w4 0 = true ∧ bit w4 1 = false ∧ bit w4 2 = false ∧
      d.members a.srcHalf g = [p] ∧ d.portExists p = true ∧ d.admitCheck a p q = 0
    (plainAdm d a p) ∧ (single) ∧ (portHalf p ≠ a.srcHalf)) := by
  refine ⟨?_, ?_, ?_, ?_, ?_, ?_⟩
  · dsimp only [ownBufs, plainAdm]; decide +kernel
  · dsimp only [plainAdm]; decide +kernel
  · dsimp only [plainAdm]; decide +kernel
  · dsimp only [ownBufs, plainAdm]; decide +kernel
  · dsimp only [ownBufs, plainAdm]; decide +kernel
  · dsimp only [ownBufs, plainAdm]; decide +kernel

theorem test_wit_StrictPriority :
    (let d : Dev := (wSch wLv)
    let e : Dev := (wNext (wSch wLv))
    let p : Nat := 0
    let q : Nat := 2
    let j : Nat := 3
    ((∀ i, i < 16 → d.get (SWC.QUEUE_CFG.LEVEL p i) ≤ 3)) ∧ (d.schedule p = some (q, e)) ∧ (j < 16) ∧ (d.eligible p j = true)) := by
  · dsimp only; (repeat' apply And.intro) <;> first | decide +kernel | exact rfl

theorem test_wit_Leaving :
    (let s : State := (wS (wSch wLv))
    let p : Nat := 0
    let q : Nat := 2
    let x : QEnt := (wQE 1)
    let xs : List QEnt := [wQE 2]
    let d1 : Dev := (wNext (wSch wLv))
    let d := s.dev
    let clean := ∀ j, j < 16 → ∀ z, (d.queue p j).ents.head? = some z → z.flush = false ∧ z.pkt.bad = false ∧ z.pkt.lateBad = false ∧ d.aged p j z = false
    let ready := d.portOn p = true ∧ d.linkUp p = true ∧ d.portExists p = true ∧ d.is (SWC.PORT_CFG.EN p) = true ∧ d.is (MAC.PORT_CFG.TX_EN p) = true ∧ sget d.mac.tx p none = none
    (p < 265) ∧ (q < 16) ∧ (clean) ∧ (ready) ∧ (d.get (SWC.PORT_SHAPE.RATE p) = 0) ∧ (sget d.tmu.buoys p [] = []) ∧ (d.schedule p = some (q, d1)) ∧ ((d.queue p q).ents = x :: xs)) ∧
    (let s : State := (wS (wSet (wSch wLv) [(MAC.PORT_STAT.LINK 0, 0)]))
    let p : Nat := 0
    let q : Nat := 2
    let d := s.dev
    let clean := ∀ j, j < 16 → ∀ z, (d.queue p j).ents.head? = some z → z.flush = false ∧ z.pkt.bad = false ∧ z.pkt.lateBad = false ∧ d.aged p j z = false
    let ready := d.portOn p = true ∧ d.linkUp p = true ∧ d.portExists p = true ∧ d.is (SWC.PORT_CFG.EN p) = true ∧ d.is (MAC.PORT_CFG.TX_EN p) = true ∧ sget d.mac.tx p none = none
    (p < 265) ∧ (q < 16) ∧ (clean) ∧ (¬ ready)) ∧
    (let s : State := (wS (wSwc { SwcSt.reset with credits := [wCd] } []))
    let p : Nat := 0
    let q : Nat := 2
    let k : Credit := wCd
    let d := s.dev
    (p < 265) ∧ (q < 16) ∧ (d.swc.credits = [k]) ∧ ((d.laneGroup 0).isSome = true) ∧ (k.inGroup = true)) ∧
    (let s : State := (wS (wBuf (wSwc { SwcSt.reset with crosses := [wCr1] } wGb)))
    let p : Nat := 0
    let q : Nat := 2
    let y : QEnt := { wQE 2 with srcHalf := 1 }
    let c : Cross := wCr1
    let d := s.dev
    (p < 265) ∧ (q < 16) ∧ (d.swc.crosses = [c]) ∧ (d.swc.grants = []) ∧ (c.lost = true) ∧ (c.needRef = []) ∧ (c.ents = [(p, y)]) ∧ (y.q = q) ∧ (y.srcHalf < 2) ∧ (y.srcHalf ≠ portHalf p) ∧ (ownBufs d c.pkt)) ∧
    (let s : State := (wS wS1)
    let p : Nat := 0
    let q : Nat := 2
    let y : QEnt := (wQE 1)
    let c : Cross := wC1
    let bs : List Nat := (((Dev.freeBufs { wS1 with swc.crosses := [] } wC1.pkt).takeCells 0 1 []).1.getD [])
    let d := s.dev
    let d0 := Dev.freeBufs { d with swc.crosses := [] } c.pkt
    (p < 265) ∧ (q < 16) ∧ (d.swc.crosses = [c]) ∧ (c.lost = false) ∧ (c.ents = [(p, y)]) ∧ (c.resid = []) ∧ (c.needRef = []) ∧ (c.group = none) ∧ (y.q = q) ∧ (c.pkt.bufSlice < 8) ∧ ((d.queue p q).spill = false) ∧ (d.get (SWC.QUEUE_SPILL.SPILL_THR p q) = 0x7FFFF) ∧ ((d0.takeCells (portSlice p) c.pkt.cells []).1 = some bs)) ∧
    (let s : State := (wS (wSwc { SwcSt.reset with queues := [(2, { ents := [wQE 1, { wQE 2 with spilled := true }, { wQE 3 with spilled := true }] })] } []))
    let p : Nat := 0
    let q : Nat := 2
    let x : QEnt := { wQE 2 with spilled := true }
    let d := s.dev
    (p < 265) ∧ (q < 16) ∧ (d.flt.repairs = []) ∧ (nextRead (d.queue p q) = some x) ∧ (readAheadBytes (d.queue p q) + x.pkt.frameLen ≤ 65536)) := by
  refine ⟨?_, ?_, ?_, ?_, ?_, ?_⟩
  · dsimp only; (repeat' apply And.intro) <;> first | decide +kernel | exact rfl
  · dsimp only; (repeat' apply And.intro) <;> first | decide +kernel | exact rfl
  · dsimp only; (repeat' apply And.intro) <;> first | decide +kernel | exact rfl
  · dsimp only [ownBufs]; (repeat' apply And.intro) <;> first | decide +kernel | exact rfl
  · exact ⟨by decide, by decide, rfl, rfl, rfl, rfl, rfl, rfl, rfl, by decide +revert +kernel, by decide +revert +kernel, by decide +revert +kernel, wSome (o := ((Dev.freeBufs { wS1 with swc.crosses := [] } wC1.pkt).takeCells 0 1 []).1) (by decide +kernel)⟩
  · dsimp only; decide +kernel

theorem test_wit_HoldsAndPauses :
    (let s : State := (wS { wBuf (wSwc { SwcSt.reset with residues := [wResB 5] } wGb) with tick := 9 })
    let h : Nat := 1
    let q : Nat := 0
    let r : Residue := (wResB 5)
    let d := s.dev
    (h < 2) ∧ (q < 16) ∧ (d.swc.residues = [r]) ∧ (r.half = h) ∧ (d.portOn r.port = true) ∧ (r.due ≤ d.tick) ∧ (ownBufs d r.adm.pkt)) ∧
    (let s : State := (wS { wSwc { SwcSt.reset with residues := [wRes 5] } [] with tick := 4 })
    let h : Nat := 1
    let q : Nat := 0
    let r : Residue := (wRes 5)
    let d := s.dev
    (h < 2) ∧ (q < 16) ∧ (d.swc.residues = [r]) ∧ (r.half = h) ∧ (d.tick < r.due) ∧ (d.admitCheck r.adm r.port r.adm.queue ≠ 0)) ∧
    (let s : State := (wS { wSet (wSch []) [(SWC.PORT_STAT.HOLDING 0, 1), (SWC.PORT_CFG.DOWN_HOLD 0, 1)] with tick := 10000000 })
    let h : Nat := 0
    let p : Nat := 0
    let q : Nat := 0
    let d := s.dev
    (h < 2) ∧ (q < 16) ∧ (p < 265) ∧ (d.portOn p = true) ∧ (d.is (SWC.PORT_STAT.HOLDING p) = true) ∧ (sget d.swc.downAt p 0 + d.get (SWC.PORT_CFG.DOWN_HOLD p) * 1000000 ≤ d.tick)) ∧
    (let s : State := (wS { wSet (wSch []) [(SWC.QUEUE_SPILL.MAX_RES 0 3, 1)] with tick := 10000000 })
    let h : Nat := 0
    let p : Nat := 0
    let q : Nat := 3
    let x : QEnt := (wQE 3)
    let d := s.dev
    (h < 2) ∧ (q < 16) ∧ (p < 265) ∧ (d.portOn p = true) ∧ ((d.queue p q).ents = [x]) ∧ (d.aged p q x = true)) ∧
    (let s : State := (wS { wSet (wSch []) [(SWC.QUEUE_SPILL.MAX_RES 0 3, 0)] with tick := 10000000 })
    let h : Nat := 0
    let p : Nat := 0
    let q : Nat := 3
    let x : QEnt := (wQE 3)
    let d := s.dev
    (h < 2) ∧ (q < 16) ∧ (p < 265) ∧ ((d.queue p q).ents = [x]) ∧ (d.aged p q x = false)) ∧
    (let s : State := (wS { wSwc { SwcSt.reset with paused := [(8, 100)] } [] with tick := 99 })
    let h : Nat := 0
    let p : Nat := 0
    let q : Nat := 0
    let k : Nat := 8
    let d := s.dev
    let on := sget d.swc.paused (9 * p + k) 0
    (h < 2) ∧ (q < 16) ∧ (k ≤ 8) ∧ (d.portOn p = true) ∧ (on ≠ 0) ∧ (on ≤ d.tick + 1)) ∧
    (let s : State := (wS { wSwc { SwcSt.reset with pauseReq := [(1, 2, false)], grpXoff := [(3, 1)] } [(MAC.PORT_CFG.PAUSE_MODE 0, 1), (SWC.PG.PAUSE_EN 0 3, 1)] with tick := 99999999 })
    let h : Nat := 0
    let p : Nat := 0
    let q : Nat := 0
    let k : Nat := 8
    let d := s.dev
    let due := d.priOn p k = true ∧ ((d.get (MAC.PORT_CFG.PAUSE_MODE p) = 1 ∧ k = 8) ∨ (d.get (MAC.PORT_CFG.PAUSE_MODE p) = 2 ∧ k < 8)) ∧
      sget d.swc.pauseAt (9 * p + k) 0 + 16777216 / max 1 (d.portGbps p) ≤ d.tick
    (h < 2) ∧ (q < 16) ∧ (p ≤ 256) ∧ (due)) := by
  refine ⟨?_, ?_, ?_, ?_, ?_, ?_, ?_⟩
  · dsimp only [ownBufs]; decide +kernel
  · dsimp only; decide +kernel
  · dsimp only; decide +kernel
  · dsimp only; decide +kernel
  · dsimp only; decide +kernel
  · dsimp only; decide +kernel
  · dsimp only; decide +kernel

theorem test_wit_RetriesAndTracker :
    (let s : State := (wS (wFlt { FltSt.reset with d2dTry := [(3, ⟨16, 5, 0, 0⟩)] } []))
    let g : Nat := 3
    let x : Nat := 5
    let k : Nat := 0
    let d := s.dev
    let tried := d.d2dTry g
    (g < 16) ∧ (k < 4) ∧ (bit (d.get (SWC.HALF_STAT.GROUP_FAIL 0)) g = false) ∧ (tried.n = 16) ∧ (tried.loc = x) ∧ ((tried.endAt = 0 ∨ d.tick < tried.endAt))) ∧
    (let s : State := (wS { wFlt FltSt.reset [(GLB.FLT_CFG.THRESH 8, 3)] with tick := 9 })
    let g : Nat := 3
    let k : Nat := 0
    let d := s.dev
    let tried := d.d2dTry g
    (g < 16) ∧ (k < 4) ∧ (bit (d.get (SWC.HALF_STAT.GROUP_FAIL 0)) g = false) ∧ (tried.n = 0) ∧ (d.flt.tracks = []) ∧ (d.flt.retired = []) ∧ (1 < d.get (GLB.FLT_CFG.THRESH 8))) ∧
    (let s : State := (wS { wFlt { FltSt.reset with d2dTry := [(2, ⟨17, 5, 0, 0⟩)] } [] with swc := { SwcSt.reset with crosses := [wCg] } })
    let g : Nat := 2
    let k : Nat := 0
    let c : Cross := wCg
    let d := s.dev
    let tried := d.d2dTry g
    (g < 16) ∧ (k < 4) ∧ (tried.n = 17) ∧ (bit (d.get (SWC.HALF_STAT.GROUP_FAIL 0)) g = false) ∧ (d.swc.crosses = [c]) ∧ (c.laneGroup = g) ∧ ((∃ j, j < 16 ∧ j ≠ g ∧ bit (d.get (SWC.HALF_STAT.GROUP_FAIL 0)) j = false))) ∧
    (let s : State := (wS { wFlt { FltSt.reset with hbmTry := [(locStack (hbmLoc 64), ⟨7, 64, 3, 0⟩)] } [] with tick := 1999 })
    let g : Nat := 0
    let k : Nat := (locStack (hbmLoc 64))
    let a : Nat := 64
    let d := s.dev
    let t := d.hbmTry k
    (g < 16) ∧ (k < 4) ∧ (a < 0x2000000000) ∧ (locStack (hbmLoc a) = k) ∧ (t.n < 8) ∧ (t.n ≠ 0) ∧ (t.loc = a) ∧ (t.endAt = 0) ∧ (d.tick < t.t0 + 2000)) ∧
    (let s : State := (wS { wFlt { FltSt.reset with hbmTry := [(locStack (hbmLoc 64), ⟨8, 64, 3, 0⟩)] } [] with tick := 1999 })
    let g : Nat := 0
    let k : Nat := (locStack (hbmLoc 64))
    let a : Nat := 64
    let d := s.dev
    let t := d.hbmTry k
    (g < 16) ∧ (k < 4) ∧ (a < 0x2000000000) ∧ (locStack (hbmLoc a) = k) ∧ (t.n = 8) ∧ (t.loc = a) ∧ (t.endAt = 0) ∧ (d.tick < t.t0 + 2000)) ∧
    (let s : State := (wS (wFlt { FltSt.reset with hbmTry := [(3, ⟨8, 0x1000000044, 3, 0⟩)] } []))
    let g : Nat := 0
    let k : Nat := 3
    let d := s.dev
    let t := d.hbmTry k
    (g < 16) ∧ (k < 4) ∧ (t.n = 8) ∧ (d.halfOn (k / 2) = true)) ∧
    (let s : State := (wS (wFlt { FltSt.reset with repairs := [9, 2 ^ 30 + 7] } []))
    let g : Nat := 0
    let k : Nat := 0
    let l : Nat := (2 ^ 30 + 7)
    let d := s.dev
    (g < 16) ∧ (k < 4) ∧ (l ∈ d.flt.repairs) ∧ (d.halfOn (l / 2 ^ 30 % 2) = true) ∧ (d.flt.posted = [])) ∧
    (let s : State := (wS { wFlt { FltSt.reset with tracks := [⟨1, 2, 0, 3⟩, ⟨4, 5, 9, 3⟩] } [] with tick := 10 ^ 14 })
    let g : Nat := 0
    let k : Nat := 0
    let cls : Nat := 4
    let loc : Nat := 5
    let y : Track := ⟨4, 5, 9, 3⟩
    let d := s.dev
    (g < 16) ∧ (k < 4) ∧ (y ∈ d.flt.tracks) ∧ (y.cls = cls) ∧ (y.loc = loc) ∧ (d.trackOver y = true)) ∧
    (let s : State := (wS (wFlt { FltSt.reset with repairs := [2 ^ 30 + 7], posted := [⟨hbmA 1 64, false, [1, 2, 3], 0⟩] } []))
    let g : Nat := 0
    let k : Nat := 0
    let a : Nat := (hbmA 1 64)
    let l : Nat := (2 ^ 30 + 7)
    let bs : List Byte := [1, 2, 3]
    let d := s.dev
    (g < 16) ∧ (k < 4) ∧ (d.flt.repairs = [l]) ∧ (d.halfOn (l / 2 ^ 30 % 2) = true) ∧ (d.flt.posted = [⟨a, false, bs, 0⟩])) := by
  refine ⟨?_, ?_, ?_, ?_, ?_, ?_, ?_, ?_, ?_⟩
  · dsimp only; decide +kernel
  · dsimp only; decide +kernel
  · dsimp only; decide +kernel
  · intro s g k a d t; have ht : t = ⟨7, 64, 3, 0⟩ := by simp [t, d, s, k, Dev.hbmTry, wS, wFlt, sget]
    rw [ht]; exact ⟨by decide, by simp only [k, locStack]; omega, by decide, rfl, by decide, by decide, rfl, rfl, by decide⟩
  · intro s g k a d t; have ht : t = ⟨8, 64, 3, 0⟩ := by simp [t, d, s, k, Dev.hbmTry, wS, wFlt, sget]
    rw [ht]; exact ⟨by decide, by simp only [k, locStack]; omega, by decide, rfl, rfl, rfl, rfl, by decide⟩
  · dsimp only; decide +kernel
  · dsimp only; decide +kernel
  · dsimp only; decide +kernel
  · dsimp only; decide +kernel

theorem test_wit_OverflowReadLost :
    (let s : State := (wS { wSwc { SwcSt.reset with queues := [(2, { ents := [wQE 1, { wQE 2 with spilled := true }] })] } [(SWC.QCNT.V 0 2 6, 2 ^ 40 - 1)] with flt := { FltSt.reset with hbmTry := [(1, ⟨8, 64, 3, 0⟩)] } })
    let k : Nat := 1
    let p : Nat := 0
    let q : Nat := 2
    let x : QEnt := (wQE 1)
    let r : QEnt := { wQE 2 with spilled := true }
    let xs : List QEnt := [{ wQE 2 with spilled := true }]
    let d := s.dev
    (k < 4) ∧ (p < 265) ∧ (q < 16) ∧ (d.halfOn (k / 2) = true) ∧ ((d.hbmTry k).n = 8) ∧ ((d.queue p q).ents = x :: xs) ∧ (nextRead (d.queue p q) = some r)) := by
  · dsimp only; decide +kernel

theorem test_wit_PersistentStore :
    (let s : State := (wS (wPut (wFlt { FltSt.reset with mapQ := [wM, wM] } wHu) (mapA 0 0) [1, 2 ^ 63, 5, 2 ^ 63]))
    let i : Nat := 2
    let m : MapW := wM
    let rest : List MapW := [wM]
    let d := s.dev
    let may := d.get GLB.HU_CFG.MODE = 2 ∧ d.flt.pwrFail = false
    (d.flt.mapQ = m :: rest) ∧ (m.deferAt = 0) ∧ (m.slot = none) ∧ (may) ∧ (d.mapFree 65536 0 = some i)) ∧
    (let s : State := (wS (wPut (wFlt { FltSt.reset with mapQ := [{ wM with slot := some 0x1000 }, wM] } wHu) (mapA 0 0) [1, 2 ^ 63, 5, 2 ^ 63]))
    let i : Nat := 0x1000
    let m : MapW := { wM with slot := some 0x1000 }
    let rest : List MapW := [wM]
    let d := s.dev
    let may := d.get GLB.HU_CFG.MODE = 2 ∧ d.flt.pwrFail = false
    (d.flt.mapQ = m :: rest) ∧ (m.deferAt = 0) ∧ (m.slot = some i) ∧ (0x1000 ≤ i) ∧ (i < 0x101000) ∧ (may)) ∧
    (let s : State := (wS { wFlt { FltSt.reset with mapQ := [wM, wM] } [(GLB.HU_CFG.MODE, 0)] with tick := 5 })
    let m : MapW := wM
    let rest : List MapW := [wM]
    let d := s.dev
    (d.flt.mapQ = m :: rest) ∧ (m.deferAt = 0) ∧ (d.get GLB.HU_CFG.MODE = 0)) ∧
    (let s : State := (wS (wPut (wFlt FltSt.reset (wHu ++ [(NVS.PS_ADDR.WORD, 0x900003)])) (psA 0x900000) [77]))
    let d := s.dev
    let o := d.psOff
    let go := d.reaches NVS.PS_CTL.GO ∧ d.is NVS.PS_CTL.DONE = true
    (go) ∧ (d.badAt (psA o) ≠ 2)) ∧
    (let s : State := (wS { wFlt FltSt.reset (wHu ++ [(NVS.PS_ADDR.WORD, 0x900003)]) with bad := [(psA 0x900000, 2)] })
    let d := s.dev
    let o := d.psOff
    let go := d.reaches NVS.PS_CTL.GO ∧ d.is NVS.PS_CTL.DONE = true
    (go) ∧ (d.badAt (psA o) = 2)) ∧
    (let s : State := (wS (wFlt FltSt.reset (wHu ++ [(NVS.PS_ADDR.WORD, 0x7FFFFF)])))
    let d := s.dev
    let o := d.psOff
    let go := d.reaches NVS.PS_CTL.GO ∧ d.is NVS.PS_CTL.DONE = true
    (go) ∧ (o < 0x800000)) ∧
    (let s : State := (wS (wFlt FltSt.reset (wHu ++ [(NVS.PS_ADDR.WORD, 0x800001), (NVS.PS_DATA.DATA, 99)])))
    let d := s.dev
    let o := d.psOff
    let may := d.get GLB.HU_CFG.MODE = 2 ∧ d.flt.pwrFail = false
    let go := d.reaches NVS.PS_CTL.GO ∧ d.is NVS.PS_CTL.DONE = true
    (go) ∧ (0x800000 ≤ o) ∧ (may)) ∧
    (let s : State := (wS { wFlt FltSt.reset (wHu ++ [(NVS.PS_ADDR.WORD, 3)]) with bad := [(mapA 3 1, 2)] })
    let d := s.dev
    let ix := d.get NVS.PS_ADDR.WORD % 65536
    let w1 := d.badAt (mapA ix 1)
    let go := d.reaches NVS.PS_CTL.GO ∧ d.is NVS.PS_CTL.DONE = true
    (go) ∧ (w1 = 2)) ∧
    (let s : State := (wS (wFlt FltSt.reset (wHu ++ [(NVS.PS_ADDR.WORD, 3)])))
    let d := s.dev
    let ix := d.get NVS.PS_ADDR.WORD % 65536
    let w1 := d.badAt (mapA ix 1)
    let go := d.reaches NVS.PS_CTL.GO ∧ d.is NVS.PS_CTL.DONE = true
    (go) ∧ (w1 ≠ 2) ∧ (d.mapValid ix = false)) ∧
    (let s : State := (wS (wPut (wFlt FltSt.reset (wHu ++ [(NVS.PS_ADDR.WORD, 3)])) (mapA 3 0) [1, 2 ^ 63 + 9]))
    let d := s.dev
    let ix := d.get NVS.PS_ADDR.WORD % 65536
    let w1 := d.badAt (mapA ix 1)
    let may := d.get GLB.HU_CFG.MODE = 2 ∧ d.flt.pwrFail = false
    let go := d.reaches NVS.PS_CTL.GO ∧ d.is NVS.PS_CTL.DONE = true
    (go) ∧ (w1 ≠ 2) ∧ (d.mapValid ix = true) ∧ (may)) ∧
    (let s : State := (wS (wFlt { FltSt.reset with psCmd := some { status := 3 } } []))
    let c : HostCmd := { status := 3 }
    let d := s.dev
    (d.flt.psCmd = some c) ∧ (c.waiting = false) ∧ (0 < c.status) ∧ (c.status < 16)) ∧
    (let s : State := (wS (wFlt { FltSt.reset with psCmd := some { data := [0x900000, 88] } } []))
    let i : Nat := 0x900000
    let v : Nat := 88
    let c : HostCmd := { data := [0x900000, 88] }
    let d := s.dev
    (d.flt.psCmd = some c) ∧ (c.waiting = false) ∧ (c.status = 0) ∧ (c.addr = 0) ∧ (c.data = [i, v]) ∧ (v < 2 ^ 64)) ∧
    (let s : State := (wS (wFlt { FltSt.reset with psCmd := some { addr := 1, data := [0x900000, 88] } } []))
    let i : Nat := 0x900000
    let v : Nat := 88
    let c : HostCmd := { addr := 1, data := [0x900000, 88] }
    let d := s.dev
    (d.flt.psCmd = some c) ∧ (c.waiting = false) ∧ (c.status = 0) ∧ (c.addr ≠ 0) ∧ (c.data = [i, v])) ∧
    (let s : State := (wS { wFlt { FltSt.reset with psCmd := some { waiting := true, at_ := 5 } } wHu with tick := 1000005 })
    let c : HostCmd := { waiting := true, at_ := 5 }
    let d := s.dev
    let may := d.get GLB.HU_CFG.MODE = 2 ∧ d.flt.pwrFail = false
    (d.flt.psCmd = some c) ∧ (c.waiting = true) ∧ (c.at_ + 1000000 ≤ d.tick) ∧ (may)) ∧
    (let s : State := (wS (wFlt FltSt.reset []))
    let d := s.dev
    (d.flt.pwrFail = false) ∧ (d.boot.flop.op ≠ 2) ∧ (d.flt.psCmd = none)) ∧
    (let s : State := (wS (wFlt { FltSt.reset with pwrFail := true, mapQ := [{ wM with deferAt := 6 }, wM] } [(NVS.HU_STAT.PF, 1)]))
    let d := s.dev
    (d.flt.pwrFail = true)) := by
  refine ⟨?_, ?_, ?_, ?_, ?_, ?_, ?_, ?_, ?_, ?_, ?_, ?_, ?_, ?_, ?_, ?_⟩
  · dsimp only; decide +kernel
  · dsimp only; decide +kernel
  · dsimp only; decide +kernel
  · dsimp only [Dev.reaches]; decide +kernel
  · dsimp only [Dev.reaches]; decide +kernel
  · dsimp only [Dev.reaches]; decide +kernel
  · dsimp only [Dev.reaches]; decide +kernel
  · dsimp only [Dev.reaches]; decide +kernel
  · dsimp only [Dev.reaches]; decide +kernel
  · dsimp only [Dev.reaches]; decide +kernel
  · dsimp only; decide +kernel
  · dsimp only; decide +kernel
  · dsimp only; decide +kernel
  · dsimp only; decide +kernel
  · dsimp only; decide +kernel
  · dsimp only; decide +kernel

theorem test_wit_TimeOfDay :
    (let d : Dev := (wTm { wTod with ns := 999999999, sec := 2 ^ 48 - 1 } [(TMU.CTL.RUN, 1)])
    (d.inCold = false) ∧ (d.is TMU.CTL.RUN = true) ∧ (d.tmu.slewRem = 0) ∧ (d.tmu.legal)) ∧
    (let d : Dev := (wBuoy 6000 [(TMU.CTL.RUN, 0), (MAC.PORT_CFG.TS_MDI 0, 1)])
    (d.inCold = false) ∧ (d.is TMU.CTL.RUN = false)) ∧
    (let d : Dev := wDev
    let v : Nat := 0x110000000
    (d.reaches TMU.INCR.INCR) ∧ (0xF0000000 ≤ v) ∧ (v ≤ 0x110000000)) ∧
    (let d : Dev := wDev
    let v : Nat := 0xEFFFFFFF
    (d.reaches TMU.INCR.INCR) ∧ (v < 2 ^ 40) ∧ ((v < 0xF0000000 ∨ 0x110000000 < v))) ∧
    (let d : Dev := (wTm { wTod with slewRem := 300, slewOn := true } [(TMU.CTL.RUN, 1)])
    (d.inCold = false) ∧ (d.is TMU.CTL.RUN = true) ∧ (d.tmu.legal) ∧ (0xF0000000 ≤ d.get TMU.INCR.INCR) ∧ (d.get TMU.INCR.INCR ≤ 0x110000000)) := by
  refine ⟨?_, ?_, ?_, ?_, ?_⟩
  · dsimp only [TmuSt.legal]; decide +kernel
  · dsimp only; decide +kernel
  · dsimp only [Dev.reaches]; decide +kernel
  · dsimp only [Dev.reaches]; decide +kernel
  · dsimp only [TmuSt.legal]; decide +kernel

theorem test_wit_TimeCommands :
    (let s : State := (wS (wTm wTod [(TMU.STAT.STEP_BUSY, 1)]))
    let v : Nat := 1
    let d := s.dev
    let ns := d.get TMU.STEP_NS.NS
    let wrong := d.is TMU.STAT.STEP_BUSY = true ∨ 1000000000 ≤ ns ∨ v % 4 = 3
    (d.reaches TMU.STEP_CTL.OP) ∧ (wrong)) ∧
    (let s : State := (wS (wTm wTod [(TMU.STEP_NS.NS, 999999999), (TMU.STEP_NS.FRAC, 5), (TMU.STEP_SEC.SEC, 9)]))
    let v : Nat := 2
    let d := s.dev
    let ns := d.get TMU.STEP_NS.NS
    let wrong := d.is TMU.STAT.STEP_BUSY = true ∨ 1000000000 ≤ ns ∨ v % 4 = 3
    (d.reaches TMU.STEP_CTL.OP) ∧ (¬ wrong)) ∧
    (let s : State := (wS (wTm { wTod with stepArm := some (0, 77777777777777777777) } [(TMU.STAT.STEPS, 255)]))
    let op : Nat := 0
    let x : Nat := 77777777777777777777
    let d := s.dev
    let m := 2 ^ 48 * secU
    (d.tmu.legal) ∧ (d.tmu.stepArm = some (op, x)) ∧ (x < m)) ∧
    (let s : State := (wS (wTm wTod []))
    let v : Nat := (2 ^ 40 - 7)
    let d := s.dev
    (d.reaches TMU.ADJ.ADJ) ∧ (v < 2 ^ 40)) ∧
    (let s : State := (wS (wTm { wTod with slewOn := true } [(TMU.STAT.ADJ_BUSY, 1)]))
    let d := s.dev
    (d.tmu.slewOn = true) ∧ (d.tmu.slewRem = 0)) ∧
    (let s : State := (wS (wTm { wTod with sec := 2 ^ 47 + 8 } []))
    let d := s.dev
    (d.reaches TMU.TOD_NS.NS) ∧ (d.tmu.legal)) ∧
    (let s : State := (wS (wTm wTod [(TMU.REF_CFG.SRC, 1), (TMU.STAT.LOCKED, 1)]))
    let d := s.dev
    (d.is TMU.REF_CFG.SRC = true) ∧ (d.is TMU.STAT.HOLDOVER = false)) ∧
    (let s : State := (wS (wTm wTod [(TMU.REF_CFG.SRC, 1), (TMU.STAT.HOLDOVER, 1)]))
    let d := s.dev
    (d.is TMU.REF_CFG.SRC = true) ∧ (d.is TMU.STAT.LOCKED = false)) := by
  refine ⟨?_, ?_, ?_, ?_, ?_, ?_, ?_, ?_⟩
  · dsimp only [Dev.reaches]; decide +kernel
  · dsimp only [Dev.reaches]; decide +kernel
  · dsimp only [TmuSt.legal]; decide +kernel
  · dsimp only [Dev.reaches]; decide +kernel
  · dsimp only; decide +kernel
  · dsimp only [Dev.reaches, TmuSt.legal]; decide +kernel
  · dsimp only; decide +kernel
  · dsimp only; decide +kernel

theorem test_wit_CapturesAndBuoys :
    (let s : State := (wS { wTm { wTod with capAt := [(0, 5)] } [(TMU.CTL.PPS_IN_EN, 1), (TMU.CTL.RUN, 1), (TMU.CAP_SEC.VALID 0, 1)] with tick := 200 })
    let k : Nat := 0
    let d := s.dev
    let last := sget d.tmu.capAt k 0
    (k < 3) ∧ ((last = 0 ∨ last + 100 < d.tick + 1)) ∧ (d.capEn k = true) ∧ (d.is TMU.CTL.RUN = true) ∧ (d.get (TMU.CAP_ADJ.ADJ k) = 0)) ∧
    (let s : State := (wS { wTm { wTod with capAt := [(0, 5)] } [(TMU.CTL.PPS_IN_EN, 1), (TMU.CTL.RUN, 1), (TMU.CAP_SEC.VALID 0, 1)] with tick := 104 })
    let k : Nat := 0
    let d := s.dev
    let last := sget d.tmu.capAt k 0
    (k < 3) ∧ (last ≠ 0) ∧ (d.tick + 1 ≤ last + 100)) ∧
    (let s : State := (wS (wTm { wTod with ns := 0, frac := 5, lastAdv := 2 ^ 32 } [(TMU.CTL.PPS_OUT_EN, 1), (TMU.CTL.RUN, 1)]))
    let k : Nat := 0
    let d := s.dev
    (k < 3) ∧ (d.is TMU.CTL.RUN = true) ∧ (d.is TMU.CTL.PPS_OUT_EN = true) ∧ (d.tmu.ppsOut = false) ∧ (d.passesOfs = true) ∧ (d.tmu.ppsRiseAt = 0)) ∧
    (let s : State := (wS { wTm { wTod with ppsOut := true, ppsRiseAt := 4 } [(TMU.PPS_CFG.WIDTH, 3)] with tick := 3003 })
    let k : Nat := 0
    let d := s.dev
    (k < 3) ∧ (d.tmu.ppsOut = true) ∧ (d.tmu.ppsRiseAt + d.get TMU.PPS_CFG.WIDTH * 1000 ≤ d.tick + 1)) ∧
    (let s : State := (wS (wTm { wTod with txts := [(256, [⟨1, 2, 3⟩, ⟨4, 5, 6⟩])] } []))
    let k : Nat := 0
    let p : Nat := 256
    let d := s.dev
    (k < 3) ∧ (p < 257) ∧ (d.reaches (TMU.TXTS.W p 2))) ∧
    (let s : State := (wS (wBuoy 6000 []))
    let k : Nat := 0
    let p : Nat := 0
    let q : Nat := 2
    let x : QEnt := wQb
    let xs : List QEnt := [wQE 2]
    let d := s.dev
    let open_ := d.gateOpen = true ∧ d.is TMU.CTL.RUN = true
    let head := (d.queue p q).ents = x :: xs ∧ d.buoyHead p q = some x ∧ d.effT x.pkt ≤ (d.now : Int) + 2000 * 2 ^ 32 ∧ p < 265 ∧ q < 16
    (k < 3) ∧ (open_) ∧ (head) ∧ (d.tooLate p 0 x.pkt = false)) ∧
    (let s : State := (wS (wBuoy 8004 []))
    let k : Nat := 0
    let p : Nat := 0
    let q : Nat := 2
    let x : QEnt := wQb
    let xs : List QEnt := [wQE 2]
    let d := s.dev
    let open_ := d.gateOpen = true ∧ d.is TMU.CTL.RUN = true
    let head := (d.queue p q).ents = x :: xs ∧ d.buoyHead p q = some x ∧ d.effT x.pkt ≤ (d.now : Int) + 2000 * 2 ^ 32 ∧ p < 265 ∧ q < 16
    (k < 3) ∧ (open_) ∧ (head) ∧ (d.tooLate p 0 x.pkt = true) ∧ (d.qLaunch p q x.pkt.epoch % 4 ≠ 1)) ∧
    (let s : State := (wS (wLaun 7970 []))
    let k : Nat := 0
    let ph : Nat := 0
    let p : Nat := 0
    let x : QEnt := wQb
    let d := s.dev
    let open_ := d.gateOpen = true ∧ d.is TMU.CTL.RUN = true
    let next := p < 265 ∧ d.linkUp p = true ∧ d.is (SWC.PORT_CFG.EN p) = true ∧ d.is (MAC.PORT_CFG.TX_EN p) = true ∧ sget d.mac.tx p none = none ∧
      sget d.tmu.buoys p [] = [x] ∧ d.shapeOk p x.pkt.frameLen = true ∧ x.pkt.late = false ∧ d.startsNow p ph x = true ∧ x.q < 16 ∧ (x.gPort < 265 ∨ x.gPort = 511)
    (k < 3) ∧ (open_) ∧ (next) ∧ (d.tooLate p ph x.pkt = false)) ∧
    (let s : State := (wS (wLaun 9000 []))
    let k : Nat := 0
    let ph : Nat := 0
    let p : Nat := 0
    let x : QEnt := wQb
    let d := s.dev
    let open_ := d.gateOpen = true ∧ d.is TMU.CTL.RUN = true
    let next := p < 265 ∧ d.linkUp p = true ∧ d.is (SWC.PORT_CFG.EN p) = true ∧ d.is (MAC.PORT_CFG.TX_EN p) = true ∧ sget d.mac.tx p none = none ∧
      sget d.tmu.buoys p [] = [x] ∧ d.shapeOk p x.pkt.frameLen = true ∧ x.pkt.late = false ∧ d.startsNow p ph x = true ∧ x.q < 16 ∧ (x.gPort < 265 ∨ x.gPort = 511)
    (k < 3) ∧ (open_) ∧ (next) ∧ (d.tooLate p ph x.pkt = true) ∧ (d.qLaunch p x.q x.pkt.epoch % 4 ≠ 1)) := by
  refine ⟨?_, ?_, ?_, ?_, ?_, ?_, ?_, ?_, ?_⟩
  · dsimp only; decide +kernel
  · dsimp only; decide +kernel
  · dsimp only; decide +kernel
  · dsimp only; decide +kernel
  · dsimp only [Dev.reaches]; decide +kernel
  · dsimp only; decide +kernel
  · dsimp only; decide +kernel
  · dsimp only; decide +kernel
  · dsimp only; decide +kernel

theorem test_wit_Resets :
    (let s : State := (wS (wPut (wPipe [(GLB.LOCK.LOCK, 1)] [wK .parse]) (psA 0) [7]))
    let mv : Nat := 599
    let d := s.dev
    (d.pwr.dip = none) ∧ (mv < 600)) ∧
    (let s : State := (wS wDev)
    let mv : Nat := 600
    let d := s.dev
    (d.pwr.dip = none) ∧ (600 ≤ mv)) ∧
    (let s : State := (wS Dev.reset)
    let d := s.dev
    (d.pin.sysResetN = false) ∧ (d.pwr.dip = none)) ∧
    (let s : State := (wS { Dev.reset with pwr := { PwrSt.reset with dip := some 3 } })
    let d := s.dev
    (d.pin.sysResetN = false) ∧ (d.pwr.dip ≠ none)) ∧
    (let s : State := (wS { Dev.reset with tick := 10000003, pwr := { PwrSt.reset with dip := some 3 }, pin := { PinSt.reset with sysResetN := true } })
    let mv : Nat := 621
    let t : Nat := 3
    let d := s.dev
    (d.pwr.dip = some t) ∧ (t + 10000000 ≤ d.tick) ∧ (620 < mv) ∧ (d.pin.sysResetN = true)) ∧
    (let s : State := (wS { Dev.reset with tick := 10000002, pwr := { PwrSt.reset with dip := some 3 }, pin := { PinSt.reset with sysResetN := true } })
    let mv : Nat := 621
    let t : Nat := 3
    let d := s.dev
    (d.pwr.dip = some t) ∧ ((d.tick < t + 10000000 ∨ mv ≤ 620))) ∧
    (let s : State := (wS (wPut (wPipe [(GLB.LOCK.LOCK, 1), (GLB.BOOT_CTL.NEXT, 2), (GLB.BOOT_STAT.BOOT, 3)] [wK .parse]) (psA 0) [7]))
    let key : Nat := 0x5120
    let d := s.dev
    (d.reaches GLB.RESET.GO) ∧ (key % 2 ^ 16 = 0x5120)) ∧
    (let s : State := (wS (wPut (wPipe [(GLB.LOCK.LOCK, 1)] [wK .parse]) (psA 0) [7]))
    let key : Nat := 0x5121
    let d := s.dev
    (d.reaches GLB.RESET.GO) ∧ (key % 2 ^ 16 ≠ 0x5120)) ∧
    (let s : State := (wS { Dev.reset with tick := 9, pwr := { PwrSt.reset with dip := some 3 } })
    let mv : Nat := 610
    let d := s.dev
    (d.pwr.dip ≠ none) ∧ (mv ≤ 620)) ∧
    (let s : State := (wS { Dev.reset with tick := 9, pwr := { PwrSt.reset with dip := some 3 } })
    let mv : Nat := 621
    let d := s.dev
    (d.pwr.dip ≠ none) ∧ (620 < mv)) := by
  refine ⟨?_, ?_, ?_, ?_, ?_, ?_, ?_, ?_, ?_, ?_⟩
  · dsimp only; decide +kernel
  · dsimp only; decide +kernel
  · dsimp only; decide +kernel
  · dsimp only; decide +kernel
  · dsimp only; decide +kernel
  · dsimp only; decide +kernel
  · dsimp only [Dev.reaches]; decide +kernel
  · dsimp only [Dev.reaches]; decide +kernel
  · dsimp only; decide +kernel
  · dsimp only; decide +kernel

theorem test_wit_BootSteps :
    (let s : State := (wS (wBt .hbm [] [] []))
    let dens : Nat := 28
    let d := s.dev
    (d.boot.phase = .hbm) ∧ (23 ≤ dens) ∧ (dens ≤ 28)) ∧
    (let s : State := (wS (wBt .hbm [] [] []))
    let d := s.dev
    (d.boot.phase = .hbm)) ∧
    (let s : State := (wS (wBt .retire [] [] [(GLB.BOOT_STAT.BOOT, 3)]))
    let d := s.dev
    (d.boot.phase = .retire) ∧ (d.rd64 (psA 0) ≠ psMagic) ∧ (d.bootStrap = 3)) ∧
    (let s : State := (wS (wBt .retire [] [] [(GLB.BOOT_STAT.BOOT, 1)]))
    let d := s.dev
    (d.boot.phase = .retire) ∧ (d.rd64 (psA 0) ≠ psMagic) ∧ (d.bootStrap ≠ 3) ∧ (d.boot.flashErr = 0)) ∧
    (let s : State := (wS (wFl .headers [] wGood [(GLB.BOOT_STAT.BOOT, 1)]))
    let c : Nat := 1
    let d := s.dev
    (d.boot.phase = .headers) ∧ (d.flt.pwrFail = false) ∧ (d.bootStrap = c) ∧ ((c = 1 ∨ c = 2))) ∧
    (let s : State := (wS (wFl .headers [] [] [(GLB.BOOT_STAT.BOOT, 0)]))
    let d := s.dev
    (d.boot.phase = .headers) ∧ (d.flt.pwrFail = false) ∧ (d.bootStrap = 0) ∧ (d.candErr 1 ≠ 0) ∧ (d.candErr 2 ≠ 0)) ∧
    (let s : State := (wS (wFl .image [1] wGood []))
    let c : Nat := 1
    let d := s.dev
    let img := d.candImage c
    (d.boot.phase = .image) ∧ (d.flt.pwrFail = false) ∧ (d.boot.cands = [c]) ∧ (d.candErr c = 0) ∧ (imgErr img (d.candMax c) = none)) ∧
    (let s : State := (wS (wFl .image [1] (wGood.set 325 9) []))
    let c : Nat := 1
    let f : Fail := (9, 0, 0)
    let d := s.dev
    let img := d.candImage c
    (d.boot.phase = .image) ∧ (d.flt.pwrFail = false) ∧ (d.boot.cands = [c]) ∧ (d.candErr c = 0) ∧ (imgErr img (d.candMax c) = some f)) ∧
    (let s : State := (wS (wBk (fun b => { b with unverified := [(0, 1)] }) (wFl .image [1] wGood [])))
    let c : Nat := 1
    let d := s.dev
    (d.boot.phase = .image) ∧ (d.flt.pwrFail = false) ∧ (d.boot.cands = [c]) ∧ (d.candErr c ≠ 0)) ∧
    (let s : State := (wS (wFl .image [1, 2] (wImg 1 0 (wWr 1 0 0 0) []) []))
    let c : Nat := 1
    let c2 : Nat := 2
    let f : Fail := (0x10, 0, 0)
    let d := s.dev
    let img := d.candImage c
    (d.boot.phase = .image) ∧ (d.flt.pwrFail = false) ∧ (d.boot.cands = [c, c2]) ∧ (d.candErr c = 0) ∧ (imgErr img (d.candMax c) = some f)) := by
  refine ⟨?_, ?_, ?_, ?_, ?_, ?_, ?_, ?_, ?_, ?_⟩
  · dsimp only; decide +kernel
  · dsimp only; decide +kernel
  · dsimp only; decide +kernel
  · dsimp only; decide +kernel
  · dsimp only; decide +kernel
  · dsimp only; decide +kernel
  · dsimp only; decide +kernel
  · dsimp only; decide +kernel
  · dsimp only; decide +kernel
  · refine ⟨rfl, ?_⟩; decide +kernel

theorem test_wit_BootSteps_signed :
    (let s : State := (wS (wBk (fun b => { b with keyHash := wKeyHash }) (wBt .verify [3] (wImg 1 0 (wWr 0 0 0 0) wSig) [])))
    let d := s.dev
    let d3 := d.candImage 3
    (d.boot.phase = .verify) ∧ (sigErr d.boot.keyHash d3 = 0)) ∧
    (let s : State := (wS (wBt .verify [3] wGood []))
    let c : Nat := 3
    let d := s.dev
    let d3 := d.candImage 3
    (d.boot.phase = .verify) ∧ (sigErr d.boot.keyHash d3 ≠ 0) ∧ (d.boot.cands = [c])) ∧
    (let s : State := (wS (wBt .own [3] wGood []))
    let d := s.dev
    let d3 := d.candImage 3
    (d.boot.phase = .own) ∧ (d.ownLoad d3 = none)) ∧
    (let s : State := (wS (wBt .own [3] (wImg 1 0 (wWr 0x100000 0 0 0) []) []))
    let c : Nat := 3
    let f : Fail := (0x20, 0, 0)
    let d := s.dev
    let d3 := d.candImage 3
    (d.boot.phase = .own) ∧ (d.ownLoad d3 = some f) ∧ (d.boot.cands = [c])) := by
  refine ⟨?_, ?_, ?_, ?_⟩
  · dsimp only; decide +kernel
  · dsimp only; decide +kernel
  · dsimp only; decide +kernel
  · dsimp only; decide +kernel

theorem test_wit_BootSteps_first :
    (let s : State := (wS (wTwo wGood wLater [(GLB.BOOT_CTL.NEXT, 1)]))
    let c : Nat := 0
    let d := s.dev
    let next := d.get GLB.BOOT_CTL.NEXT
    let seq := fun (c : Nat) => le (d.candBytes c 256) 8 4
    let diff := (seq 2 + 2 ^ 32 - seq 1) % 2 ^ 32
    let both := d.boot.phase = .headers ∧ d.flt.pwrFail = false ∧ d.bootStrap = 0 ∧ d.candErr 1 = 0 ∧ d.candErr 2 = 0
    (both) ∧ ((next = 1 ∨ (next ≠ 2 ∧ (diff = 0 ∨ 2 ^ 31 ≤ diff))))) := by
  · dsimp only; decide +kernel

theorem test_wit_BootSteps_second :
    (let s : State := (wS (wTwo wGood wLater []))
    let c : Nat := 0
    let d := s.dev
    let next := d.get GLB.BOOT_CTL.NEXT
    let seq := fun (c : Nat) => le (d.candBytes c 256) 8 4
    let diff := (seq 2 + 2 ^ 32 - seq 1) % 2 ^ 32
    let both := d.boot.phase = .headers ∧ d.flt.pwrFail = false ∧ d.bootStrap = 0 ∧ d.candErr 1 = 0 ∧ d.candErr 2 = 0
    (both) ∧ ((next = 2 ∨ (next ≠ 1 ∧ 0 < diff ∧ diff < 2 ^ 31)))) := by
  · dsimp only; decide +kernel

theorem test_wit_BootSteps_map :
    (let s : State := (wS (wTwo wGood [] []))
    let c : Nat := 1
    let d := s.dev
    (d.boot.phase = .headers) ∧ (d.flt.pwrFail = false) ∧ (d.bootStrap = 0) ∧ ((c = 1 ∨ c = 2)) ∧ (d.candErr c = 0) ∧ (d.candErr (3 - c) ≠ 0)) ∧
    (let s : State := (wS (wMap (8 + 5 * 2 ^ 8)))
    let i : Nat := 1
    let d := s.dev
    let w := d.rd64 (mapA i 0)
    let cls := w % 16
    let loc := bits w 47 8
    (d.boot.phase = .retire) ∧ (d.rd64 (psA 0) = psMagic) ∧ (d.bad = []) ∧ (i < 65536) ∧ (d.mapValid i = true) ∧ (locOk cls loc = true) ∧ (bits (d.rd64 (mapA i 1)) 35 32 = 0) ∧ (cls ≠ 4) ∧ (cls ≠ 5)) := by
  refine ⟨?_, ?_⟩
  · dsimp only; decide +kernel
  · dsimp only; decide +kernel

theorem test_wit_BootApplyAndControl :
    (let s : State := (wS (wBt .apply [3] wGood []))
    let k : Nat := (wAp (wBt .apply [3] wGood [])).2.1
    let d1 : Dev := (wAp (wBt .apply [3] wGood [])).1
    let d := s.dev
    let img := d.candImage 3
    let r := d.applyEnts img d.boot.applyAt.1 d.boot.applyAt.2 (((imgTable img).map entOf).drop d.boot.applyAt.1)
    (d.boot.phase = .apply) ∧ (r = (d1, k, .ok))) ∧
    (let s : State := (wS (wBt .apply [3] (wImg 0xB 0xC wMacIns []) []))
    let k : Nat := 0
    let c : Nat := 0x14
    let x : Nat := 0
    let n : Nat := 3
    let d1 : Dev := (wAp (wBt .apply [3] (wImg 0xB 0xC wMacIns []) [])).1
    let d := s.dev
    let img := d.candImage 3
    let r := d.applyEnts img d.boot.applyAt.1 d.boot.applyAt.2 (((imgTable img).map entOf).drop d.boot.applyAt.1)
    (d.boot.phase = .apply) ∧ (r = (d1, k, .fail c x)) ∧ (d1.boot.cands = [n])) ∧
    (let s : State := (wS (wBt .apply [3] (wImg 1 0 (wWr 0x21C 2 0 0xFFFFFFFF00000001) []) []))
    let k : Nat := 0
    let x : Nat := 0
    let d1 : Dev := (wAp (wBt .apply [3] (wImg 1 0 (wWr 0x21C 2 0 0xFFFFFFFF00000001) []) [])).1
    let d := s.dev
    let img := d.candImage 3
    let r := d.applyEnts img d.boot.applyAt.1 d.boot.applyAt.2 (((imgTable img).map entOf).drop d.boot.applyAt.1)
    (d.boot.phase = .apply) ∧ (r = (d1, k, .wait x)) ∧ (d.boot.waitAt = 0)) ∧
    (let s : State := (wS (wBt .none [] wGood [(GLB.BOOT_STAT.STATE, 7)]))
    let d := s.dev
    let img := d.candImage 3
    let ctl := d.reaches GLB.BOOT_CTL.NEXT
    (ctl) ∧ (d.hostMayBoot = true) ∧ (d.boot.hbmOk = true) ∧ (imgErr img 0x8000000 = none)) ∧
    (let s : State := (wS (wBt .none [] (wImg 1 0 (wWr 1 0 0 0) []) [(GLB.BOOT_STAT.STATE, 7)]))
    let f : Fail := (0x10, 0, 0)
    let d := s.dev
    let img := d.candImage 3
    let ctl := d.reaches GLB.BOOT_CTL.NEXT
    (ctl) ∧ (d.hostMayBoot = true) ∧ (d.boot.hbmOk = true) ∧ (imgErr img 0x8000000 = some f)) ∧
    (let s : State := (wS (wBt .none [] wGood [(GLB.BOOT_STAT.STATE, 6)]))
    let d := s.dev
    let ctl := d.reaches GLB.BOOT_CTL.NEXT
    (ctl) ∧ (d.hostMayBoot = false)) ∧
    (let s : State := (wS (wBt .none [] wGood [(GLB.BOOT_STAT.STATE, 8)]))
    let d := s.dev
    let ctl := d.reaches GLB.BOOT_CTL.NEXT
    (ctl) ∧ (d.hostMayBoot = true) ∧ (d.boot.sigEn = false)) ∧
    (let s : State := (wS (wBk (fun b => { b with sigEn := true }) (wBt .none [] wGood [(GLB.BOOT_STAT.STATE, 8)])))
    let d := s.dev
    let ctl := d.reaches GLB.BOOT_CTL.NEXT
    (ctl) ∧ ((d.hostMayBoot = false ∨ d.boot.sigEn = true))) := by
  refine ⟨?_, ?_, ?_, ?_, ?_, ?_, ?_, ?_⟩
  · intro s k d1 d img r; exact ⟨rfl, wTriple (a := wAp (wBt .apply [3] wGood [])) (by decide +kernel)⟩
  · intro s k c x n d1 d img r
    have h1 := wTriple (a := wAp (wBt .apply [3] (wImg 0xB 0xC wMacIns []) [])) (e := .fail 0x14 0) (by decide +kernel)
    have h2 : (wAp (wBt .apply [3] (wImg 0xB 0xC wMacIns []) [])).2.1 = 0 := by decide +kernel
    have h3 : (wAp (wBt .apply [3] (wImg 0xB 0xC wMacIns []) [])).1.boot.cands = [3] := by decide +kernel
    rw [h2] at h1
    have h4 : d1 = (wAp (wBt .apply [3] (wImg 0xB 0xC wMacIns []) [])).1 := rfl
    have h5 : r = wAp (wBt .apply [3] (wImg 0xB 0xC wMacIns []) []) := rfl
    rw [h5, h4]
    exact ⟨rfl, h1, h3⟩
  · intro s k x d1 d img r; exact ⟨rfl, (wTriple (a := wAp (wBt .apply [3] (wImg 1 0 (wWr 0x21C 2 0 0xFFFFFFFF00000001) []) [])) (e := .wait 0) (by decide +kernel)).trans (by rw [show (wAp (wBt .apply [3] (wImg 1 0 (wWr 0x21C 2 0 0xFFFFFFFF00000001) []) [])).2.1 = 0 by decide +kernel]), by decide⟩
  · dsimp only [Dev.reaches]; decide +kernel
  · dsimp only [Dev.reaches]; decide +kernel
  · dsimp only [Dev.reaches]; decide +kernel
  · dsimp only [Dev.reaches]; decide +kernel
  · dsimp only [Dev.reaches]; decide +kernel

theorem test_wit_FlashCommands :
    (let s : State := (wS (wFop {} [] []))
    let i : Nat := 5
    let slot : Nat := 0
    let d := s.dev
    let go := d.reaches NVS.FL_CTL.GO ∧ d.is NVS.FL_CTL.DONE = true
    (i < 1024) ∧ (slot < 2) ∧ (go) ∧ (d.reloadRefusal i ≠ 0) ∧ (d.reloadRefusal i < 256)) ∧
    (let s : State := (wS (wFop {} [wEntry 8 1 (wWr 0x1000000 0 0 0)] []))
    let i : Nat := 0
    let slot : Nat := 0
    let d := s.dev
    let go := d.reaches NVS.FL_CTL.GO ∧ d.is NVS.FL_CTL.DONE = true
    (i < 1024) ∧ (slot < 2) ∧ (go) ∧ (d.reloadRefusal i = 0)) ∧
    (let s : State := (wS (wFop { op := 1 } [wEntry 7 1 (wWr 0x1000000 0 0 0)] []))
    let i : Nat := 0
    let slot : Nat := 0
    let d := s.dev
    let op := d.boot.flop
    let ent := entOf (nthD d.boot.table op.section_ [])
    let bs := d.flashBytes (d.slotBase (d.get GLB.BOOT_STAT.LOADED - 1) + ent.off) ent.len
    (i < 1024) ∧ (slot < 2) ∧ (op.op = 1) ∧ (d.flt.pwrFail = false) ∧ (fcsOf bs ≠ ent.crc)) ∧
    (let s : State := (wS (wFop {} [] []))
    let i : Nat := 5
    let slot : Nat := 0
    let d := s.dev
    let go := d.reaches NVS.FL_CTL.GO ∧ d.is NVS.FL_CTL.DONE = true
    (i < 1024) ∧ (slot < 2) ∧ (go) ∧ (d.writeRefusal slot ≠ 0) ∧ (d.writeRefusal slot < 256)) ∧
    (let s : State := (wS ((wFop {} [] []).wrBytes (tabA 0 0) wGood))
    let i : Nat := 5
    let slot : Nat := 1
    let d := s.dev
    let go := d.reaches NVS.FL_CTL.GO ∧ d.is NVS.FL_CTL.DONE = true
    let may := d.get GLB.HU_CFG.MODE = 2 ∧ d.flt.pwrFail = false
    (i < 1024) ∧ (slot < 2) ∧ (go) ∧ (d.writeRefusal slot = 0) ∧ (may)) ∧
    (let s : State := (wS ((wFop {} [] [(GLB.HU_CFG.MODE, 0)]).wrBytes (tabA 0 0) wGood))
    let i : Nat := 5
    let slot : Nat := 1
    let d := s.dev
    let go := d.reaches NVS.FL_CTL.GO ∧ d.is NVS.FL_CTL.DONE = true
    (i < 1024) ∧ (slot < 2) ∧ (go) ∧ (d.writeRefusal slot = 0) ∧ (d.get GLB.HU_CFG.MODE = 0)) ∧
    (let s : State := (wS ((wFop { op := 2, slot := 1, step := 1 } [] []).wrBytes (tabA 0 0) wGood))
    let i : Nat := 0
    let slot : Nat := 0
    let d := s.dev
    let op := d.boot.flop
    let run := op.op = 2 ∧ op.deferAt = 0
    (i < 1024) ∧ (slot < 2) ∧ (run) ∧ ((op.step = 1 ∨ op.step = 2))) ∧
    (let s : State := (wS ((wFop { op := 2, slot := 1, step := 3, pos := 256 } [] []).wrBytes (tabA 0 0) wGood))
    let i : Nat := 0
    let slot : Nat := 0
    let d := s.dev
    let op := d.boot.flop
    let run := op.op = 2 ∧ op.deferAt = 0
    (i < 1024) ∧ (slot < 2) ∧ (run) ∧ (op.step = 3) ∧ (d.boot.pageLog ≤ 11)) ∧
    (let s : State := (wS ((wFop { op := 2, slot := 1, step := 4, pos := 256 } [] []).wrBytes (tabA 0 0) wGood))
    let i : Nat := 0
    let slot : Nat := 0
    let d := s.dev
    let op := d.boot.flop
    let run := op.op = 2 ∧ op.deferAt = 0
    (i < 1024) ∧ (slot < 2) ∧ (run) ∧ (op.step = 4) ∧ (d.flashSame op.slot 256 (d.stagedSize - 256) = false)) ∧
    (let s : State := (wS { wFop { op := 2, slot := 1, step := 1, deferAt := 6 } [] [] with tick := 1000005 })
    let i : Nat := 0
    let slot : Nat := 0
    let d := s.dev
    let op := d.boot.flop
    let may := d.get GLB.HU_CFG.MODE = 2 ∧ d.flt.pwrFail = false
    (i < 1024) ∧ (slot < 2) ∧ (op.op = 2) ∧ (op.step = 1) ∧ (op.deferAt ≠ 0) ∧ (op.deferAt + 1000000 ≤ d.tick + 1) ∧ (may)) ∧
    (let s : State := (wS (wFop { op := 2, slot := 1, step := 3, pos := 256 } [] []))
    let i : Nat := 0
    let slot : Nat := 0
    let d := s.dev
    let op := d.boot.flop
    let run := op.op = 2 ∧ op.deferAt = 0
    (i < 1024) ∧ (slot < 2) ∧ (run) ∧ (op.step ≠ 4)) ∧
    (let s : State := (wS (wFop { op := 2, slot := 1, step := 5 } [] []))
    let i : Nat := 0
    let slot : Nat := 0
    let d := s.dev
    let op := d.boot.flop
    (i < 1024) ∧ (slot < 2) ∧ (op.reads = true)) ∧
    (let s : State := (wS (wFop { op := 1 } [] []))
    let i : Nat := 0
    let slot : Nat := 0
    let d := s.dev
    let op := d.boot.flop
    (i < 1024) ∧ (slot < 2) ∧ (op.op = 1)) ∧
    (let s : State := (wS (wFl .headers [1] wGood [(GLB.BOOT_STAT.BOOT, 1)]))
    let i : Nat := 0
    let slot : Nat := 0
    let c : Nat := 1
    let d := s.dev
    let op := d.boot.flop
    (i < 1024) ∧ (slot < 2) ∧ (op.op ≠ 1) ∧ (op.reads = false) ∧ ((d.boot.phase = .headers ∨ d.boot.phase = .image)) ∧ (d.boot.cands = [c])) ∧
    (let s : State := (wS (wRel (wWr 0x1000000 0 0 0)))
    let i : Nat := 0
    let slot : Nat := 0
    let d := s.dev
    let op := d.boot.flop
    let ent := entOf (nthD d.boot.table op.section_ [])
    let bs := d.flashBytes (d.slotBase (d.get GLB.BOOT_STAT.LOADED - 1) + ent.off) ent.len
    (i < 1024) ∧ (slot < 2) ∧ (op.op = 1) ∧ (d.flt.pwrFail = false) ∧ (fcsOf bs = ent.crc) ∧ (d.boot.sigEn = false)) := by
  refine ⟨?_, ?_, ?_, ?_, ?_, ?_, ?_, ?_, ?_, ?_, ?_, ?_, ?_, ?_, ?_⟩
  · dsimp only [Dev.reaches]; decide +kernel
  · dsimp only [Dev.reaches]; decide +kernel
  · dsimp only; decide +kernel
  · dsimp only [Dev.reaches]; decide +kernel
  · dsimp only [Dev.reaches]; decide +kernel
  · dsimp only [Dev.reaches]; decide +kernel
  · dsimp only; decide +kernel
  · dsimp only; decide +kernel
  · dsimp only; decide +kernel
  · dsimp only; decide +kernel
  · dsimp only; decide +kernel
  · dsimp only; decide +kernel
  · dsimp only; decide +kernel
  · dsimp only; decide +kernel
  · dsimp only; decide +kernel

theorem test_wit_MonitorCommands :
    (let s : State := (wS (wBus [(GLB.EVT_STAT.STAT 5, 4), (GLB.EVT_MASK.MASK 7, 1), (GLB.BOOT_STAT.ERR_LAST, 9)]))
    let d := s.dev
    let hears := d.inReset = false ∧ d.host.balls = false
    (hears)) ∧
    (let s : State := (wS Dev.reset)
    let pec : Bool := true
    let t : Int := 20
    let t1 : Int := 25
    let i : Instr := (.beacon true)
    let d := s.dev
    ((d.inReset = true ∨ d.host.balls = true)) ∧ (i ∈ [.ident pec, .beacon pec, .boot pec, .tempMax pec t t1, .tempH0 pec t, .tempH1 pec t, .vcoreReq pec, .vcoreMeas pec, .power pec, .paceMin pec, .health pec])) := by
  refine ⟨?_, ?_⟩
  · dsimp only; decide +kernel
  · dsimp only; decide +kernel

theorem test_wit_PinsAndTap :
    (let s : State := (wS (wSet wDev [(GLB.GPIO_FN.FN 7, 3)]))
    let i : Nat := 9
    let v : Nat := 0x13
    let d := s.dev
    let fn := v % 8
    let f := GLB.GPIO_FN.FN i
    let used := 1 ≤ fn ∧ fn ≤ 4 ∧ ∃ j, j < 16 ∧ j ≠ i ∧ d.get (GLB.GPIO_FN.FN j) = fn
    (i < 16) ∧ (d.reaches f) ∧ (used)) ∧
    (let s : State := (wS (wSet wDev [(GLB.GPIO_FN.FN 7, 3)]))
    let i : Nat := 9
    let v : Nat := 0x14
    let d := s.dev
    let fn := v % 8
    let f := GLB.GPIO_FN.FN i
    let used := 1 ≤ fn ∧ fn ≤ 4 ∧ ∃ j, j < 16 ∧ j ≠ i ∧ d.get (GLB.GPIO_FN.FN j) = fn
    (i < 16) ∧ (d.reaches f) ∧ (¬ used)) ∧
    (let code : Nat := 0x77
    (code ∉ [0, 1, 2, 3, 4, 5, 6, 0x30, 0x31]) ∧ (code < 256)) ∧
    (let s : State := (wS wMac)
    let d := s.dev
    (d.host.balls = false)) ∧
    (let s : State := (wS { wMac with host := { HostSt.reset with balls := true } })
    let d := s.dev
    (d.host.balls = true)) := by
  refine ⟨?_, ?_, ?_, ?_, ?_⟩
  · dsimp only [Dev.reaches]; decide +kernel
  · dsimp only [Dev.reaches]; decide +kernel
  · dsimp only; decide +kernel
  · dsimp only; decide +kernel
  · dsimp only; decide +kernel

theorem test_wit_FuseCommands :
    (let s : State := (wS (wFuse (fun b => { b with fuseCmd := some (1, 99) }) []))
    let h : Nat := 99
    let i : Instr := .fuseRead
    let d := s.dev
    let b := d.boot
    (i ∈ [.progHash h, .progSig, .fuseRead]) ∧ (b.fuseCmd.isSome = true)) ∧
    (let s : State := (wS (wSet (wFuse (fun b => b) []) [(GLB.BOOT_STAT.STATE, 6)]))
    let h : Nat := 99
    let i : Instr := .progSig
    let d := s.dev
    let b := d.boot
    let mayBoot := d.get GLB.BOOT_STAT.STATE = 7 ∨ d.get GLB.BOOT_STAT.STATE = 8
    let idle := b.fuseCmd = none
    (i ∈ [.progHash h, .progSig, .fuseRead]) ∧ (idle) ∧ (¬ mayBoot)) ∧
    (let s : State := (wS (wFuse (fun b => b) []))
    let d := s.dev
    let b := d.boot
    let mayBoot := d.get GLB.BOOT_STAT.STATE = 7 ∨ d.get GLB.BOOT_STAT.STATE = 8
    let idle := b.fuseCmd = none
    (idle) ∧ (mayBoot) ∧ (b.progHash = 0)) ∧
    (let s : State := (wS (wFuse (fun b => { b with progHash := 5 }) []))
    let d := s.dev
    let b := d.boot
    let mayBoot := d.get GLB.BOOT_STAT.STATE = 7 ∨ d.get GLB.BOOT_STAT.STATE = 8
    let idle := b.fuseCmd = none
    (idle) ∧ (mayBoot) ∧ (b.progHash ≠ 0)) ∧
    (let s : State := (wS (wFuse (fun b => { b with progHash := 5 }) []))
    let d := s.dev
    let b := d.boot
    let mayBoot := d.get GLB.BOOT_STAT.STATE = 7 ∨ d.get GLB.BOOT_STAT.STATE = 8
    let idle := b.fuseCmd = none
    (idle) ∧ (mayBoot) ∧ (b.progHash ≠ 0) ∧ (b.progSig = false)) ∧
    (let s : State := (wS (wFuse (fun b => { b with progHash := 5, progSig := true }) []))
    let d := s.dev
    let b := d.boot
    let mayBoot := d.get GLB.BOOT_STAT.STATE = 7 ∨ d.get GLB.BOOT_STAT.STATE = 8
    let idle := b.fuseCmd = none
    (idle) ∧ (mayBoot) ∧ ((b.progHash = 0 ∨ b.progSig = true))) ∧
    (let s : State := (wS (wFuse (fun b => { b with progHash := 5 }) []))
    let d := s.dev
    let b := d.boot
    let mayBoot := d.get GLB.BOOT_STAT.STATE = 7 ∨ d.get GLB.BOOT_STAT.STATE = 8
    let idle := b.fuseCmd = none
    (idle) ∧ (mayBoot)) ∧
    (let s : State := (wS { wFuse (fun b => { b with fuseCmd := some (1, 99), fuseAt := 4 }) [] with tick := 20000004 })
    let h : Nat := 99
    let d := s.dev
    let b := d.boot
    (b.fuseCmd = some (1, h)) ∧ (b.fuseAt + 20000000 ≤ d.tick)) ∧
    (let s : State := (wS { wFuse (fun b => { b with fuseCmd := some (2, 99), fuseAt := 4 }) [] with tick := 20000004 })
    let h : Nat := 99
    let d := s.dev
    let b := d.boot
    (b.fuseCmd = some (2, h)) ∧ (b.fuseAt + 20000000 ≤ d.tick)) ∧
    (let s : State := (wS { wFuse (fun b => { b with fuseCmd := some (2, 99), fuseAt := 4 }) [] with tick := 20000003 })
    let d := s.dev
    let b := d.boot
    (b.fuseCmd.isSome = true) ∧ (d.tick < b.fuseAt + 20000000)) ∧
    (let s : State := (wS (wBk (fun b => { b with progHash := 5, progSig := true }) Dev.reset))
    let d := s.dev
    (d.pin.sysResetN = false) ∧ (d.pwr.dip = none)) := by
  refine ⟨?_, ?_, ?_, ?_, ?_, ?_, ?_, ?_, ?_, ?_, ?_⟩
  · dsimp only; decide +kernel
  · dsimp only; decide +kernel
  · dsimp only; decide +kernel
  · dsimp only; decide +kernel
  · dsimp only; decide +kernel
  · dsimp only; decide +kernel
  · dsimp only; decide +kernel
  · dsimp only; decide +kernel
  · dsimp only; decide +kernel
  · dsimp only; decide +kernel
  · dsimp only; decide +kernel

theorem test_wit_DebugCommands :
    (let s : State := (wS (wDbg [(197, { wRegs with st := .faulted })] []))
    let c : Nat := 3
    let t : Nat := 5
    let d := s.dev
    let n := 64 * c + t
    let x := d.ctx n
    (c < 64) ∧ (t < 64) ∧ (d.reaches (DBG.CMD.OP c)) ∧ (d.is (DBG.CMD.DONE c) = true) ∧ (d.get (DBG.CTL.OWNER c) = 0) ∧ (d.eng.stepCmd = []) ∧ (x.st = .free ∨ x.st = .faulted)) ∧
    (let s : State := (wS (wDbg [(197, { wRegs with st := .halted, relHalt := true })] []))
    let c : Nat := 3
    let t : Nat := 5
    let rel : Bool := true
    let d := s.dev
    let n := 64 * c + t
    let x := d.ctx n
    (c < 64) ∧ (t < 64) ∧ (d.reaches (DBG.CMD.OP c)) ∧ (d.is (DBG.CMD.DONE c) = true) ∧ (d.get (DBG.CTL.OWNER c) = 0) ∧ (d.eng.stepCmd = []) ∧ (x.st = .halted) ∧ ((rel = false ∨ x.relHalt = true))) ∧
    (let s : State := (wS (wDbg [(197, { wRegs with st := .waitEvent })] []))
    let c : Nat := 3
    let t : Nat := 5
    let d := s.dev
    let n := 64 * c + t
    let x := d.ctx n
    let between := x.st = .waitEvent ∨ x.st = .keeperIdle ∨ (x.st = .ready ∧ x.cur = none)
    (c < 64) ∧ (t < 64) ∧ (d.reaches (DBG.CMD.OP c)) ∧ (d.is (DBG.CMD.DONE c) = true) ∧ (d.get (DBG.CTL.OWNER c) = 0) ∧ (d.eng.stepCmd = []) ∧ (between) ∧ (x.chan = none) ∧ (x.held = none)) ∧
    (let s : State := (wS (wDbg [(197, { wRegs with st := .ready, cur := some { word := 5 } })] []))
    let c : Nat := 3
    let t : Nat := 5
    let d := s.dev
    let n := 64 * c + t
    let x := d.ctx n
    (c < 64) ∧ (t < 64) ∧ (d.reaches (DBG.CMD.OP c)) ∧ (d.is (DBG.CMD.DONE c) = true) ∧ (d.get (DBG.CTL.OWNER c) = 0) ∧ (d.eng.stepCmd = []) ∧ ((x.st = .waitMem ∨ (x.st = .ready ∧ x.cur ≠ none)))) ∧
    (let s : State := (wS (wDbg [(197, { wRegs with st := .halted, byBp := true, relHalt := true })] []))
    let c : Nat := 3
    let t : Nat := 5
    let d := s.dev
    let n := 64 * c + t
    let x := d.ctx n
    (c < 64) ∧ (t < 64) ∧ (d.reaches (DBG.CMD.OP c)) ∧ (d.is (DBG.CMD.DONE c) = true) ∧ (d.get (DBG.CTL.OWNER c) = 0) ∧ (d.eng.stepCmd = []) ∧ (x.st = .halted) ∧ (x.chanLost = false)) ∧
    (let s : State := (wS (wDbg [(197, { wRegs with st := .ready })] []))
    let c : Nat := 3
    let t : Nat := 5
    let d := s.dev
    let n := 64 * c + t
    let x := d.ctx n
    (c < 64) ∧ (t < 64) ∧ (d.reaches (DBG.CMD.OP c)) ∧ (d.is (DBG.CMD.DONE c) = true) ∧ (d.get (DBG.CTL.OWNER c) = 0) ∧ (d.eng.stepCmd = []) ∧ (x.st ≠ .halted) ∧ ((x.st = .faulted → d.isKeeper n = false))) ∧
    (let s : State := (wS (wDbg [(200, { wRegs with st := .faulted })] [(ENG.CL_CTL.KEEPER_EN 3, 2), (ENG.CL_CTL.EN 3, 1), (ENG.KEEPER_ENTRY.ADDR 3 1, 77)]))
    let c : Nat := 3
    let t : Nat := 8
    let d := s.dev
    let n := 64 * c + t
    let x := d.ctx n
    (c < 64) ∧ (t < 64) ∧ (d.reaches (DBG.CMD.OP c)) ∧ (d.is (DBG.CMD.DONE c) = true) ∧ (d.get (DBG.CTL.OWNER c) = 0) ∧ (d.eng.stepCmd = []) ∧ (x.st = .faulted) ∧ (d.isKeeper n = true)) ∧
    (let s : State := (wS (wDbg [(197, { wRegs with st := .ready })] []))
    let c : Nat := 3
    let t : Nat := 5
    let d := s.dev
    let n := 64 * c + t
    let x := d.ctx n
    (c < 64) ∧ (t < 64) ∧ (d.reaches (DBG.CMD.OP c)) ∧ (d.is (DBG.CMD.DONE c) = true) ∧ (d.get (DBG.CTL.OWNER c) = 0) ∧ (d.eng.stepCmd = []) ∧ (x.st ≠ .halted)) ∧
    (let s : State := (wS (wDbg [(197, { wRegs with st := .ready }), (198, { wRegs with st := .halted })] []))
    let c : Nat := 3
    let t : Nat := 5
    let d := s.dev
    (c < 64) ∧ (t < 64) ∧ (d.reaches (DBG.CMD.OP c)) ∧ (d.is (DBG.CMD.DONE c) = true) ∧ (d.get (DBG.CTL.OWNER c) = 0) ∧ (d.eng.stepCmd = [])) ∧
    (let s : State := (wS (wDbg [(197, { wRegs with st := .ready }), (198, { wRegs with st := .halted })] []))
    let c : Nat := 3
    let t : Nat := 5
    let d := s.dev
    let n := 64 * c + t
    let x := d.ctx n
    (c < 64) ∧ (t < 64) ∧ (d.reaches (DBG.CMD.OP c)) ∧ (d.is (DBG.CMD.DONE c) = true) ∧ (d.get (DBG.CTL.OWNER c) = 0) ∧ (d.eng.stepCmd = []) ∧ (x.chanLost = false)) := by
  refine ⟨?_, ?_, ?_, ?_, ?_, ?_, ?_, ?_, ?_, ?_⟩
  · dsimp only [Dev.reaches]; decide +kernel
  · dsimp only [Dev.reaches]; decide +kernel
  · dsimp only [Dev.reaches]; decide +kernel
  · dsimp only [Dev.reaches]; decide +kernel
  · dsimp only [Dev.reaches]; decide +kernel
  · dsimp only [Dev.reaches]; decide +kernel
  · dsimp only [Dev.reaches]; decide +kernel
  · dsimp only [Dev.reaches]; decide +kernel
  · dsimp only [Dev.reaches]; decide +kernel
  · dsimp only [Dev.reaches]; decide +kernel

theorem test_wit_DebugPort :
    (let s : State := (wS (wDbg [(197, { wRegs with st := .ready })] []))
    let c : Nat := 3
    let t : Nat := 5
    let d := s.dev
    let own := DBG.CTL.OWNER c
    (c < 64) ∧ (t < 64) ∧ (d.reaches own) ∧ (d.get own = 0)) ∧
    (let s : State := (wS (wDbg [(197, { wRegs with st := .halted })] [(DBG.CTL.OWNER 3, 1)]))
    let c : Nat := 3
    let t : Nat := 5
    let v : Nat := 0x0A
    let d := s.dev
    let own := DBG.CTL.OWNER c
    let idle := ∀ m, m < 64 → (d.ctx (64 * c + m)).st ≠ .halted
    (c < 64) ∧ (t < 64) ∧ (d.reaches own) ∧ (d.get own = 1) ∧ ((v % 2 = 1 ∨ ¬ idle))) ∧
    (let s : State := (wS (wDbg [(197, { wRegs with st := .ready })] [(DBG.CTL.OWNER 3, 1)]))
    let c : Nat := 3
    let t : Nat := 5
    let v : Nat := 0x0A
    let d := s.dev
    let own := DBG.CTL.OWNER c
    let idle := ∀ m, m < 64 → (d.ctx (64 * c + m)).st ≠ .halted
    (c < 64) ∧ (t < 64) ∧ (d.reaches own) ∧ (d.get own = 1) ∧ (v % 2 = 0) ∧ (idle)) ∧
    (let s : State := (wS (wDbg [(197, { wRegs with st := .ready })] []))
    let c : Nat := 3
    let t : Nat := 5
    let d := s.dev
    (c < 64) ∧ (t < 64) ∧ (d.clusterParked c = false)) ∧
    (let s : State := (wS (wDbg [(197, { wRegs with st := .halted })] [(DBG.CTL.OWNER 3, 1)]))
    let c : Nat := 3
    let t : Nat := 5
    let d := s.dev
    let n := 64 * c + t
    let own := DBG.CTL.OWNER c
    (c < 64) ∧ (t < 64) ∧ (d.clusterParked c = false) ∧ (d.get own = 1) ∧ ((d.ctx n).st = .halted) ∧ (d.eng.stepCmd = [])) ∧
    (let s : State := (wS (wDbg [(197, { wRegs with st := .ready })] [(DBG.CTL.OWNER 3, 1)]))
    let c : Nat := 3
    let t : Nat := 5
    let d := s.dev
    let n := 64 * c + t
    let own := DBG.CTL.OWNER c
    (c < 64) ∧ (t < 64) ∧ (d.clusterParked c = false) ∧ (d.get own = 1) ∧ ((d.ctx n).st ≠ .halted)) ∧
    (let s : State := (wS (wDbg [(197, { wRegs with st := .halted })] []))
    let c : Nat := 3
    let t : Nat := 5
    let d := s.dev
    let own := DBG.CTL.OWNER c
    (c < 64) ∧ (t < 64) ∧ (d.clusterParked c = false) ∧ (d.get own = 0)) ∧
    (let s : State := (wS (wDbg [] [(PWR.CL_STATE.PARKED, 8)]))
    let c : Nat := 3
    let t : Nat := 5
    let d := s.dev
    (c < 64) ∧ (t < 64) ∧ (d.clusterParked c = true)) := by
  refine ⟨?_, ?_, ?_, ?_, ?_, ?_, ?_, ?_⟩
  · dsimp only [Dev.reaches]; decide +kernel
  · dsimp only [Dev.reaches]; decide +kernel
  · dsimp only [Dev.reaches]; decide +kernel
  · dsimp only; decide +kernel
  · dsimp only; decide +kernel
  · dsimp only; decide +kernel
  · dsimp only; decide +kernel
  · dsimp only; decide +kernel

theorem test_wit_PowerRequests :
    (let s : State := (wP id wPD 0)
    let v : Nat := (wReq 0 64)
    let c : Instr := (.park (wReq 0 64))
    let d := s.dev
    let k := bits v 2 0
    let i := bits v 10 4
    let r := d.pwr.pwr
    let valid := k < 5 ∧ i < domCount k
    let asks := d.reaches PWR.REQ.KIND ∧ d.is PWR.REQ_STAT.DONE = true ∧ r.phase = .idle
    (c ∈ [.powerOn v, .park v, .powerOff v]) ∧ (asks) ∧ (¬ valid)) ∧
    (let s : State := (wP id wPD 0)
    let v : Nat := (wReq 2 1)
    let d := s.dev
    let k := bits v 2 0
    let r := d.pwr.pwr
    let asks := d.reaches PWR.REQ.KIND ∧ d.is PWR.REQ_STAT.DONE = true ∧ r.phase = .idle
    (asks) ∧ (k ≠ 1)) ∧
    (let s : State := (wP id wPD 0)
    let v : Nat := (wReq 0 9)
    let d := s.dev
    let k := bits v 2 0
    let i := bits v 10 4
    let r := d.pwr.pwr
    let valid := k < 5 ∧ i < domCount k
    let asks := d.reaches PWR.REQ.KIND ∧ d.is PWR.REQ_STAT.DONE = true ∧ r.phase = .idle
    (asks) ∧ (valid) ∧ ((∀ x, x ∈ domPath k i → d.domOff x.1 x.2 = false))) ∧
    (let s : State := (wP id (wPD ++ [(PWR.OCT_STATE.ST, 0x10), (PWR.SL_STATE.TRIPPED, 1)]) 0)
    let v : Nat := (wReq 1 2)
    let d := s.dev
    let k := bits v 2 0
    let i := bits v 10 4
    let r := d.pwr.pwr
    let valid := k < 5 ∧ i < domCount k
    let asks := d.reaches PWR.REQ.KIND ∧ d.is PWR.REQ_STAT.DONE = true ∧ r.phase = .idle
    (asks) ∧ (valid) ∧ (k = 1) ∧ (d.domOff 1 i = true) ∧ (d.is PWR.SL_STATE.TRIPPED = true)) ∧
    (let s : State := (wP id (wPD ++ [(PWR.OCT_STATE.ST, 0x10), (PWR.SL_STATE.SLICE, 1)]) 0)
    let v : Nat := (wReq 1 2)
    let d := s.dev
    let k := bits v 2 0
    let i := bits v 10 4
    let r := d.pwr.pwr
    let valid := k < 5 ∧ i < domCount k
    let asks := d.reaches PWR.REQ.KIND ∧ d.is PWR.REQ_STAT.DONE = true ∧ r.phase = .idle
    (asks) ∧ (valid) ∧ ((k ≠ 1 ∨ d.is PWR.SL_STATE.TRIPPED = false)) ∧ ((∃ x, x ∈ domPath k i ∧ d.domOff x.1 x.2 = true))) ∧
    (let s : State := (wP id (wPD ++ [(PWR.OCT_STATE.ST, 0x10)]) 0)
    let v : Nat := (wReq 1 2)
    let d := s.dev
    let k := bits v 2 0
    let i := bits v 10 4
    let r := d.pwr.pwr
    let valid := k < 5 ∧ i < domCount k
    let parked := d.domOff k i = true ∧ (k = 1 → d.octetSt i = 1) ∧ (k, i) ∉ d.pwr.waking
    let asks := d.reaches PWR.REQ.KIND ∧ d.is PWR.REQ_STAT.DONE = true ∧ r.phase = .idle
    (asks) ∧ (valid) ∧ (parked)) ∧
    (let s : State := (wP id wPD 7)
    let v : Nat := (wReq 0 9)
    let d := s.dev
    let k := bits v 2 0
    let i := bits v 10 4
    let r := d.pwr.pwr
    let clear := fun c => sget d.eng.dq c [] = [] ∧ d.ordOf c = [] ∧ ∀ n, n / 64 = c → (d.ctx n).st = .free
    let asks := d.reaches PWR.REQ.KIND ∧ d.is PWR.REQ_STAT.DONE = true ∧ r.phase = .idle
    (asks) ∧ (k = 0) ∧ (i < 64) ∧ (d.domOff 0 i = false) ∧ (clear i)) ∧
    (let s : State := (wDqd 9 (wP id wPD 7))
    let v : Nat := (wReq 0 9)
    let d := s.dev
    let k := bits v 2 0
    let i := bits v 10 4
    let r := d.pwr.pwr
    let asks := d.reaches PWR.REQ.KIND ∧ d.is PWR.REQ_STAT.DONE = true ∧ r.phase = .idle
    (asks) ∧ (k = 0) ∧ (i < 64) ∧ (d.domOff 0 i = false) ∧ (sget d.eng.dq i [] ≠ [])) ∧
    (let s : State := (let s := wP id wPD 7; { s with dev := wEng s.dev [(577, { wRegs with st := .halted })] })
    let v : Nat := (wReq 0 9)
    let d := s.dev
    let k := bits v 2 0
    let i := bits v 10 4
    let r := d.pwr.pwr
    let asks := d.reaches PWR.REQ.KIND ∧ d.is PWR.REQ_STAT.DONE = true ∧ r.phase = .idle
    (asks) ∧ (k = 0) ∧ (i < 64) ∧ (d.domOff 0 i = false) ∧ (sget d.eng.dq i [] = []) ∧ (d.ordOf i = []) ∧ ((∃ n, n / 8 = 8 * i ∧ (d.ctx n).st = .halted))) ∧
    (let s : State := (wP id wPD 7)
    let v : Nat := (wReq 2 1)
    let d := s.dev
    let k := bits v 2 0
    let i := bits v 10 4
    let r := d.pwr.pwr
    let asks := d.reaches PWR.REQ.KIND ∧ d.is PWR.REQ_STAT.DONE = true ∧ r.phase = .idle
    (asks) ∧ (k = 2) ∧ (i < 8) ∧ (d.domOff 2 i = false) ∧ ((∃ j, j < 4 ∧ d.octetSt (4 * i + j) = 0))) ∧
    (let s : State := (wP id wPD 7)
    let v : Nat := (wReq 1 2)
    let d := s.dev
    let k := bits v 2 0
    let i := bits v 10 4
    let r := d.pwr.pwr
    let asks := d.reaches PWR.REQ.KIND ∧ d.is PWR.REQ_STAT.DONE = true ∧ r.phase = .idle
    (asks) ∧ (k = 1) ∧ (i < 32) ∧ (d.octetSt i ≠ 2) ∧ ((∀ j, j < 8 → sget d.mac.tx (8 * i + j) none = none))) ∧
    (let s : State := (wP (fun p => { p with pwr := wAsk }) [] 10005)
    let d := s.dev
    let r := d.pwr.pwr
    let clear := fun c => sget d.eng.dq c [] = [] ∧ d.ordOf c = [] ∧ ∀ n, n / 64 = c → (d.ctx n).st = .free
    let again := r.phase = .asking ∧ r.delayed = true ∧ r.askedAt + 10000 ≤ d.tick ∧ r.kind = 0 ∧ r.pos = 0
    (again) ∧ (clear r.index)) ∧
    (let s : State := (wDqd 9 (wP (fun p => { p with pwr := wAsk }) [(PWR.CFG.DELAY_LIMIT, 1)] 1000003))
    let d := s.dev
    let r := d.pwr.pwr
    let again := r.phase = .asking ∧ r.delayed = true ∧ r.askedAt + 10000 ≤ d.tick ∧ r.kind = 0 ∧ r.pos = 0
    let late := r.since + d.get PWR.CFG.DELAY_LIMIT * 1000000 ≤ d.tick
    (again) ∧ (sget d.eng.dq r.index [] ≠ []) ∧ (late)) ∧
    (let s : State := (wDqd 9 (wP (fun p => { p with pwr := wAsk }) [(PWR.CFG.DELAY_LIMIT, 1)] 1000002))
    let d := s.dev
    let r := d.pwr.pwr
    let again := r.phase = .asking ∧ r.delayed = true ∧ r.askedAt + 10000 ≤ d.tick ∧ r.kind = 0 ∧ r.pos = 0
    let late := r.since + d.get PWR.CFG.DELAY_LIMIT * 1000000 ≤ d.tick
    (again) ∧ (sget d.eng.dq r.index [] ≠ []) ∧ (¬ late)) ∧
    (let s : State := (wP (fun p => { p with pwr := wAsk }) [] 10004)
    let d := s.dev
    let r := d.pwr.pwr
    (d.tick < r.askedAt + 10000)) := by
  refine ⟨?_, ?_, ?_, ?_, ?_, ?_, ?_, ?_, ?_, ?_, ?_, ?_, ?_, ?_, ?_⟩
  · dsimp only [Dev.reaches]; decide +kernel
  · dsimp only [Dev.reaches]; decide +kernel
  · dsimp only [Dev.reaches]; decide +kernel
  · dsimp only [Dev.reaches]; decide +kernel
  · dsimp only [Dev.reaches]; decide +kernel
  · dsimp only [Dev.reaches]; decide +kernel
  · dsimp only [Dev.reaches]; refine ⟨by decide +kernel, by decide, by decide, by decide +kernel, by decide, rfl, fun n _ => rfl⟩
  · dsimp only [Dev.reaches]; decide +kernel
  · dsimp only [Dev.reaches]; refine ⟨by decide +kernel, by decide, by decide, by decide +kernel, by decide, rfl, 577, by decide, by decide +kernel⟩
  · dsimp only [Dev.reaches]; decide +kernel
  · dsimp only [Dev.reaches]; decide +kernel
  · dsimp only; refine ⟨by decide +kernel, by decide, rfl, fun n _ => rfl⟩
  · dsimp only; decide +kernel
  · dsimp only; decide +kernel
  · dsimp only; decide +kernel

theorem test_wit_DomainChanges :
    (let s : State := (wP (fun p => { p with pwr := { wAsk with phase := .entering, woken := true } }) [(PWR.CL_STATE.PARKED, 5)] 0)
    let d := s.dev
    let r := d.pwr.pwr
    (r.phase = .entering) ∧ (r.kind = 0) ∧ (r.index < 64) ∧ (r.target = 1)) ∧
    (let s : State := (wP (fun p => { p with pwr := { wAsk with phase := .entering, kind := 1, target := 2 } }) [(PWR.OCT_STATE.ST, 5)] 0)
    let d := s.dev
    let r := d.pwr.pwr
    (r.phase = .entering) ∧ (r.kind = 1) ∧ (r.index < 32) ∧ ((r.target = 1 ∨ r.target = 2)) ∧ (r.woken = false)) ∧
    (let s : State := (wP (fun p => { p with pwr := wAsk }) [] 0)
    let d := s.dev
    let r := d.pwr.pwr
    (r.phase ≠ .entering)) ∧
    (let s : State := (wP (fun p => { p with pwr := { wAsk with phase := .exiting, need := [(0, 9)] }, waking := [(0, 9), (1, 2)] }) [(PWR.CL_STATE.PARKED, 0x300)] 0)
    let i : Nat := 9
    let d := s.dev
    (i < 64) ∧ ((0, i) ∈ d.pwr.waking)) ∧
    (let s : State := (wP (fun p => { p with pwr := { phase := .undoing, kind := 0, index := 9, target := 1, pos := 1 } }) [(PWR.REQ_STAT.RESULT, 1)] 0)
    let i : Nat := 9
    let d := s.dev
    let r := d.pwr.pwr
    (i < 64) ∧ ((0, i) ∉ d.pwr.waking) ∧ (r.phase = .undoing) ∧ (r.kind = 0) ∧ (r.index = i) ∧ (r.pos = 1)) ∧
    (let s : State := (wP (fun p => { p with waking := [(0, 9), (1, 2)] }) [(PWR.OCT_STATE.ST, 0x50), (MAC.OCTET_MODE.MODE_0 0 2, 3), (MAC.PORT_CFG.RX_EN 18, 1)] 0)
    let i : Nat := 2
    let d := s.dev
    (i < 32) ∧ ((1, i) ∈ d.pwr.waking)) ∧
    (let s : State := (wP id [(ENG.MODE.SLEEP_EN 1 1, 1), (ENG.MODE.IDLE_DELAY 1 1, 5)] 50)
    let i : Nat := 9
    let d := s.dev
    let dozes := d.clusterOn (i / 8) = true ∧ d.is (ENG.MODE.SLEEP_EN (i / 8) (i % 8)) = true ∧ sget d.pwr.dozing i 0 = 0 ∧
      (∀ j, j < 8 → (d.ctx (8 * i + j)).st.idle = true) ∧ sget d.eng.kq i [] = [] ∧ (∀ t ∈ d.qry.txns, t.ctx = 0 ∨ (t.ctx - 1) / 8 ≠ i) ∧ sget d.eng.idleAt i 0 + 10 * d.get (ENG.MODE.IDLE_DELAY (i / 8) (i % 8)) ≤ d.tick
    (i < 512) ∧ (dozes)) ∧
    (let s : State := (wP id [(ENG.MODE.SLEEP_EN 1 1, 1), (ENG.MODE.IDLE_DELAY 1 1, 5)] 49)
    let i : Nat := 9
    let d := s.dev
    let dozes := d.clusterOn (i / 8) = true ∧ d.is (ENG.MODE.SLEEP_EN (i / 8) (i % 8)) = true ∧ sget d.pwr.dozing i 0 = 0 ∧
      (∀ j, j < 8 → (d.ctx (8 * i + j)).st.idle = true) ∧ sget d.eng.kq i [] = [] ∧ (∀ t ∈ d.qry.txns, t.ctx = 0 ∨ (t.ctx - 1) / 8 ≠ i) ∧ sget d.eng.idleAt i 0 + 10 * d.get (ENG.MODE.IDLE_DELAY (i / 8) (i % 8)) ≤ d.tick
    (i < 512) ∧ (¬ dozes)) ∧
    (let s : State := (wP id [(PWR.OCT_STATE.ST, 0x10), (PWR.SL_STATE.SLICE, 1), (PWR.WAKE_CFG.EN, 4)] 0)
    let i : Nat := 2
    let d := s.dev
    let r := d.pwr.pwr
    (i < 32) ∧ (r.phase = .idle) ∧ (d.octetSt i = 1) ∧ (bit (d.get PWR.WAKE_CFG.EN) i = true) ∧ (d.is PWR.SL_STATE.TRIPPED = false)) ∧
    (let s : State := (wP id [(PWR.OCT_STATE.ST, 0x10), (PWR.WAKE_CFG.EN, 4), (PWR.SL_STATE.TRIPPED, 1)] 0)
    let i : Nat := 2
    let d := s.dev
    let r := d.pwr.pwr
    (i < 32) ∧ (r.phase = .idle) ∧ ((d.octetSt i ≠ 1 ∨ bit (d.get PWR.WAKE_CFG.EN) i = false ∨ d.is PWR.SL_STATE.TRIPPED = true))) ∧
    (let s : State := (wP (fun p => { p with pwr := { wAsk with kind := 1, index := 2, target := 1, pos := 1 } }) [(PWR.WAKE_CFG.EN, 4)] 0)
    let i : Nat := 2
    let d := s.dev
    let r := d.pwr.pwr
    (i < 32) ∧ (r.phase = .asking) ∧ (r.kind = 1) ∧ (r.index = i) ∧ (r.target = 1) ∧ (0 < r.pos) ∧ (d.octetSt i = 0) ∧ (bit (d.get PWR.WAKE_CFG.EN) i = true) ∧ (d.is PWR.SL_STATE.TRIPPED = false)) := by
  refine ⟨?_, ?_, ?_, ?_, ?_, ?_, ?_, ?_, ?_, ?_, ?_⟩
  · dsimp only; decide +kernel
  · dsimp only; decide +kernel
  · dsimp only; decide +kernel
  · dsimp only; decide +kernel
  · dsimp only; decide +kernel
  · dsimp only; decide +kernel
  · dsimp only; decide +kernel
  · dsimp only; decide +kernel
  · dsimp only; decide +kernel
  · dsimp only; decide +kernel
  · dsimp only; decide +kernel

theorem test_wit_VoltageAndPace :
    (let s : State := (wP (fun p => { p with avsPend := some 850 }) [(PWR.AVS_CFG.VMAX_MV, 850), (PWR.AVS_STAT.NO_REPLY, 1)] 0)
    let v : Nat := 850
    let d := s.dev
    let p := d.pwr
    (p.avsPend = some v) ∧ (v < 65536) ∧ (d.host.balls = false)) ∧
    (let s : State := (wP id [] 0)
    let d := s.dev
    let p := d.pwr
    (p.avsPend = none ∨ d.host.balls = true)) ∧
    (let s : State := (wP (fun p => { p with avsPend := some 850, avsAt := 5, avsFails := 2 }) [(PWR.AVS_CFG.EN, 1)] 100005)
    let v : Nat := 850
    let d := s.dev
    let p := d.pwr
    let wait := if d.is PWR.AVS_STAT.NO_REPLY then 10000000 else 100000
    (d.is PWR.AVS_CFG.EN = true) ∧ (p.avsPend = some v) ∧ (p.avsAt + wait ≤ d.tick) ∧ (p.avsFails < 3)) ∧
    (let s : State := (wP (fun p => { p with avsPend := some 850, avsAt := 5, avsFails := 3 }) [(PWR.AVS_CFG.EN, 1)] 100005)
    let v : Nat := 850
    let d := s.dev
    let p := d.pwr
    let wait := if d.is PWR.AVS_STAT.NO_REPLY then 10000000 else 100000
    (d.is PWR.AVS_CFG.EN = true) ∧ (p.avsPend = some v) ∧ (p.avsAt + wait ≤ d.tick) ∧ (3 ≤ p.avsFails)) ∧
    (let s : State := (wP (fun p => { p with avsPend := some 850, avsAt := 5, avsFails := 3 }) [(PWR.AVS_STAT.NO_REPLY, 1)] 10000004)
    let d := s.dev
    let p := d.pwr
    let wait := if d.is PWR.AVS_STAT.NO_REPLY then 10000000 else 100000
    ((d.tick < p.avsAt + wait ∨ d.is PWR.AVS_CFG.EN = false))) ∧
    (let s : State := (wP (fun p => { p with govAt := 1, vMeas := 800 }) [(PWR.SL_STATE.SLICE, 0xFE), (PWR.AVS_CFG.EN, 1)] 2000000)
    let d := s.dev
    let p := d.pwr
    let due := p.govAt + d.get PWR.PACE_CFG.PERIOD_US * 1000 ≤ d.tick + 1
    let settled := p.avsAckAt = 0 ∨ p.avsAckAt + 200000 ≤ d.tick + 1
    (due) ∧ (settled)) ∧
    (let s : State := (wP (fun p => { p with govAt := 1, vMeas := 800 }) [(PWR.SL_STATE.SLICE, 0xFE), (PWR.AVS_CFG.EN, 1)] 2000000)
    let paces : List Nat := [90, 5000]
    let d := s.dev
    let p := d.pwr
    let pace := fun k => min (nthD paces k 0) 1023
    let up := d.get PWR.AVS_CFG.STEP_UP_MV
    let due := p.govAt + d.get PWR.PACE_CFG.PERIOD_US * 1000 ≤ d.tick + 1
    let settled := p.avsAckAt = 0 ∨ p.avsAckAt + 200000 ≤ d.tick + 1
    (due) ∧ (settled) ∧ ((∃ k, k < 8 ∧ d.sliceOn k = true)) ∧ ((∀ k, k < 8 → d.sliceOn k = true → pace k < d.get PWR.PACE_CFG.TARGET)) ∧ (up ≠ 0) ∧ (d.is PWR.AVS_CFG.EN = true) ∧ (p.avsPend = none) ∧ (p.avsReqAt = 0) ∧ (d.thermalLimit = false) ∧ (d.get PWR.AVS_CFG.VMIN_MV ≤ d.vReq + up) ∧ (d.vReq + up ≤ d.get PWR.AVS_CFG.VMAX_MV) ∧ (d.get PWR.AVS_CFG.VMAX_MV < 65536)) ∧
    (let s : State := (wP (fun p => { p with govAt := 1, avsAckAt := 1900000 }) [] 2000000)
    let d := s.dev
    let p := d.pwr
    let due := p.govAt + d.get PWR.PACE_CFG.PERIOD_US * 1000 ≤ d.tick + 1
    let settled := p.avsAckAt = 0 ∨ p.avsAckAt + 200000 ≤ d.tick + 1
    (due) ∧ (¬ settled)) := by
  refine ⟨?_, ?_, ?_, ?_, ?_, ?_, ?_, ?_⟩
  · dsimp only; decide +kernel
  · dsimp only; decide +kernel
  · dsimp only; decide +kernel
  · dsimp only; decide +kernel
  · dsimp only; decide +kernel
  · dsimp only; decide +kernel
  · dsimp only; decide +kernel
  · dsimp only; decide +kernel

theorem test_wit_ThermalResponse :
    (let s : State := (wP id [] 0)
    let h : Nat := 1
    let t : Int := 100
    let d := s.dev
    let p := d.pwr
    let warn : Int := d.get PWR.THERM_CFG.WARN
    (h < 2) ∧ (warn ≤ t) ∧ (sget p.thermWarn h 0 ≠ 1)) ∧
    (let s : State := (wP (fun p => { p with thermWarn := [(1, 1)] }) [] 0)
    let h : Nat := 1
    let t : Int := 100
    let d := s.dev
    let p := d.pwr
    let warn : Int := d.get PWR.THERM_CFG.WARN
    (h < 2) ∧ (warn ≤ t) ∧ (sget p.thermWarn h 0 = 1)) ∧
    (let s : State := (wP (fun p => { p with thermWarn := [(1, 1)] }) [] 0)
    let h : Nat := 1
    let t : Int := (-5)
    let d := s.dev
    let warn : Int := d.get PWR.THERM_CFG.WARN
    (h < 2) ∧ (t < warn)) ∧
    (let s : State := (wP (fun p => { p with thermLim := [(1, 2)] }) [] 0)
    let h : Nat := 0
    let t : Int := 105
    let d := s.dev
    let limit : Int := d.get PWR.THERM_CFG.LIMIT
    (h < 2) ∧ (limit ≤ t)) ∧
    (let s : State := (wP (fun p => { p with thermLim := [(1, 1)] }) [] 0)
    let h : Nat := 1
    let t : Int := 103
    let d := s.dev
    let p := d.pwr
    let limit : Int := d.get PWR.THERM_CFG.LIMIT
    (h < 2) ∧ (sget p.thermLim h 0 = 1) ∧ (t < limit)) ∧
    (let s : State := (wP (fun p => { p with thermWarn := [(1, 1)] }) [] 0)
    let h : Nat := 1
    let t : Int := 80
    let d := s.dev
    let p := d.pwr
    let warn : Int := d.get PWR.THERM_CFG.WARN
    let limit : Int := d.get PWR.THERM_CFG.LIMIT
    (h < 2) ∧ (sget p.thermLim h 0 ≠ 1) ∧ (t < limit) ∧ (t ≤ warn - 2)) ∧
    (let s : State := (wP (fun p => { p with waking := [(1, 3), (2, 1)] }) [(PWR.OCT_STATE.ST, 0x10)] 0)
    let h : Nat := 1
    let t : Int := 115
    let d := s.dev
    let p := d.pwr
    (h < 2) ∧ (115 ≤ t) ∧ (d.is PWR.SL_STATE.TRIPPED = false) ∧ (p.pwr.phase ≠ .exiting) ∧ (d.swc.queues = []) ∧ (d.tmu.buoys = []) ∧ (d.mac.tx = [])) ∧
    (let s : State := (wP id [(PWR.SL_STATE.TRIPPED, 1)] 0)
    let h : Nat := 1
    let t : Int := 115
    let d := s.dev
    (h < 2) ∧ (115 ≤ t) ∧ (d.is PWR.SL_STATE.TRIPPED = true)) ∧
    (let s : State := (wP id [(PWR.SL_STATE.TRIPPED, 1)] 0)
    let h : Nat := 1
    let t : Int := 95
    let t1 : Int := (-3)
    let d := s.dev
    let limit : Int := d.get PWR.THERM_CFG.LIMIT
    (h < 2) ∧ (d.is PWR.SL_STATE.TRIPPED = true) ∧ (t ≤ limit - 10) ∧ (t1 ≤ limit - 10)) ∧
    (let s : State := (wP id [(PWR.SL_STATE.TRIPPED, 1)] 0)
    let h : Nat := 1
    let t : Int := 96
    let d := s.dev
    let limit : Int := d.get PWR.THERM_CFG.LIMIT
    (h < 2) ∧ (d.is PWR.SL_STATE.TRIPPED = true) ∧ (limit - 10 < t)) := by
  refine ⟨?_, ?_, ?_, ?_, ?_, ?_, ?_, ?_, ?_, ?_⟩
  · dsimp only; decide +kernel
  · dsimp only; decide +kernel
  · dsimp only; decide +kernel
  · dsimp only; decide +kernel
  · dsimp only; decide +kernel
  · dsimp only; decide +kernel
  · dsimp only; decide +kernel
  · dsimp only; decide +kernel
  · dsimp only; decide +kernel
  · dsimp only; decide +kernel

theorem test_wit_CounterReader :
    (let s : State := (wS (wPut (wAcc [(CTR.CTL.EN, 1), (CTR.SYNC_DONE.PEND, 1), (CTR.SYNC.TOKEN, 55)]) (hbmA 0 (0xA00000000 + 0xC000000 + 0x200500 + 24)) [2 ^ 40 + 78]))
    let d := s.dev
    let base := fun h => d.get (CTR.ACC_BASE.OFFSET h)
    let en := CTR.CTL.EN
    (d.is en = true) ∧ (d.sweepWaits = false) ∧ (d.bad = []) ∧ ((∀ h, h < 2 → base h < 0x200000000))) ∧
    (let s : State := (wS (wAcc []))
    let d := s.dev
    let en := CTR.CTL.EN
    let off := d.is en = false
    (off ∨ d.sweepWaits = true)) ∧
    (let s : State := (wS (wAcc [(CTR.CTL.INIT_DONE, 1)]))
    let d := s.dev
    let en := CTR.CTL.EN
    let off := d.is en = false
    (d.reaches en) ∧ (off) ∧ (d.accOk 0 = true) ∧ (d.accOk 1 = true) ∧ (d.is CTR.CTL.INIT_DONE = true)) ∧
    (let s : State := (wS (wAcc []))
    let d := s.dev
    let en := CTR.CTL.EN
    let off := d.is en = false
    (d.reaches en) ∧ (off) ∧ (d.accOk 0 = true) ∧ (d.accOk 1 = true) ∧ (d.is CTR.CTL.INIT_DONE = false)) ∧
    (let s : State := (wS (wAcc [(CTR.ACC_BASE.OFFSET 1, 0x8000000)]))
    let d := s.dev
    let en := CTR.CTL.EN
    let off := d.is en = false
    (d.reaches en) ∧ (off) ∧ ((d.accOk 0 = false ∨ d.accOk 1 = false))) ∧
    (let s : State := (wS (wAcc [(CTR.CTL.EN, 1)]))
    let d := s.dev
    let en := CTR.CTL.EN
    (d.reaches en) ∧ (d.is en = true)) ∧
    (let s : State := (wS (wAcc [(CTR.CTL.EN, 1)]))
    let d := s.dev
    let en := CTR.CTL.EN
    (d.reaches CTR.SYNC.TOKEN) ∧ (d.is en = true)) ∧
    (let s : State := (wS (wAcc []))
    let d := s.dev
    let en := CTR.CTL.EN
    let off := d.is en = false
    (d.reaches CTR.SYNC.TOKEN) ∧ (off)) := by
  refine ⟨?_, ?_, ?_, ?_, ?_, ?_, ?_, ?_⟩
  · dsimp only; decide +kernel
  · dsimp only; decide +kernel
  · dsimp only [Dev.reaches]; decide +kernel
  · dsimp only [Dev.reaches]; decide +kernel
  · dsimp only [Dev.reaches]; decide +kernel
  · dsimp only [Dev.reaches]; decide +kernel
  · dsimp only [Dev.reaches]; decide +kernel
  · dsimp only [Dev.reaches]; decide +kernel

theorem test_wit_BandwidthWindows :
    (let s : State := (wS (wBw { CtrSt.reset with bwRx := [(73, 900)] } []))
    let l : Nat := 2
    let j : Nat := 5
    let d := s.dev
    let k := 34 * l + j
    let live := sget d.ctr.bwLive k 0
    let ends := d.is (SCT.BW_CFG.EN l j) = true ∧ d.sliceParked l = false ∧ d.tick % (d.get (SCT.BW_CFG.WIN_US l j) * 1000) = 0 ∧ live ≠ d.tick + 1
    (l < 8) ∧ (j < 34) ∧ (ends) ∧ (live = 0)) ∧
    (let s : State := (wS (wBw { bwRx := [(73, 900)], bwTx := [(73, 60)], bwLive := [(73, 4001)] } [(SCT.BW_RX.SEQ 2 5, 65535)]))
    let l : Nat := 2
    let j : Nat := 5
    let d := s.dev
    let k := 34 * l + j
    let live := sget d.ctr.bwLive k 0
    let ends := d.is (SCT.BW_CFG.EN l j) = true ∧ d.sliceParked l = false ∧ d.tick % (d.get (SCT.BW_CFG.WIN_US l j) * 1000) = 0 ∧ live ≠ d.tick + 1
    (l < 8) ∧ (j < 34) ∧ (ends) ∧ (live ≠ 0)) ∧
    (let s : State := (wS (wBw { bwRx := [(73, 900)], bwTx := [(73, 60)], bwLive := [(73, 8001)] } []))
    let l : Nat := 2
    let j : Nat := 5
    let d := s.dev
    let k := 34 * l + j
    let live := sget d.ctr.bwLive k 0
    let ends := d.is (SCT.BW_CFG.EN l j) = true ∧ d.sliceParked l = false ∧ d.tick % (d.get (SCT.BW_CFG.WIN_US l j) * 1000) = 0 ∧ live ≠ d.tick + 1
    (l < 8) ∧ (j < 34) ∧ (¬ ends)) ∧
    (let s : State := (wS (wBw { bwRx := [(73, 900)], bwTx := [(73, 60)], bwLive := [(73, 4001)] } []))
    let l : Nat := 2
    let j : Nat := 5
    let v : Nat := 0x200005
    let d := s.dev
    let us := v % 2 ^ 20
    (l < 8) ∧ (j < 34) ∧ (d.reaches (SCT.BW_CFG.WIN_US l j)) ∧ ((j ≠ 32 ∨ l = 0)) ∧ (1 ≤ us) ∧ (us ≤ 1000000)) ∧
    (let s : State := (wS (wBw CtrSt.reset [(SCT.BW_PEAK.RX_PEAK 2 5, 9), (SCT.BW_PEAK.TX_PEAK 2 5, 8)]))
    let l : Nat := 2
    let j : Nat := 5
    let d := s.dev
    (l < 8) ∧ (j < 34) ∧ (d.reaches (SCT.BW_PEAK.RX_PEAK l j))) ∧
    (let s : State := (wS wDev)
    let l : Nat := 2
    let j : Nat := 32
    let d := s.dev
    (l < 8) ∧ (j < 34) ∧ (d.reaches (SCT.BW_CFG.WIN_US l j)) ∧ (j = 32) ∧ (l ≠ 0)) := by
  refine ⟨?_, ?_, ?_, ?_, ?_, ?_⟩
  · dsimp only; decide +kernel
  · dsimp only; decide +kernel
  · dsimp only; decide +kernel
  · dsimp only [Dev.reaches]; decide +kernel
  · dsimp only [Dev.reaches]; decide +kernel
  · dsimp only [Dev.reaches]; decide +kernel


-- The machine as a whole.

theorem test_wit_SoundKept : ∃ t : State, wDev.sound ∧ step ⟨wDev, [.lockWrite 1]⟩ = .next t := ⟨_, ⟨by decide +kernel, by decide +kernel, by dsimp only [TmuSt.legal]; decide +kernel⟩, rfl⟩
theorem test_wit_IdleTick : Dev.reset.inCold = true ∧ wDev.inCold = false ∧ wDev.is TMU.CTL.RUN = false := by decide +kernel

end Sys2Proof.Tests
end

section
/-! PROOFS. The parser's host writes and lookups: writes of the words of a profile (R93), the pre-selector (R82, R83) and the lookup among prefixes (R129). -/

namespace Sys2Proof.Machine

open Sys2Proof

-- Words without error.

/-- With no word in error, no word reads as one. -/
theorem Dev.badAt_of_bad_nil {d : Dev} (h : d.bad = []) (a : Nat) : d.badAt a = 0 := by
  rw [Dev.badAt, h, sget_nil]

theorem Dev.fldBad_of_bad_nil {d : Dev} (h : d.bad = []) (f : Fld) (n : Nat) : d.fldBad f n = false := by
  simp [Dev.fldBad, Dev.badAt_of_bad_nil h]

theorem Dev.fwdBadWord_of_bad_nil {d : Dev} (h : d.bad = []) (s t k : Nat) (ws : List Nat) : d.fwdBadWord s t k ws = none := by
  simp [Dev.fwdBadWord, Dev.badAt_of_bad_nil h]

-- The pre-selector (R82, R83).

/-- Entry `i` of the pre-selector is valid and agrees with the selector under its mask. -/
def Dev.preselHit (d : Dev) (s x sel i : Nat) : Bool :=
  d.is (PRS.PRESEL_RESULT.VALID s x i) &&
    Nat.land sel (d.get (PRS.PRESEL_MASK.W s x i)) == Nat.land (d.get (PRS.PRESEL_KEY.W s x i)) (d.get (PRS.PRESEL_MASK.W s x i))

/-- Without parity errors, the entry that the pre-selector reads decides: it is taken, or the next one is read. -/
theorem Dev.presel_succ {d : Dev} (h : d.bad = []) (s x sel n i : Nat) :
    d.presel s x sel (n + 1) i = if d.preselHit s x sel i then (some i, d) else d.presel s x sel n (i + 1) := by
  simp only [Dev.presel, List.find?_cons, List.find?_nil, Dev.fldBad_of_bad_nil h]
  rfl

/-- Without parity errors, the pre-selector takes the first of the `n` entries from `i` on that matches. -/
theorem Dev.presel_eq_find? {d : Dev} (h : d.bad = []) (s x sel n i : Nat) :
    d.presel s x sel n i = ((List.range' i n).find? (d.preselHit s x sel), d) := by
  induction n generalizing i with
  | zero => rfl
  | succ n ih =>
    rw [Dev.presel_succ h, List.range'_succ, List.find?_cons, ih]
    cases d.preselHit s x sel i <;> rfl

theorem presel_takes_first_match : preselectorSays := by
  intro d sl x sel h
  rw [Dev.presel_eq_find? h, ← List.range_eq_range']
  rfl

-- The longest of the prefixes that cover an address (R127, R129).

/-- The prefixes that compete for an address: live, covering it, and in the set (log entry 19). -/
def Dev.prefixesFor (d : Dev) (s x vrf : Nat) (v6 : Bool) (addr : Nat) : List Nat :=
  (d.prefixLive s).filter (fun k => d.prefixCovers s vrf v6 addr k && fwSETS (d.fwdW s 2 k 0) x)

theorem Dev.mem_prefixesFor {d : Dev} {s x vrf : Nat} {v6 : Bool} {addr k : Nat} :
    k ∈ d.prefixesFor s x vrf v6 addr ↔
      k ∈ d.prefixLive s ∧ d.prefixCovers s vrf v6 addr k = true ∧ fwSETS (d.fwdW s 2 k 0) x = true := by
  simp [Dev.prefixesFor]

/-- Prefixes that are live are valid and not retired. -/
theorem Dev.valid_of_mem_prefixLive {d : Dev} {s k : Nat} (h : k ∈ d.prefixLive s) :
    fwVALID (d.fwdW s 2 k 0) = true ∧ fwRETIRED (d.fwdW s 2 k 0) = false := by
  have hk := (List.mem_filter.1 h).2
  simp only [Bool.and_eq_true, Bool.not_eq_true'] at hk
  obtain ⟨⟨⟨hv, hr⟩, -⟩, -⟩ := hk
  exact ⟨hv, hr⟩

/-- A search keeps the longest of the prefixes met so far, and of equally long ones the first. -/
def longerOf (len : Nat → Nat) : Option Nat → Nat → Option Nat
  | none, k => some k
  | some j, k => some (maxOn len j k)

theorem foldl_longerOf_some (len : Nat → Nat) (j : Nat) (l : List Nat) :
    l.foldl (longerOf len) (some j) = some (l.foldl (maxOn len) j) :=
  List.foldl_hom some (fun _ _ => rfl)

/-- The search over a list answers the longest of its members. -/
theorem foldl_longerOf (len : Nat → Nat) (l : List Nat) : l.foldl (longerOf len) none = l.maxOn? len := by
  cases l with
  | nil => exact List.maxOn?_nil.symm
  | cons j l =>
    rw [List.foldl_cons, longerOf, foldl_longerOf_some]
    rfl

/-- Without parity errors, the lookup answers the first of the longest prefixes that compete. -/
theorem Dev.prefixFind_eq_maxOn? {d : Dev} (h : d.bad = []) (s x vrf : Nat) (v6 : Bool) (addr : Nat) :
    (d.prefixFind s x vrf v6 addr).1 = (d.prefixesFor s x vrf v6 addr).maxOn? (fun k => fwLEN (d.fwdW s 2 k 0)) := by
  have noBad : ∀ l ws, List.find? (fun k => (d.fwdBadWord s 2 k ws).isSome) l = none := fun l ws => by
    simp only [Dev.fwdBadWord_of_bad_nil h, Option.isSome_none, List.find?_eq_none]
    exact fun _ _ => Bool.false_ne_true
  simp only [Dev.prefixFind, noBad]
  rw [← foldl_longerOf, ← Dev.prefixesFor]
  congr 1
  funext b k
  cases b with
  | none => rfl
  | some j =>
    simp only [longerOf, maxOn_eq_if, Nat.blt_eq, ← Nat.not_lt, ite_not, apply_ite some]

theorem prefixFind_answers_longest : longestPrefixSays := by
  intro d sl x vrf addr k v6 h
  rw [Dev.prefixFind_eq_maxOn? h]
  refine ⟨fun hn j hj hc => ?_, fun hk => ?_⟩
  · have hnot : j ∉ d.prefixesFor sl x vrf v6 addr := fun hm => by
      have hsome := List.isSome_maxOn?_of_mem (f := fun k => fwLEN (d.fwdW sl 2 k 0)) hm
      rw [hn] at hsome
      exact Bool.false_ne_true hsome
    exact Bool.eq_false_iff.2 fun hs => hnot (Dev.mem_prefixesFor.2 ⟨hj, hc, hs⟩)
  · obtain ⟨hl, hc, hs⟩ := Dev.mem_prefixesFor.1 (List.maxOn?_mem hk)
    obtain ⟨hv, hr⟩ := Dev.valid_of_mem_prefixLive hl
    refine ⟨hc, hs, hv, hr, fun j hj hjc hjs => ?_⟩
    have hle := List.le_apply_get_maxOn?_of_mem (f := fun k => fwLEN (d.fwdW sl 2 k 0)) (Dev.mem_prefixesFor.2 ⟨hj, hjc, hjs⟩)
    simpa only [hk, Option.get_some] using hle

/-- Settles O25: the pre-selector is the first match of a list, the lookup among prefixes the longest of one. -/
theorem preselectAndPrefix : Obligations.PreselectAndPrefix := ⟨presel_takes_first_match, prefixFind_answers_longest⟩

-- Writing the fields of a word.

/-- Writes a list of fields, in order. -/
def Dev.setFlds (d : Dev) (l : List (Fld × Nat)) : Dev := l.foldl (fun d y => d.set y.1 y.2) d

@[simp] theorem Dev.setFlds_nil (d : Dev) : d.setFlds [] = d := rfl
@[simp] theorem Dev.setFlds_cons (d : Dev) (y : Fld × Nat) (l : List (Fld × Nat)) : d.setFlds (y :: l) = (d.set y.1 y.2).setFlds l := rfl

@[simp] theorem Dev.setFlds_mem (d : Dev) (l : List (Fld × Nat)) : (d.setFlds l).mem = d.mem := by
  induction l generalizing d with
  | nil => rfl
  | cons y l ih => simp [ih]

/-- Fields whose keys are not listed read as before. -/
theorem regsSame_setFlds (d : Dev) (l : List (Fld × Nat)) : regsSame d (d.setFlds l) (l.map (fun y => y.1.key)) := by
  intro f hf
  induction l generalizing d with
  | nil => rfl
  | cons y l ih =>
    simp only [List.map_cons, List.mem_cons, not_or] at hf
    obtain ⟨hy, hl⟩ := hf
    rw [Dev.setFlds_cons, ih _ hl, Dev.get_set_ne _ _ hy]

/-- Distinct fields read as the values written, where these fit. -/
theorem Dev.get_setFlds (d : Dev) {l : List (Fld × Nat)} (hk : (l.map (fun y => y.1.key)).Nodup) (hv : ∀ y ∈ l, y.2 < 2 ^ y.1.w) :
    ∀ y ∈ l, (d.setFlds l).get y.1 = y.2 := by
  induction l generalizing d with
  | nil => simp
  | cons z l ih =>
    simp only [List.map_cons, List.nodup_cons] at hk
    obtain ⟨hz, hl⟩ := hk
    rw [List.forall_mem_cons] at hv ⊢
    obtain ⟨hvz, hvl⟩ := hv
    refine ⟨?_, ih _ hl hvl⟩
    rw [Dev.setFlds_cons, regsSame_setFlds _ l _ hz, Dev.get_set_self, Nat.mod_eq_of_lt hvz]

-- Profiles (R93, Tables 4.4 and 4.5).

/-- The fields of word `w` of profile `p`, with the values that a write of `v` gives them. -/
def profileFlds (s p w v : Nat) : List (Fld × Nat) :=
  if w = 0 then
    [(PRS.PROFILE_HDR.L3_OFF s p, bits v 7 0), (PRS.PROFILE_HDR.L4_OFF s p, bits v 15 8), (PRS.PROFILE_HDR.INNER_OFF s p, bits v 23 16),
      (PRS.PROFILE_HDR.INNER_L3_OFF s p, bits v 31 24), (PRS.PROFILE_HDR.INNER_L4_OFF s p, bits v 39 32), (PRS.PROFILE_HDR.PAY_OFF s p, bits v 47 40),
      (PRS.PROFILE_HDR.FLAGS s p, bits v 55 48), (PRS.PROFILE_HDR.KEYTYPE s p, bits v 59 56)]
  else [(PRS.PROFILE_CMD.LO s p (w - 1), cmdHeld (bits v 31 0)), (PRS.PROFILE_CMD.HI s p (w - 1), cmdHeld (bits v 63 32))]

/-- A command as held is no larger than as written. -/
theorem cmdHeld_le (c : Nat) : cmdHeld c ≤ c := by
  unfold cmdHeld
  split
  · exact Nat.and_le_left
  · exact Nat.and_le_left
  · exact Nat.and_le_left
  · exact Nat.le_refl c

theorem bits_lt (v hi lo : Nat) : bits v hi lo < 2 ^ (hi - lo + 1) := Nat.mod_lt _ (Nat.two_pow_pos _)

/-- The values that a write gives the fields of a profile's word fit them. -/
theorem profileFlds_fit (s p w v : Nat) : ∀ y ∈ profileFlds s p w v, y.2 < 2 ^ y.1.w := by
  unfold profileFlds
  split
  · simp only [List.forall_mem_cons]
    exact ⟨bits_lt .., bits_lt .., bits_lt .., bits_lt .., bits_lt .., bits_lt .., bits_lt .., bits_lt .., by simp⟩
  · simp only [List.forall_mem_cons]
    exact ⟨Nat.lt_of_le_of_lt (cmdHeld_le _) (bits_lt ..), Nat.lt_of_le_of_lt (cmdHeld_le _) (bits_lt ..), by simp⟩

/-- The fields of a profile's word stand at distinct bits. -/
theorem profileFlds_nodup (s p w v : Nat) : ((profileFlds s p w v).map (fun y => y.1.key)).Nodup := by
  unfold profileFlds
  split
  · simp [PRS.PROFILE_HDR.L3_OFF, PRS.PROFILE_HDR.L4_OFF, PRS.PROFILE_HDR.INNER_OFF, PRS.PROFILE_HDR.INNER_L3_OFF,
      PRS.PROFILE_HDR.INNER_L4_OFF, PRS.PROFILE_HDR.PAY_OFF, PRS.PROFILE_HDR.FLAGS, PRS.PROFILE_HDR.KEYTYPE]
  · simp [PRS.PROFILE_CMD.LO, PRS.PROFILE_CMD.HI]

/-- A write of a profile's word writes its fields; the word carries no error afterwards. -/
theorem Dev.profileSet_eq (d : Dev) (s p w v : Nat) :
    ∃ b, d.profileSet s p w v = ({ d with bad := b } : Dev).setFlds (profileFlds s p w v) := by
  refine ⟨clearBad d.bad (bar0W ((PRS.PROFILE_HDR.L3_OFF s p).key / 8 + 8 * w)) 8, ?_⟩
  unfold Dev.profileSet profileFlds
  split <;> rfl

/-- What a write of a profile's word leaves: no memory changes, its fields have their values, every other field is as before. -/
theorem Dev.profileSet_says (d : Dev) (s p w v : Nat) : memSame d (d.profileSet s p w v) ∧
    (∀ y ∈ profileFlds s p w v, (d.profileSet s p w v).get y.1 = y.2) ∧
    regsSame d (d.profileSet s p w v) ((profileFlds s p w v).map (fun y => y.1.key)) := by
  obtain ⟨b, hb⟩ := d.profileSet_eq s p w v
  rw [hb]
  exact ⟨memSame_of_mem (by simp), Dev.get_setFlds _ (profileFlds_nodup ..) (profileFlds_fit s p w v),
    regsSame_trans (regsSame_of_flds _ rfl) (regsSame_setFlds _ _)⟩

/-- A valid pre-selector entry of set `x` with GRAPH = 0 names profile `p`. -/
def Dev.preselNames (d : Dev) (s p x : Nat) : Prop :=
  ∃ i, i < 64 ∧ d.is (PRS.PRESEL_RESULT.VALID s x i) = true ∧ d.is (PRS.PRESEL_RESULT.GRAPH s x i) = false ∧ d.get (PRS.PRESEL_RESULT.PROFILE s x i) = p

/-- R93: when a profile is in use. -/
theorem Dev.profileUsed_iff (d : Dev) (s p : Nat) : d.profileUsed s p = true ↔
    d.preselNames s p (d.get (GLB.PART_CTL.ACTIVE s)) ∨
      ((d.is (GLB.PART_CTL.RETIRING s) = true ∨ d.is (GLB.PART_CTL.ARM s) = true) ∧ d.preselNames s p (1 - d.get (GLB.PART_CTL.ACTIVE s))) := by
  have hother : d.otherSetLive s = true ↔ d.is (GLB.PART_CTL.RETIRING s) = true ∨ d.is (GLB.PART_CTL.ARM s) = true := Bool.or_eq_true_iff
  rw [← hother]
  cases h : d.otherSetLive s <;> simp [Dev.profileUsed, Dev.preselNames, h, and_assoc]

/-- A host write of a profile in use, with profiles on, is refused. -/
theorem Dev.profileWrite_refused {d : Dev} {s p : Nat} (w v : Nat) (hoff : ¬ d.is (PRS.PROF_CTL.PROFILE_OFF s) = true) (hu : d.profileUsed s p = true) :
    d.profileWrite false s p w v = (d.set (PRS.PROF_CTL.PROFILE_BUSY s) 1).raise (EV_PRS_PROFILE_BUSY s) := by
  simp [Dev.profileWrite, hoff, hu]

/-- Any other host write of a profile is done. -/
theorem Dev.profileWrite_accepted {d : Dev} {s p : Nat} (w v : Nat) (h : d.is (PRS.PROF_CTL.PROFILE_OFF s) = true ∨ ¬ d.profileUsed s p = true) :
    d.profileWrite false s p w v = d.profileSet s p w v := by
  obtain hoff | hu := h
  · simp [Dev.profileWrite, hoff]
  · simp [Dev.profileWrite, hu]

/-- An event that is raised is raised. -/
theorem raised_raise (d : Dev) (n : Nat) : raised (d.raise n) n := by
  have hlt : n % 16 < 16 := Nat.mod_lt _ (by decide)
  have hw : (GLB.EVT_STAT.STAT (n / 16)).w = 16 := rfl
  rw [raised, Dev.raise, Dev.setBitF, Dev.get_set_self, hw, bit_eq, Nat.testBit_mod_two_pow, ← bit_eq, bit_setBit]
  simp [hlt]

/-- Raising an event changes its bit's register alone. -/
theorem regsSame_raise (d : Dev) (n : Nat) {ks : List Nat} (h : (GLB.EVT_STAT.STAT (n / 16)).key ∈ ks) : regsSame d (d.raise n) ks :=
  regsSame_set d _ _ h

/-- A write of a profile that reaches its word completes with the effect of `profileWrite`. -/
theorem completes_profileWrite {s : State} {sl p w v : Nat} {P : Dev → Prop} (hsl : sl < 8) (hp : p < 64) (hw : w < 16)
    (hh : s.dev.reaches (PRS.PROFILE_HDR.L3_OFF sl p)) (hc : s.dev.reaches (PRS.PROFILE_CMD.LO sl p (w - 1)))
    (hP : P (s.dev.profileWrite false sl p w v)) : completes (.profileWrite sl p w v) s P := by
  have e : exec (.profileWrite sl p w v) s = hostAct s (if w = 0 then PRS.PROFILE_HDR.L3_OFF sl p else PRS.PROFILE_CMD.LO sl p (w - 1))
      (fun d => d.profileWrite false sl p w v) := by
    show execProfileWrite sl p w v s = _
    rw [execProfileWrite, Nat.mod_eq_of_lt hsl, Nat.mod_eq_of_lt hp, Nat.mod_eq_of_lt hw]
  exact completes_of_hostAct e (by split <;> assumption) hP

/-- The refused write stores nothing, sets PROFILE_BUSY and raises its event. -/
theorem profileBusy_says (d : Dev) (sl : Nat) :
    let e := (d.set (PRS.PROF_CTL.PROFILE_BUSY sl) 1).raise (EV_PRS_PROFILE_BUSY sl)
    memSame d e ∧ e.is (PRS.PROF_CTL.PROFILE_BUSY sl) = true ∧ raised e (EV_PRS_PROFILE_BUSY sl) ∧
      regsSame d e [(PRS.PROF_CTL.PROFILE_BUSY sl).key, (GLB.EVT_STAT.STAT (EV_PRS_PROFILE_BUSY sl / 16)).key] := by
  intro e
  have hne : (PRS.PROF_CTL.PROFILE_BUSY sl).key ≠ (GLB.EVT_STAT.STAT (EV_PRS_PROFILE_BUSY sl / 16)).key := by
    simp only [PRS.PROF_CTL.PROFILE_BUSY, GLB.EVT_STAT.STAT, EV_PRS_PROFILE_BUSY]
    omega
  have hbusy : e.get (PRS.PROF_CTL.PROFILE_BUSY sl) = 1 := by
    rw [regsSame_raise _ _ (List.mem_singleton_self _) _ (by simpa using hne), Dev.get_set_self]
    rfl
  exact ⟨memSame_of_mem rfl, by simp [Dev.is, hbusy], raised_raise _ _,
    regsSame_trans (regsSame_set _ _ _ (by simp)) (regsSame_raise _ _ (by simp))⟩

/-- Settles O21: `profileUsed` is R93's condition; the write is refused under it, and else sets the fields of its word. -/
theorem profilesInUse : Obligations.ProfilesInUse := by
  intro s sl p w v d act names inUse off lo hi hdr hsl hp hw hh hc
  have hused : d.profileUsed sl p = true ↔ inUse := d.profileUsed_iff sl p
  obtain ⟨hmem, hget, hregs⟩ := d.profileSet_says sl p w v
  have accepted (hacc : off ∨ ¬ inUse) := Dev.profileWrite_accepted w v (hacc.imp_right (mt hused.1))
  refine ⟨fun hoff hu => completes_profileWrite hsl hp hw hh hc ?_, fun hacc hw1 => completes_profileWrite hsl hp hw hh hc ?_,
    fun hacc hw0 => completes_profileWrite hsl hp hw hh hc ?_⟩
  · rw [Dev.profileWrite_refused w v hoff (hused.2 hu)]
    exact profileBusy_says d sl
  · have hflds : profileFlds sl p w v = [(lo, cmdHeld (bits v 31 0)), (hi, cmdHeld (bits v 63 32))] := if_neg (by omega)
    rw [hflds] at hget hregs
    rw [accepted hacc]
    simp only [List.forall_mem_cons] at hget
    obtain ⟨hlo, hhi, -⟩ := hget
    exact ⟨hmem, hlo, hhi, hregs⟩
  · have hflds : profileFlds sl p w v = hdr := if_pos hw0
    rw [hflds] at hget hregs
    rw [accepted hacc]
    exact ⟨hmem, hget, hregs⟩

end Sys2Proof.Machine
end
